-- ==== Sys2Proof/Word.lean ====
section
/-! DEFINITION. The words of the part: bytes, line time, the local count and the index types of its collections. -/

namespace Sys2Proof

/-- One byte of a frame (R1). -/
abbrev Byte := BitVec 8

/-- Line time: an unsigned count of microseconds held in 32 bits, wrapping (R33, 5.1). -/
abbrev LineTime := BitVec 32

/-- The local count: an unsigned 32-bit count of periods of 1/8 µs, wrapping (R32, 5.2). -/
abbrev Count := BitVec 32

/-- A counter of 16 bits that wraps from 65535 to 0 (R11 and the other chapters' counters). -/
abbrev Counter16 := BitVec 16

/-- A station number, 0 to 15 (R3). -/
abbrev StationNo := Fin 16

/-- A measurement channel MC0 to MC7 (3). -/
abbrev ChannelNo := Fin 8

/-- A channel group: 0 is group A and 1 is group B (3.7, R209). -/
abbrev GroupNo := Fin 2

/-- A capture unit CU0 to CU3 (4). -/
abbrev CaptureNo := Fin 4

/-- A switching unit SU0 to SU3 (9). -/
abbrev UnitNo := Fin 4

/-- A switching output SO0 to SO7 (9.1). -/
abbrev OutputNo := Fin 8

/-- An own claim slot, 0 or 1 (8.3). -/
abbrev SlotNo := Fin 2

/-- A definition place of a switching unit, 0 to 5 (9.2). -/
abbrev DefNo := Fin 6

end Sys2Proof
end

