-- ==== Sys2Proof/Syntax.lean ====
section
/-! DEFINITION. The commands of the part: one constructor for each row of spec/opcode_table.json, with the operands that the
rules of the row need. The table gives no row an operand; the operands are the model's (notes/assumptions/1.md). -/

namespace Sys2Proof

/-- One receiver of a delivery that several blocks get at once: a time step event (R41) goes to both groups, the
scaling watch, the planner and the units; a trip view onset (R104) goes to the planner and the units. The spec gives
these deliveries no order, so a command that may bring one carries the order (notes/assumptions/6.md). -/
inductive Dependant where
  | group (g : GroupNo)
  | scalingWatch
  | planner
  | unit (u : UnitNo)
  deriving DecidableEq, Repr

/-- Which reference of the turbine supervisor ages (R93). -/
inductive SpeedReference where
  | revolution
  | tooth
  deriving DecidableEq, Repr

/-- What a command tells of an edge of a pulse input (R73): the levels of PI0 to PI7 that the period's sample shows, bit i for
PIi, and the order of the onset the edge may bring (R104). -/
structure PulseEdge where
  sample : BitVec 8
  order : List Dependant
  deriving DecidableEq, Repr

/-- The commands: the part's events and the requests of its service port, one for each row of the table. A request's
operand is its payload as received, so that its LENGTH is the payload's length (R195, R216). -/
inductive Instr where
  /-- POWER_ON (R201): the strap pins as read, and whether the service receive line is high as the reset ends (R200). -/
  | powerOn (straps : StationNo) (serviceHigh : Bool)
  /-- RESET_PIN (R201): as POWER_ON, and whether a power-on reset is still in progress at the release. -/
  | resetPin (straps : StationNo) (serviceHigh : Bool) (powerOnInProgress : Bool)
  /-- SERVICE_BREAK (R200): the straps, and whether the line has been seen high since the last reset ended. -/
  | serviceBreak (straps : StationNo) (seenHigh : Bool)
  /-- BOOT_CHECK_END (R202): the check's result, and whether the station line is high at that moment (R4). -/
  | bootCheckEnd (passed : Bool) (lineHigh : Bool)
  /-- CHARACTER_ERROR (R5): whether the stop bit was the one in error. -/
  | characterError (stopBit : Bool)
  /-- LONG_FRAME (R8): the LENGTH byte taken. -/
  | longFrame (length : Byte)
  /-- GAP (R4). -/
  | gap
  /-- QUIET_MOMENT (R4). -/
  | quietMoment
  /-- FRAME_RECEIVED (R9): the check byte taken, and the order of the deliveries the frame may bring. -/
  | frameReceived (check : Byte) (order : List Dependant)
  /-- NOTICE_START (R24). -/
  | noticeStart
  /-- COLLISION (R25). -/
  | collision
  /-- NOTICE_SENT_WHOLE (R24). -/
  | noticeSentWhole
  /-- PEER_SILENCE (R22) of one row. -/
  | peerSilence (station : StationNo)
  /-- SILENCE_TIMER_STOP (R22) of one row. -/
  | silenceTimerStop (station : StationNo)
  /-- BEACON (R36). -/
  | beacon
  /-- JOIN_TIMER_EXPIRY (R42). -/
  | joinTimerExpiry
  /-- CHANNEL_START (R47). -/
  | channelStart
  /-- MAIN_OUTPUT (R51): the bits sampled at the counted edges since the channel's last output of either filter, in the
  order sampled. -/
  | mainOutput (channel : ChannelNo) (bits : List Bool)
  /-- GUARD_OUTPUT (R53): the bits sampled at the counted edges since the channel's last output of either filter, in the
  order sampled. -/
  | guardOutput (channel : ChannelNo) (bits : List Bool)
  /-- SET_BOUNDARY (R62) of one group. -/
  | setBoundary (group : GroupNo)
  /-- SLAVE_EDGE (R76) at one unit. -/
  | slaveEdge (unit : CaptureNo) (edge : PulseEdge)
  /-- MASTER_EDGE (R78) at one unit. -/
  | masterEdge (unit : CaptureNo) (edge : PulseEdge)
  /-- POLL_TIMER_EXPIRY (R84) of one unit. -/
  | pollTimerExpiry (unit : CaptureNo)
  /-- REFERENCE_AGEING (R93). -/
  | referenceAgeing (which : SpeedReference)
  /-- STALL (R93). -/
  | stall
  /-- INTERVAL_BOUNDARY (R125). -/
  | intervalBoundary
  /-- OWN_START_REACHED (R160) of one own slot. -/
  | ownStartReached (slot : SlotNo)
  /-- ENTRY_EXPIRY (R151): every entry whose end is reached. -/
  | entryExpiry
  /-- SETTLE_TIMER_EXPIRY (R163) of one own slot. -/
  | settleTimerExpiry (slot : SlotNo)
  /-- EDGE_DUE (R179) at one unit. -/
  | edgeDue (unit : UnitNo)
  /-- READ_STATUS (R212). -/
  | readStatus (payload : List Byte)
  /-- READ_PEER (R213). -/
  | readPeer (payload : List Byte)
  /-- READ_TIME (R214). -/
  | readTime (payload : List Byte)
  /-- READ_SAMPLES (R70). -/
  | readSamples (payload : List Byte)
  /-- READ_CHANNEL (R71). -/
  | readChannel (payload : List Byte)
  /-- READ_CAPTURE (R88). -/
  | readCapture (payload : List Byte)
  /-- READ_TURBINE (R107). -/
  | readTurbine (payload : List Byte)
  /-- READ_HEAT (R121). -/
  | readHeat (payload : List Byte)
  /-- READ_SCALING (R143). -/
  | readScaling (payload : List Byte)
  /-- READ_WINDOWS (R171). -/
  | readWindows (payload : List Byte)
  /-- READ_UNIT (R193). -/
  | readUnit (payload : List Byte)
  /-- READ_WATCH (R211). -/
  | readWatch (payload : List Byte)
  /-- START_PUMP (R153). -/
  | startPump (payload : List Byte)
  /-- STOP_PUMP (R183). -/
  | stopPump (payload : List Byte)
  /-- TRIP (R99), with the order of the onset it may bring. -/
  | trip (payload : List Byte) (order : List Dependant)
  /-- RESET_TRIP (R100). -/
  | resetTrip (payload : List Byte)
  /-- ACK_SCALING (R140). -/
  | ackScaling (payload : List Byte)
  /-- CAPTURE_BASELINE (R141). -/
  | captureBaseline (payload : List Byte)
  /-- CLEAR_HEAT (R122). -/
  | clearHeat (payload : List Byte)
  /-- CLEAR_ATTENTION (R209). -/
  | clearAttention (payload : List Byte)
  /-- SET_STATION (R204). -/
  | setStation (payload : List Byte)
  /-- SET_CHANNEL (R59). -/
  | setChannel (payload : List Byte)
  /-- SET_GROUP (R60). -/
  | setGroup (payload : List Byte)
  /-- SET_CAPTURE (R86). -/
  | setCapture (payload : List Byte)
  /-- SET_TURBINE (R106). -/
  | setTurbine (payload : List Byte)
  /-- SET_HEAT (R120). -/
  | setHeat (payload : List Byte)
  /-- SET_SCALING (R142). -/
  | setScaling (payload : List Byte)
  /-- SET_WINDOW (R146), the add form. -/
  | setWindow (payload : List Byte)
  /-- SET_WINDOW_CLEAR (R146), the clear form, whose payload is empty. -/
  | setWindowClear
  /-- SET_UNIT (R176). -/
  | setUnit (payload : List Byte)
  /-- SET_EDGE (R175). -/
  | setEdge (payload : List Byte)
  /-- SET_WATCH_LIST (R210). -/
  | setWatchList (payload : List Byte)
  /-- START_STATION (R205). -/
  | startStation (payload : List Byte)
  /-- UNKNOWN_REQUEST (R197): the REQUEST code, which names no request, and the payload. -/
  | unknownRequest (code : Byte) (payload : List Byte)
  /-- REQUEST_TOO_LONG (R195): the LENGTH byte taken. -/
  | requestTooLong (length : Byte)
  /-- SERVICE_CHARACTER_ERROR (R196): whether the stop bit was the one in error. -/
  | serviceCharacterError (stopBit : Bool)
  /-- SERVICE_GAP (R196). -/
  | serviceGap
  /-- START_BIT_WHILE_REPLYING (R198). -/
  | startBitWhileReplying
  /-- REPLY_COMPLETE (R198). -/
  | replyComplete
  /-- SYNC_TAKEN (R7): a character without error that is neither a LENGTH above 24 nor a check byte of a frame being
  assembled, with the line time the receiver latched at its start edge (R5). -/
  | syncTaken (byte : Byte) (startEdge : LineTime)
  /-- REQUEST_SYNC_TAKEN (R195). -/
  | requestSyncTaken
  /-- REQUEST_BAD_CHECK (R197): the REQUEST code, the payload and the received check byte, which is not the computed one. -/
  | requestBadCheck (code : Byte) (payload : List Byte) (check : Byte)
  deriving DecidableEq, Repr

end Sys2Proof
end

