-- ==== Sys2Proof/Decode.lean ====
section
/-! DEFINITION. The command that a word spells by the bits of spec/opcode_table.json. The table gives bits to no row (its
reader counts 72 rows and none with fixed bits or fields), so no word spells a command (notes/assumptions/2.md). -/

namespace Sys2Proof

/-- The command a word of nbits bits spells by the table: none, since no row of the table has bits. -/
def decodeTableWord (_nbits _w : Nat) : Option Instr := none

end Sys2Proof
end

