-- ==== Sys2Proof/Machine/Params.lean ====
section
/-! DEFINITION. The lengths of time that the rules state, in periods of the local count (1/8 µs) unless a name says
otherwise, and other stated numbers. -/

namespace Sys2Proof.Machine.Params

/-- One microsecond in periods of the local count (5.2). -/
def perMicrosecond : Nat := 8
/-- One millisecond in periods of the local count (5.2). -/
def perMillisecond : Nat := 8000
/-- A gap exists when the line's idle time exceeds 176 µs (R4). -/
def gapPeriods : Nat := 176 * 8
/-- The line is quiet once the idle time reaches 352 µs (R4). -/
def quietPeriods : Nat := 352 * 8
/-- An access slot is 88 µs (R23). -/
def slotPeriods : Nat := 88 * 8
/-- The boot check lasts 3 ms on the local count (R202). -/
def bootPeriods : Nat := 3 * 8000
/-- A row falls silent after four own beacon periods (R22). -/
def silenceBeacons : Nat := 4
/-- The join timer runs three beacon periods (R42). -/
def joinBeacons : Nat := 3
/-- The longest timers run 2^31 periods (R22, R93). -/
def longestPeriods : Nat := 2 ^ 31
/-- The service port's gap is 20 ms (R196). -/
def serviceGapPeriods : Nat := 20 * 8000
/-- A service break is 100 ms of low level (R200). -/
def breakPeriods : Nat := 100 * 8000
/-- A character of the service port, 11 bits at 57,600 baud, lasts no longer than this (R1). -/
def serviceCharacterPeriods : Nat := 1528
/-- A notice is discarded at its eighth collision (R25). -/
def jamCollisions : Nat := 8
/-- A claim is given up at its ninth withdrawal (R161). -/
def contendedWithdrawals : Nat := 9
/-- The planner looks at the candidates n = 0 to 65,536 (R156). -/
def candidateCount : Nat := 65537
/-- The furthest earliest time or stop time ahead, in µs (R153, R183). -/
def furthestAhead : Nat := 600000000
/-- A heard trip line time is accepted up to 1,000,000 µs late (R102). -/
def tripLatenessLimit : Nat := 1000000
/-- |ΔT| is clamped to 30000, which is 300 K (R114). -/
def deltaClamp : Nat := 30000
/-- One kilojoule is 10^8 units of 10^−5 J (R115). -/
def unitsPerKilojoule : Nat := 100000000
/-- The least ΔTm that gives a basis, in 0.01 K (R132). -/
def leastMeanDifference : Int := 100
/-- A speed is 4,800,000,000 over the revolution's periods, in 0.1 rpm (R91). -/
def speedNumerator : Nat := 4800000000
/-- The greatest baseline UA_c (R142). -/
def greatestBaseline : Nat := 2147483647
/-- SYNC of a line frame (R6). -/
def lineSync : Byte := 0xB5
/-- The greatest LENGTH of a line frame (R6). -/
def greatestLineLength : Nat := 24
/-- SYNC of a request (10.1). -/
def requestSync : Byte := 0x3C
/-- SYNC of a reply (10.1). -/
def replySync : Byte := 0xC3

end Sys2Proof.Machine.Params
end

