-- ==== Sys2Proof/WellFormed.lean ====
section
/-! DEFINITION. Which terms of Instr stand for something that can reach the part. The machine does not ask for it: a
command whose condition does not hold is no event and leaves the state as it is (notes/assumptions/3.md). -/

namespace Sys2Proof

/-- The REQUEST codes of 11.3 that name a request. -/
def knownRequestCodes : List Nat :=
  [0x01, 0x02, 0x03, 0x04, 0x05, 0x06, 0x07, 0x08, 0x09, 0x0A, 0x0B, 0x0C,
   0x20, 0x21, 0x22, 0x23, 0x24, 0x25, 0x26, 0x27,
   0x40, 0x41, 0x42, 0x43, 0x44, 0x45, 0x46, 0x47, 0x48, 0x49, 0x4A, 0x4B]

/-- A request's payload holds at most 64 bytes: a LENGTH above 64 is REQUEST_TOO_LONG (R195). -/
def payloadFits (payload : List Byte) : Bool := payload.length ≤ 64

/-- The numbers of bits an output may bring: those since the guard output before it, one of the decimations D_g of R59, or
none when the other filter's output at the same counted edge has brought them. -/
def outputBits : List Nat := [0, 8, 16, 32]

/-- The sum of bytes that R2's check byte is made from. -/
def byteSum (bytes : List Byte) : Nat := (bytes.map BitVec.toNat).sum

/-- R2: the check byte over the bytes between SYNC and the check byte. -/
def checkByteOf (bytes : List Byte) : Byte := BitVec.ofNat 8 (0x5C + (255 - byteSum bytes % 256))

/-- A well-formed command: each operand in the range that the rule of its row gives it. -/
def Instr.wellFormed : Instr → Bool
  | .longFrame length => 24 < length.toNat
  | .mainOutput _ bits | .guardOutput _ bits => outputBits.contains bits.length
  | .requestTooLong length => 64 < length.toNat
  | .unknownRequest code payload => !knownRequestCodes.contains code.toNat && payloadFits payload
  | .requestBadCheck code payload check =>
      payloadFits payload && check != checkByteOf (code :: BitVec.ofNat 8 payload.length :: payload)
  | .readStatus p | .readPeer p | .readTime p | .readSamples p | .readChannel p | .readCapture p
  | .readTurbine p | .readHeat p | .readScaling p | .readWindows p | .readUnit p | .readWatch p
  | .startPump p | .stopPump p | .trip p _ | .resetTrip p | .ackScaling p | .captureBaseline p
  | .clearHeat p | .clearAttention p | .setStation p | .setChannel p | .setGroup p | .setCapture p
  | .setTurbine p | .setHeat p | .setScaling p | .setWindow p | .setUnit p | .setEdge p
  | .setWatchList p | .startStation p => payloadFits p
  | .powerOn .. | .resetPin .. | .serviceBreak .. | .bootCheckEnd .. | .characterError _ | .gap
  | .quietMoment | .frameReceived .. | .noticeStart | .collision | .noticeSentWhole | .peerSilence _
  | .silenceTimerStop _ | .beacon | .joinTimerExpiry | .channelStart | .setBoundary _ | .slaveEdge ..
  | .masterEdge .. | .pollTimerExpiry _ | .referenceAgeing _ | .stall | .intervalBoundary
  | .ownStartReached _ | .entryExpiry | .settleTimerExpiry _ | .edgeDue _ | .setWindowClear
  | .serviceCharacterError _ | .serviceGap | .startBitWhileReplying | .replyComplete | .syncTaken ..
  | .requestSyncTaken => true

end Sys2Proof
end

