-- ==== Sys2Proof/Machine/Arith.lean ====
section
/-! DEFINITION. The arithmetic of chapter 0: line time comparison and lateness (5.1, R34), elapsed counts (5.2), rounding
and clamping (5.7), the check byte (R2), byte order (R1), and bounded queues. -/

namespace Sys2Proof.Machine

/-- b is later than a when (b − a) mod 2^32 lies in 1 to 2^31 − 1 (5.1). -/
def later (b a : LineTime) : Bool := 1 ≤ (b - a).toNat && (b - a).toNat < 2 ^ 31

/-- A due time t has been reached at line time n when t is not later than n (R34). -/
def reached (t n : LineTime) : Bool := !later t n

/-- The lateness of t at n, read as a signed 32-bit number; the halfway value is 2^31 − 1 (R34). -/
def lateness (t n : LineTime) : Int :=
  if (n - t).toNat = 2 ^ 31 then 2 ^ 31 - 1 else (n - t).toInt

/-- t is later than n by more than µs microseconds (R153, R183). -/
def laterBeyond (t n : LineTime) (us : Nat) : Bool := later t n && us < (t - n).toNat

/-- The periods that have passed on the local count since start (R32). -/
def elapsed (now start : Count) : Nat := (now - start).toNat

/-- A start held at most 2^31 periods back, so that what has been reached since stays reached (notes/assumptions/22.md). -/
def heldBack (now start : Count) : Count :=
  if Params.longestPeriods ≤ elapsed now start then now - BitVec.ofNat 32 Params.longestPeriods else start

/-- A number of microseconds as a line time. -/
def microseconds (n : Nat) : LineTime := BitVec.ofNat 32 n

/-- The first line time later than t that is a multiple of the period, in µs, or 0 at the wrap (R61, R125, R44). -/
def nextMultiple (period : Nat) (t : LineTime) : LineTime :=
  let n := (t.toNat / period + 1) * period
  if n < 2 ^ 32 then BitVec.ofNat 32 n else 0

/-- A quotient rounded to nearest with halves away from zero (5.7). -/
def roundDiv (a : Int) (b : Nat) : Int :=
  let m : Int := ((2 * a.natAbs + b) / (2 * b) : Nat)
  if a < 0 then -m else m

/-- A quotient truncated toward zero (5.7). -/
def truncDiv (a b : Int) : Int := a.tdiv b

/-- A clamp to a range (5.7). -/
def clampInt (lo hi x : Int) : Int := if x < lo then lo else if hi < x then hi else x

/-- The quotient of naturals rounded up. -/
def ceilDiv (a b : Nat) : Nat := (a + b - 1) / b

/-- Enter x as the newest of a collection of at most n items, oldest first: the oldest is removed when it is full. -/
def enterNewest {α : Type} (n : Nat) (xs : List α) (x : α) : List α :=
  (xs ++ [x]).drop (xs.length + 1 - n)

/-- R2: the check byte over the bytes between SYNC and the check byte. -/
def checkByte (bytes : List Byte) : Byte := checkByteOf bytes

/-- n bytes of a number, least significant first (R1). -/
def bytesOf : Nat → Nat → List Byte
  | 0, _ => []
  | k + 1, n => BitVec.ofNat 8 n :: bytesOf k (n / 256)

/-- A signed number in two's complement in n bytes (R217). -/
def signedBytes (n : Nat) (x : Int) : List Byte := bytesOf n (x % (256 ^ n : Nat)).toNat

/-- The number that bytes carry, least significant first (R1). -/
def numberOf : List Byte → Nat
  | [] => 0
  | b :: bs => b.toNat + 256 * numberOf bs

/-- The signed number that n bytes carry in two's complement. -/
def signedOf (bytes : List Byte) : Int :=
  let n := numberOf bytes
  if 2 * n < 256 ^ bytes.length then n else (n : Int) - (256 ^ bytes.length : Nat)

/-! Characters (R1, R5). -/

/-- The even parity bit of a byte: it makes the number of ones among the eight data bits and itself even (R1). -/
def parityBit (b : Byte) : Bool := (List.range 8).foldl (fun p i => p != b.getLsbD i) false

/-- A byte's character on either line, in the order sent: the start bit (low), eight data bits, least significant first, the
even parity bit and the stop bit (high) (R1). -/
def characterBits (b : Byte) : List Bool := false :: (List.range 8).map b.getLsbD ++ [parityBit b, true]

/-- The character that eleven sampled bits give: its data byte, or none when it is in error, by its parity or by a stop bit
sampled low (R5). -/
def characterOf (sampled : List Bool) : Option Byte :=
  let b := BitVec.ofNat 8 (((List.range 8).map fun i => if sampled.getD (i + 1) false then 2 ^ i else 0).sum)
  if sampled.getD 9 false = parityBit b && sampled.getD 10 false then some b else none

/-! Fields of payloads. -/

/-- size bytes of a payload from an offset (chapter 11). -/
def field (payload : List Byte) (offset size : Nat) : List Byte := (payload.drop offset).take size

/-- The unsigned field of a payload at an offset. -/
def fieldNat (payload : List Byte) (offset size : Nat) : Nat := numberOf (field payload offset size)

/-- The signed field of a payload at an offset. -/
def fieldInt (payload : List Byte) (offset size : Nat) : Int := signedOf (field payload offset size)

/-- A bit field of a number: width bits from a position. -/
def bits (n position width : Nat) : Nat := n / 2 ^ position % 2 ^ width

/-- One bit of a number. -/
def bit (n position : Nat) : Bool := bits n position 1 = 1

/-- A flag as a number, 1 when set. -/
def flagNat (b : Bool) : Nat := if b then 1 else 0

/-- An index of a bounded kind, when the number is in range. -/
def index? (n : Nat) (x : Nat) : Option (Fin n) := if h : x < n then some ⟨x, h⟩ else none

/-- An index of a bounded kind, reduced to its range. -/
def indexMod (n : Nat) [NeZero n] (x : Nat) : Fin n := Fin.ofNat n x

/-! The sinc filters (R48, R52). -/

/-- The product of two polynomials, each a list of coefficients from the constant term up. -/
def polyMul : List Nat → List Nat → List Nat
  | [], _ => []
  | [a], q => q.map (a * ·)
  | a :: b :: p, q => polyAdd (q.map (a * ·)) (0 :: polyMul (b :: p) q)
where
  /-- The sum of two polynomials. -/
  polyAdd : List Nat → List Nat → List Nat
    | [], q => q
    | p, [] => p
    | a :: p, b :: q => (a + b) :: polyAdd p q

/-- The coefficients of (1 + z + … + z^(D−1))^order (R48 with order 3, R52 with order 2). -/
def sincCoefficients (order D : Nat) : List Nat :=
  match order with
  | 0 => [1]
  | k + 1 => polyMul (List.replicate D 1) (sincCoefficients k D)

/-- The input a bit stands for: +1 or −1 (R46). -/
def inputOf (b : Bool) : Int := if b then 1 else -1

/-- The weighted sum of the last inputs, newest first; inputs before the start count as 0 (R48, R52). -/
def weightedSum : List Nat → List Bool → Int
  | [], _ => 0
  | _, [] => 0
  | c :: cs, b :: bs => (c : Int) * inputOf b + weightedSum cs bs

end Sys2Proof.Machine
end

