-- ==== Sys2Proof/Config.lean ====
section
/-! DEFINITION. What the spec leaves open (free values, which nothing here fixes) and the capacities of the part's
collections. -/

namespace Sys2Proof.Config

/-- FREE VALUE: the firm flag in the tag of a RELEASE notice. R16 and 1.3.3 give a RELEASE a tag "of the same form as in
CLAIM" and no rule states the flag a sender writes there (notes/assumptions/8.md). -/
opaque releaseTagFirm : Nat → Bool

/-- FREE VALUE: whether a boot check passes. R202 gives the check no computation (notes/assumptions/10.md). -/
opaque bootPasses : Nat → Bool
/-- FREE VALUE: whether the station line is high at the end of a boot check. It is an input (R4, notes/assumptions/10.md). -/
opaque lineHighAfterBoot : Nat → Bool

/-- The slave stamp FIFO holds up to 16 stamps (R77). -/
def fifoDepth : Nat := 16
/-- The capture history holds 4 records (R82). -/
def captureHistoryDepth : Nat := 4
/-- The guard history holds 8 values (R58). -/
def guardHistoryDepth : Nat := 8
/-- A sample ring holds up to 64 sets (R67). -/
def ringDepth : Nat := 64
/-- The index history holds 8 records (R135). -/
def indexHistoryDepth : Nat := 8
/-- The fixed window table holds up to 8 windows (R145). -/
def fixedWindowPlaces : Nat := 8
/-- One station holds at most two claim entries (R147). -/
def claimsPerStation : Nat := 2

end Sys2Proof.Config
end

