-- ==== Sys2Proof/Machine/State.lean ====
section
/-! DEFINITION. The state of the part, block by block as the overview (3.1) lists them, as plain data, with the state after
reset. Each record's docstring cites the rules that name its fields and give their reset values. -/

namespace Sys2Proof.Machine

/-! Service port and station (chapter 10). -/

/-- The station states of 10.2. -/
inductive StationState where
  | boot | config | run | fault
  deriving DecidableEq, Repr

/-- The reset causes of R201. -/
inductive ResetCause where
  | powerOn | resetPin | serviceBreak
  deriving DecidableEq, Repr

/-- The boot check's result (R201, R202). -/
inductive BootResult where
  | none | passed | failed
  deriving DecidableEq, Repr

/-- The service receiver's states (R195). -/
inductive ServiceState where
  | hunt | request | discard
  deriving DecidableEq, Repr

/-- The roles of a station (1.2, R204). -/
structure Roles where
  well : Bool := false
  turbine : Bool := false
  exchange : Bool := false
  deriving DecidableEq, Repr

/-- What Set Station configures, with the defaults of R204: beacon code 2 (200 ms), large-step limit 100 ms, stray limit
10 ms, settle interval 50 ms, mask bits 0 to 20 set. -/
structure StationConfig where
  roles : Roles := {}
  beaconCode : Nat := 2
  largeStepMs : Nat := 100
  strayMs : Nat := 10
  settleMs : Nat := 50
  enableMask : BitVec 32 := 0x001FFFFF
  deriving DecidableEq, Repr

/-- The status codes of 11.4. -/
inductive Status where
  | success | badCheck | notReady | unknownRequest | badLength | faulted | sealed | notRunningStation
  | range | busy | noSlot | notActive | notTripped | speedHigh | notAlarm | noBasis
  | unbound | overlap | periodRange | lengthZero | exceedsPeriod | noFreeWindow
  deriving DecidableEq, Repr

/-- A reply: its status and its payload (10.1). -/
structure Reply where
  status : Status
  payload : List Byte
  deriving DecidableEq, Repr

/-- A watch list item (R210). -/
inductive WatchItem where
  | lineTime | joined | supervisedSpeed | tripLatch | tripView | forwardKj | reverseKj | totalVolume
  | heldIndex | heldUa | scalingState
  | latestSetValue (channel : ChannelNo)
  | masterCount (unit : CaptureNo)
  | unitState (unit : UnitNo)
  | attentionPending
  deriving DecidableEq, Repr

/-- The idle measure of a serial line (R4, R196): from a known local count, or from one that no command has told, which cannot
lie before the measure's last restart (notes/assumptions/11.md). -/
inductive IdleMeasure where
  | since (start : Count)
  | after (restart : Count)
  deriving DecidableEq, Repr

/-- The service port (R195, R196, R198, R200, R201, R210). -/
structure Svp where
  /-- the station state: BOOT after every reset (R201) -/
  station : StationState := .boot
  /-- the cause of the reset the part last came out of (R201) -/
  resetCause : ResetCause := .powerOn
  bootResult : BootResult := .none
  receiver : ServiceState := .hunt
  /-- the request buffer: REQUEST code, LENGTH, payload (R195) -/
  buffer : List Byte := []
  /-- the reply being sent; the port is replying while there is one (R198) -/
  reply : Option Reply := none
  /-- the SERVICE_ERROR count (R196) -/
  errors : Counter16 := 0
  /-- the idle measure of the receive line (R196) -/
  idle : IdleMeasure := .after 0
  /-- the break measure is armed: the line has been seen high since the last reset ended (R200) -/
  breakArmed : Bool := true
  /-- the break measure: the local count at which the receive line was last known to be high or the last reset ended, before
  which its low level cannot have begun (R200, notes/assumptions/13.md) -/
  breakFrom : Count := 0
  watchList : List WatchItem := []
  deriving DecidableEq, Repr

/-- Why a CLAIM_FAILED cause was raised (R207). -/
inductive ClaimFailure where
  | jammed | contended
  deriving DecidableEq, Repr

/-- An attention cause: its kind with its subject (R207). -/
inductive Cause where
  | duplicateStation | lineJammed
  | peerSilent (station : StationNo)
  | largeStep
  | strayPeer (station : StationNo)
  | saturation (channel : ChannelNo)
  | guardLimit (channel : ChannelNo)
  | ringOverrun (group : GroupNo)
  | ringMark (group : GroupNo)
  | stall | wheelFault | trip
  | peerTrip (station : StationNo)
  | unmetered | scaleChange
  | claimFailed (slot : SlotNo)
  | startOverlap (slot : SlotNo)
  | edgeLate (unit : UnitNo)
  | startAborted (unit : UnitNo)
  | startMissed (unit : UnitNo)
  | bootFault
  deriving DecidableEq, Repr

/-- A pending cause's record (R207). -/
structure Pending where
  cause : Cause
  /-- the line time at which it was first raised since it was last cleared -/
  first : LineTime
  /-- 1 to 255 -/
  raises : Nat
  /-- for CLAIM_FAILED, the reason of its last raise -/
  reason : Option ClaimFailure
  deriving DecidableEq, Repr

/-! Station line (chapter 1). -/

/-- A scaling state (R137). -/
inductive ScalingState where
  | clear | watch | alarm
  deriving DecidableEq, Repr

/-- The reasons of a RELEASE (1.3.3). -/
inductive ReleaseReason where
  | withdrawn | trip | stopped | missed | abandoned
  deriving DecidableEq, Repr

/-- The own trip causes (R97). -/
inductive TripCause where
  | overspeedTooth | overspeedRev | host
  deriving DecidableEq, Repr

/-- The content of a HEAT notice (R19, R139). -/
structure HeatSummary where
  intervalEnd : LineTime
  kilojoules : Nat
  ua : Option Nat
  index : Option Nat
  deriving DecidableEq, Repr

/-- An own notice as queued (R26); a TIME carries no values until it is started (R13). -/
inductive Notice where
  | time
  | claim (slot : SlotNo) (unit : UnitNo) (start : LineTime) (length : Nat) (firm : Bool)
  | release (slot : SlotNo) (unit : UnitNo) (tagFirm : Bool) (reason : ReleaseReason)
  | trip (time : LineTime) (cause : TripCause) (speed : Nat)
  | clear (time : LineTime)
  | heat (summary : HeatSummary)
  | scale (state : ScalingState) (acknowledged : Bool) (index : Option Nat) (time : LineTime)
  deriving DecidableEq, Repr

/-- An entry of the transmit queue: the notice and its collision count, 0 to 7 (R26). -/
structure QueueEntry where
  notice : Notice
  collisions : Nat
  deriving DecidableEq, Repr

/-- The notice in flight, with its payload as filled at the SYNC start edge (R24). -/
structure InFlight where
  notice : Notice
  collisions : Nat
  payload : List Byte
  /-- the characters of the frame that have been read back good (R24) -/
  readBack : Nat := 0
  /-- a character was not read back good: a collision (R25) -/
  collided : Bool := false
  deriving DecidableEq, Repr

/-- The line receiver's states (1.2.1). -/
inductive RxState where
  | hunt | frame | waitGap
  deriving DecidableEq, Repr

/-- The line counters of R11, all 0 after every reset. -/
structure LineCounters where
  characterError : Counter16 := 0
  gapAbort : Counter16 := 0
  longFrame : Counter16 := 0
  checkError : Counter16 := 0
  unknownKind : Counter16 := 0
  badLength : Counter16 := 0
  validFrame : Counter16 := 0
  frameSent : Counter16 := 0
  collision : Counter16 := 0
  jammed : Counter16 := 0
  deriving DecidableEq, Repr

/-- The line interface (R4, R7, R11, R24, R26, R31). -/
structure Lif where
  /-- the receiver's state. DESIGN CHOICE: from a reset until the line interface is enabled, when R31 names no state, it is
  WAIT_GAP, in which it is enabled (notes/assumptions/36.md) -/
  rx : RxState := .waitGap
  /-- the receive frame buffer: KIND/SENDER, LENGTH, payload, as taken (R7, R8) -/
  buffer : List Byte := []
  /-- the SYNC time of the frame being assembled (R7) -/
  syncTime : LineTime := 0
  /-- the idle measure of the line (R4) -/
  idle : IdleMeasure := .after 0
  /-- the quiet moment, while the line is quiet (R4); held 2^31 periods back once it lies further back, since every access
  wait is then over (R23, notes/assumptions/22.md) -/
  quiet : Option Count := none
  /-- the transmit queue, head first (R26) -/
  queue : List QueueEntry := []
  inFlight : Option InFlight := none
  counters : LineCounters := {}
  deriving DecidableEq, Repr

/-- A peer row's silence timer (R22). -/
inductive SilenceTimer where
  | stopped
  | running (start : Count)
  /-- stopped at 2^31 periods, holding that count -/
  | held
  deriving DecidableEq, Repr

/-- A peer row, with the reset values of R21. The claim entries held are counted from the claim table (R147). -/
structure PeerRow where
  heard : Bool := false
  joined : Bool := false
  roles : Roles := {}
  beaconCode : Nat := 0
  lastHeard : LineTime := 0
  silence : SilenceTimer := .stopped
  silent : Bool := false
  tripLatched : Bool := false
  scaling : ScalingState := .clear
  acknowledged : Bool := false
  scalingChange : LineTime := 0
  activeUnits : Nat := 0
  lastIndex : Option Nat := none
  heat : Option HeatSummary := none
  strayCount : Counter16 := 0
  deriving DecidableEq, Repr

/-- What the own row holds beside the values of its owners (R21). -/
structure OwnRow where
  lastHeard : LineTime := 0
  scalingChange : LineTime := 0
  heat : Option HeatSummary := none
  deriving DecidableEq, Repr

/-! Line time (chapter 2). -/

/-- The time unit (R45): a timer is the local count at its start, while it runs. -/
structure Tmu where
  localCount : Count := 0
  lineTime : LineTime := 0
  joined : Bool := false
  beaconTimer : Option Count := none
  joinTimer : Option Count := none
  deriving DecidableEq, Repr

/-! Measurement channels (chapter 3). -/

/-- A count-in-window: the results held, oldest to newest, and the armed flag (R55, R56, R95, R96). -/
structure Window where
  results : List Bool := []
  armed : Bool := true
  deriving DecidableEq, Repr

/-- What Set Channel configures, with the defaults of R59; D is 2^k and D_g is 2^j. -/
structure ChannelConfig where
  enabled : Bool := false
  k : Nat := 6
  j : Nat := 4
  offset : Int := 0
  span : Int := 32768
  lowLimit : Int := -32768
  highLimit : Int := 32767
  window : Nat := 1
  count : Nat := 1
  group : Option GroupNo := none
  bound : Option UnitNo := none
  deriving DecidableEq, Repr

/-- A main output kept with its reading (R51). -/
structure MainOutput where
  value : Int
  reading : Int
  deriving DecidableEq, Repr

/-- A measurement channel (R72). Both filters take each sampled bit from the one list of inputs (R46). -/
structure Channel where
  config : ChannelConfig := {}
  running : Bool := false
  /-- the last 3D − 2 sampled bits since the start, newest first: the input history of both filters (R46, R48, R52) -/
  inputs : List Bool := []
  /-- counted edges since the start or the last main output (R47, R48) -/
  mainEdges : Nat := 0
  /-- main outputs discarded since the start, 0 to 2 (R51) -/
  mainDiscarded : Nat := 0
  /-- counted edges since the start or the last guard output (R47, R52) -/
  guardEdges : Nat := 0
  /-- guard outputs discarded since the start, 0 or 1 (R53) -/
  guardDiscarded : Nat := 0
  lastMain : Option MainOutput := none
  lastGuard : Option Int := none
  /-- oldest to newest (R58) -/
  guardHistory : List Int := []
  guardWindow : Window := {}
  saturationFlag : Bool := false
  guardLimitFlag : Bool := false
  /-- the latest set value, with its saturated bit (R66) -/
  latest : Option Int := none
  latestSaturated : Bool := false
  deriving DecidableEq, Repr

/-- A member's part of the open set (R61). -/
structure MemberSum where
  channel : ChannelNo
  sum : Int := 0
  count : Nat := 0
  saturated : Bool := false
  deriving DecidableEq, Repr

/-- A group's open set (R61). -/
structure OpenSet where
  members : List MemberSum
  short : Bool
  nextBoundary : LineTime
  deriving DecidableEq, Repr

/-- A reading field of a set record (R63). -/
structure Reading where
  channel : ChannelNo
  value : Option Int
  saturated : Bool
  deriving DecidableEq, Repr

/-- A set record (R63). -/
structure SetRecord where
  sequence : BitVec 32
  endTime : LineTime
  short : Bool
  empty : Bool
  readings : List Reading
  deriving DecidableEq, Repr

/-- A set in a sample ring, with its unread mark (R67). -/
structure RingSet where
  record : SetRecord
  unread : Bool
  deriving DecidableEq, Repr

/-- A channel group, with the defaults of R60 and the reset values of R72; a ring mark of 0 is off. -/
structure Group where
  periodMs : Nat := 100
  ringMark : Nat := 0
  openSet : Option OpenSet := none
  nextSequence : BitVec 32 := 0
  /-- oldest to newest (R67) -/
  ring : List RingSet := []
  overrunCount : Counter16 := 0
  overrunMark : Bool := false
  markCounter : Nat := 0
  deriving DecidableEq, Repr

/-! Pulse capture (chapter 4). -/

/-- The modes of a capture unit (4.2). -/
inductive CaptureMode where
  | off | speed | totaliser | general
  deriving DecidableEq, Repr

/-- A source: a pulse input and an edge direction (4.2). -/
structure PulseSource where
  input : Fin 8
  falling : Bool := false
  deriving DecidableEq, Repr

/-- What Set Capture configures, with the defaults of R86; the master input's default is the unit's own number. -/
structure CaptureConfig where
  mode : CaptureMode := .off
  master : PulseSource
  slave : Option PulseSource := none
  lead : Nat := 0
  poll : Bool := false
  pollMs : Nat := 100
  deriving DecidableEq, Repr

/-- The samples of the pulse inputs PI0 to PI7, bit i for PIi, and the edges they show (R73). A period whose sample no command
tells shows the levels of the period before (notes/assumptions/20.md). -/
structure PulseInputs where
  /-- the sample of the period before, when one has been taken since the reset -/
  before : Option (BitVec 8) := none
  /-- the sample of this period, when a command has told it -/
  now : Option (BitVec 8) := none
  /-- the line stamp of the edge that each input shows in this period, once a unit has received the edge; every other unit
  receives it with the same stamp (R73) -/
  lineStamps : Vector (Option LineTime) 8 := Vector.replicate 8 none
  /-- the units that have taken their slave edge of this period -/
  slaves : List CaptureNo := []
  /-- the units that have taken their master edge of this period -/
  masters : List CaptureNo := []
  deriving DecidableEq, Repr

/-- A capture record (R79). -/
structure CaptureRecord where
  lineTime : LineTime
  localCount : Count
  slaveEdges : Nat
  masterCount : Counter16
  lead : Option Count
  deriving DecidableEq, Repr

/-- A capture unit (R74, R89). -/
structure Capture where
  config : CaptureConfig
  running : Bool := false
  masterCount : Counter16 := 0
  slaveCount : Counter16 := 0
  /-- stops at 65535 (R74) -/
  betweenCount : Nat := 0
  recordCount : Counter16 := 0
  /-- slave stamps, oldest to newest (R77) -/
  fifo : List Count := []
  /-- oldest to newest (R82) -/
  history : List CaptureRecord := []
  firstMaster : Bool := true
  firstSlave : Bool := true
  pollTimer : Option Count := none
  taken : Bool := false
  deriving DecidableEq, Repr

/-! Turbine supervision and trip (chapter 5). -/

/-- What Set Turbine configures, with the defaults of R106; the stall timeout is in steps of 100 ms. -/
structure TurbineConfig where
  teeth : Nat := 0
  tripLimit : Nat := 65535
  resetLimit : Nat := 65535
  overWindow : Nat := 1
  overCount : Nat := 1
  wheelWindow : Nat := 1
  wheelCount : Nat := 1
  stallSteps : Nat := 20
  deriving DecidableEq, Repr

/-- The trip record (R97). -/
structure TripRecord where
  time : LineTime
  cause : TripCause
  speed : Nat
  deriving DecidableEq, Repr

/-- The last peer trip record; the cause code is kept as it arrives (R17, R102). -/
structure PeerTrip where
  sender : StationNo
  time : LineTime
  cause : Byte
  speed : Nat
  deriving DecidableEq, Repr

/-- The last peer clear record (R102). -/
structure PeerClear where
  sender : StationNo
  time : LineTime
  deriving DecidableEq, Repr

/-- The source of an onset (R104). -/
inductive OnsetSource where
  | own
  | peerByTrip (station : StationNo)
  | peerByTime (station : StationNo)
  deriving DecidableEq, Repr

/-- An onset's time and source (R104). -/
structure Onset where
  time : LineTime
  source : OnsetSource
  deriving DecidableEq, Repr

/-- The turbine supervisor (R108). The trip output is the latch (R98). -/
structure Tsv where
  config : TurbineConfig := {}
  /-- the effective tooth count T_e (R90) -/
  effectiveTeeth : Nat := 0
  revolutionSpeed : Nat := 0
  toothSpeed : Nat := 0
  supervisedSpeed : Nat := 0
  revolutionReference : Option Count := none
  toothReference : Option Count := none
  stallTimer : Option Count := none
  stalled : Bool := false
  overWindow : Window := {}
  wheelWindow : Window := {}
  wheelFaultFlag : Bool := false
  latch : Bool := false
  record : Option TripRecord := none
  /-- stops at 65535 (R97) -/
  furtherCauses : Nat := 0
  lastClear : Option LineTime := none
  /-- the trip view is ACTIVE (R103) -/
  viewActive : Bool := false
  onset : Option Onset := none
  lastPeerTrip : Option PeerTrip := none
  lastPeerClear : Option PeerClear := none
  deriving DecidableEq, Repr

/-! Heat metering (chapter 6). -/

/-- What Set Heat configures, with the defaults of R112 and R120. -/
structure HeatConfig where
  volume : Nat := 1000
  supply : Option ChannelNo := none
  ret : Option ChannelNo := none
  kTable : Vector Nat 16 :=
    #v[4217, 4191, 4174, 4161, 4146, 4131, 4115, 4097, 4079, 4059, 4041, 4022, 4003, 3985, 3968, 3952]
  deriving DecidableEq, Repr

/-- The classes of a flow pulse (R109). -/
inductive PulseClass where
  | forward | reverse | zero | unmetered
  deriving DecidableEq, Repr

/-- The unmetered reasons (R110). -/
inductive UnmeteredReason where
  | supplyAbsent | returnAbsent | supplySaturated | returnSaturated
  deriving DecidableEq, Repr

/-- The last pulse record (R119). -/
structure PulseRecord where
  lineTime : LineTime
  cls : PulseClass
  reason : Option UnmeteredReason
  supply : Option Int
  ret : Option Int
  delta : Option Int
  clamped : Bool
  k : Option Int
  energy : Option Nat
  carry : Option Nat
  deriving DecidableEq, Repr

/-- The heat meter (R123); residues in 10^−5 J. -/
structure Hmt where
  config : HeatConfig := {}
  forwardKj : BitVec 40 := 0
  reverseKj : BitVec 40 := 0
  forwardResidue : Nat := 0
  reverseResidue : Nat := 0
  totalVolume : BitVec 48 := 0
  unmeteredVolume : BitVec 48 := 0
  forwardPulses : BitVec 32 := 0
  reversePulses : BitVec 32 := 0
  zeroPulses : BitVec 32 := 0
  unmeteredPulses : BitVec 32 := 0
  clampFlag : Bool := false
  forwardWrap : Bool := false
  reverseWrap : Bool := false
  volumeWrap : Bool := false
  unmeteredMark : Bool := false
  lastPulse : Option PulseRecord := none
  lastClear : Option LineTime := none
  deriving DecidableEq, Repr

/-! Scaling watch (chapter 7). -/

/-- What Set Scaling configures, with the defaults of R142. -/
structure ScalingConfig where
  lengthS : Nat := 60
  hotIn : Option ChannelNo := none
  hotOut : Option ChannelNo := none
  pressure : Option ChannelNo := none
  baseline : Nat := 100000
  watchLimit : Nat := 800
  alarmLimit : Nat := 600
  pressureWatch : Int := 2147483647
  pressureAlarm : Int := 2147483647
  window : Nat := 4
  watchCount : Nat := 2
  alarmCount : Nat := 3
  deriving DecidableEq, Repr

/-- A sum and count of readings (R126). -/
structure Accumulator where
  sum : Int := 0
  count : Nat := 0
  deriving DecidableEq, Repr

/-- The open rating interval (R125, R126). -/
structure Interval where
  opened : LineTime
  short : Bool
  nextBoundary : LineTime
  /-- S, in 10^−5 J -/
  energy : Nat := 0
  pulses : BitVec 32 := 0
  hotIn : Accumulator := {}
  hotOut : Accumulator := {}
  coldIn : Accumulator := {}
  coldOut : Accumulator := {}
  pressure : Accumulator := {}
  deriving DecidableEq, Repr

/-- An index history record (R135). -/
structure IndexRecord where
  endTime : LineTime
  index : Option Nat
  ua : Option Nat
  pressure : Option Int
  watch : Bool
  alarm : Bool
  deriving DecidableEq, Repr

/-- The no-basis reasons (R132). -/
inductive NoBasis where
  | meanAbsent | noEnergy | hotEndCrossed | coldEndCrossed | dtSmall
  deriving DecidableEq, Repr

/-- The latest evaluation (R135); the mean ΔP is the record's. -/
structure Evaluation where
  record : IndexRecord
  hotIn : Option Int
  hotOut : Option Int
  coldIn : Option Int
  coldOut : Option Int
  /-- absent when the interval has a basis -/
  noBasis : Option NoBasis
  meanDifference : Option Int
  energy : Nat
  pulses : BitVec 32
  kilojoules : Nat
  deriving DecidableEq, Repr

/-- The held UA and index with their end line time (R135). -/
structure Held where
  ua : Nat
  index : Nat
  endTime : LineTime
  deriving DecidableEq, Repr

/-- The scaling watch (R144). -/
structure Scw where
  config : ScalingConfig := {}
  active : Bool := false
  interval : Option Interval := none
  latest : Option Evaluation := none
  held : Option Held := none
  /-- oldest to newest (R135) -/
  history : List IndexRecord := []
  state : ScalingState := .clear
  acknowledged : Bool := false
  shortCount : Counter16 := 0
  lastShort : Option LineTime := none
  deriving DecidableEq, Repr

/-! Start windows and claims (chapter 8). -/

/-- A fixed window (R145): period exponent, offset and length in granules. -/
structure FixedWindow where
  exponent : Nat
  offset : Nat
  length : Nat
  deriving DecidableEq, Repr

/-- A claim entry (R147). An entry's own state is the state of its slot (R152). -/
structure Claim where
  station : StationNo
  /-- the sender's slot as carried in the tag, 0 to 3 -/
  slot : Fin 4
  unit : UnitNo
  start : LineTime
  /-- in granules, 0 to 65535 -/
  length : Nat
  firm : Bool
  deriving DecidableEq, Repr

/-- The waiting reasons (R152). -/
inductive WaitReason where
  | tripHold | scalingHold | noWindow
  deriving DecidableEq, Repr

/-- The states of an own claim slot (8.3); SETTLING holds the local count at its settle timer's start (R152). -/
inductive SlotState where
  | free
  | waiting (reason : WaitReason)
  | announced
  | settling (start : Count)
  | firm
  | started
  deriving DecidableEq, Repr

/-- An own claim slot (R152). -/
structure Slot where
  state : SlotState := .free
  unit : UnitNo := 0
  earliest : Option LineTime := none
  withdrawals : Nat := 0
  deriving DecidableEq, Repr

/-- The start planner (R172). -/
structure Spl where
  /-- the fixed window table, by index (R145) -/
  windows : List FixedWindow := []
  /-- the claim table, in order of start (R147) -/
  claims : List Claim := []
  slots : Vector Slot 2 := Vector.replicate 2 {}
  tripHold : Bool := false
  scalingHold : Bool := false
  deriving DecidableEq, Repr

/-! Switching units (chapter 9). -/

/-- The basis of an edge definition (R174). -/
inductive EdgeBasis where
  | start | stop
  | after (j : DefNo)
  deriving DecidableEq, Repr

/-- An edge definition, with the defaults of R175. -/
structure EdgeDef where
  enabled : Bool := false
  output : OutputNo := 0
  high : Bool := false
  basis : EdgeBasis := .start
  offset : Nat := 0
  deriving DecidableEq, Repr

/-- The origin of a definition or of an entry (R174, R178). -/
inductive Origin where
  | start | stop
  deriving DecidableEq, Repr

/-- What Set Unit configures, with the defaults of R176. -/
structure UnitConfig where
  windowLength : Nat := 16
  scalingBound : Bool := false
  shedEnable : Bool := false
  catchUp : Nat := 20000
  shedBaseMs : Nat := 0
  shedStepMs : Nat := 0
  unitGapMs : Nat := 0
  deriving DecidableEq, Repr

/-- The states of a switching unit (9.4). -/
inductive UnitState where
  | idle | starting | running | stopping
  deriving DecidableEq, Repr

/-- An entry of an edge queue (R178). -/
structure Edge where
  sequence : Counter16
  output : OutputNo
  high : Bool
  due : LineTime
  origin : Origin
  /-- the start instance the entry belongs to or stops -/
  startNumber : Counter16
  deriving DecidableEq, Repr

/-- The last late edge record (R186). -/
structure LateEdge where
  edge : Edge
  lateness : Int
  lateStop : Bool
  deriving DecidableEq, Repr

/-- The rank and the trip time of an onset as a unit took it (R190, R193). -/
structure UnitOnset where
  rank : Nat
  time : LineTime
  deriving DecidableEq, Repr

/-- A switching unit (R194). -/
structure SwUnit where
  config : UnitConfig := {}
  defs : Vector EdgeDef 6 := Vector.replicate 6 {}
  state : UnitState := .idle
  queue : List Edge := []
  written : Counter16 := 0
  outputCount : Counter16 := 0
  discarded : Counter16 := 0
  lateCount : Counter16 := 0
  /-- the start instance (R180) -/
  startNumber : Counter16 := 0
  edgeMark : Bool := false
  tripFlag : Bool := false
  lastLate : Option LateEdge := none
  lastOnset : Option UnitOnset := none
  deriving DecidableEq, Repr

/-! The whole part. -/

/-- The state of the part. Derived views of it stand in Machine/Flags.lean: the trip output (R98), the attention output
(R208), MCLK (R46) and the own peer row (R21). -/
structure State where
  /-- the commands that are waiting, first in, first out (the model's own) -/
  pending : List Instr
  /-- the station number read from the straps (R3) -/
  stationNo : StationNo
  config : StationConfig
  svp : Svp
  /-- the attention set, in order of entry (R207) -/
  attention : List Pending
  lif : Lif
  /-- the peer table; the entry of the own number is not used, since the own row is a view (R21) -/
  peers : Vector PeerRow 16
  own : OwnRow
  tmu : Tmu
  /-- the entry to RUN has been taken and the first rising edge of MCLK after it has not come (R47) -/
  awaitMclk : Bool
  channels : Vector Channel 8
  groups : Vector Group 2
  /-- the samples of PI0 to PI7 (R73) -/
  pulses : PulseInputs
  captures : Vector Capture 4
  tsv : Tsv
  hmt : Hmt
  scw : Scw
  spl : Spl
  units : Vector SwUnit 4
  /-- the levels of SO0 to SO7, true for high (R173) -/
  outputs : Vector Bool 8
  /-- the number of free values used (the model's own, notes/assumptions/8.md) -/
  freeNext : Nat
  deriving DecidableEq, Repr

/-- Why the machine would stop with a fault. There is none: no rule of the spec stops the part, and what the part does with
a failed boot check is its FAULT state (R203). -/
inductive Fault where
  deriving DecidableEq, Repr

/-- Why a command has no meaning. -/
inductive Refusal where
  /-- Raised by an arm of exec for a command without a meaning yet; no arm raises it. Safe: nothing is claimed. -/
  | notModelled (mnemonic : String)
  deriving DecidableEq, Repr

/-- A capture unit after reset: mode OFF, the master input with the unit's own number (R86, R89). -/
def Capture.afterReset (input : Fin 8) : Capture := { config := { master := { input := input } } }

/-- Every block at its reset state (R31, R45, R72, R89, R108, R123, R144, R172, R194, R201), with what a reset reads or
keeps: the straps (R3), the cause (R201), whether the break measure is armed (R200), the waiting commands and the number
of free values used. -/
def State.afterReset (straps : StationNo) (cause : ResetCause) (armed : Bool) (pending : List Instr) (freeNext : Nat) :
    State where
  pending := pending
  stationNo := straps
  config := {}
  svp := { resetCause := cause, breakArmed := armed }
  attention := []
  lif := {}
  peers := Vector.replicate 16 {}
  own := {}
  tmu := {}
  awaitMclk := false
  channels := Vector.replicate 8 {}
  groups := Vector.replicate 2 {}
  pulses := {}
  captures := #v[Capture.afterReset 0, Capture.afterReset 1, Capture.afterReset 2, Capture.afterReset 3]
  tsv := {}
  hmt := {}
  scw := {}
  spl := {}
  units := Vector.replicate 4 {}
  outputs := Vector.replicate 8 false
  freeNext := freeNext

/-- The part right after a power-on reset. The spec gives the station number and the level of the service line no value of
their own: they are inputs at the reset, taken as 0 and high (notes/assumptions/4.md). -/
def State.reset : State := State.afterReset 0 .powerOn true [] 0

end Sys2Proof.Machine
end

