-- ==== Sys2Proof/Machine/Flags.lean ====
section
/-! DEFINITION. Flags and levels: the count-in-window that four blocks share (R55, R56, R95, R96, R136), the attention set
with its numbering (R207, 11.3), and the levels that follow other state (R46, R98, R198, R208). -/

namespace Sys2Proof.Machine

/-! Count-in-window. -/

/-- The effective count: C, or W when C is greater than W (R55, R95, R136). -/
def effectiveCount (size count : Nat) : Nat := if count ≤ size then count else size

/-- The number of excursions among the results held (R55). -/
def Window.excursions (w : Window) : Nat := w.results.count true

/-- The window after a result has entered it, before the count is judged (R55). -/
def Window.entered (w : Window) (size : Nat) (result : Bool) : Window :=
  { w with results := enterNewest size w.results result }

/-- The count has reached the effective count (R56, R95). -/
def Window.full (w : Window) (size count : Nat) : Bool := effectiveCount size count ≤ w.excursions

/-- Enter a result and judge the count: the window after, and whether an event occurs (R56, R95, R96). -/
def Window.enter (w : Window) (size count : Nat) (result : Bool) : Window × Bool :=
  let v := w.entered size result
  if v.full size count then ({ v with armed := false }, w.armed) else ({ v with armed := true }, false)

/-! The attention set. -/

/-- The code of a cause's kind (R207, 11.3). -/
def Cause.kind : Cause → Nat
  | .duplicateStation => 0
  | .lineJammed => 1
  | .peerSilent _ => 2
  | .largeStep => 3
  | .strayPeer _ => 4
  | .saturation _ => 5
  | .guardLimit _ => 6
  | .ringOverrun _ => 7
  | .ringMark g => if g = 0 then 8 else 9
  | .stall => 10
  | .wheelFault => 11
  | .trip => 12
  | .peerTrip _ => 13
  | .unmetered => 14
  | .scaleChange => 15
  | .claimFailed _ => 16
  | .startOverlap _ => 17
  | .edgeLate _ => 18
  | .startAborted _ => 19
  | .startMissed _ => 20
  | .bootFault => 21

/-- A cause's subject number, for a kind with a subject (R207, R209). -/
def Cause.subject : Cause → Option Nat
  | .peerSilent n | .strayPeer n | .peerTrip n => some n.val
  | .saturation c | .guardLimit c => some c.val
  | .ringOverrun g => some g.val
  | .claimFailed k | .startOverlap k => some k.val
  | .edgeLate u | .startAborted u | .startMissed u => some u.val
  | .duplicateStation | .lineJammed | .largeStep | .ringMark _ | .stall | .wheelFault | .trip | .unmetered
  | .scaleChange | .bootFault => none

/-- The attention set after a cause is raised at line time t: a new record with a raise count of 1, or the pending
record with its count incremented, stopping at 255, and the new reason (R207). -/
def raiseIn (cause : Cause) (reason : Option ClaimFailure) (t : LineTime) : List Pending → List Pending
  | [] => [{ cause := cause, first := t, raises := 1, reason := reason }]
  | p :: ps =>
    if p.cause = cause then { p with raises := min 255 (p.raises + 1), reason := reason } :: ps
    else p :: raiseIn cause reason t ps

/-- Raise a cause (R207). -/
def State.raise (s : State) (cause : Cause) : State :=
  { s with attention := raiseIn cause none s.tmu.lineTime s.attention }

/-- Raise CLAIM_FAILED for an own slot with its reason (R159, R161). -/
def State.raiseClaimFailed (s : State) (slot : SlotNo) (why : ClaimFailure) : State :=
  { s with attention := raiseIn (.claimFailed slot) (some why) s.tmu.lineTime s.attention }

/-- A cause is pending. -/
def State.isPending (s : State) (cause : Cause) : Bool := s.attention.any (·.cause = cause)

/-! Levels that follow other state. -/

/-- The attention output: high while an enabled cause or BOOT_FAULT is pending (R208). -/
def State.attentionOutput (s : State) : Bool :=
  s.attention.any fun p => p.cause = .bootFault || s.config.enableMask.getLsbD p.cause.kind

/-- The trip output: high exactly while the own trip latch is set (R98). -/
def State.tripOutput (s : State) : Bool := s.tsv.latch

/-- MCLK is driven in CONFIG and RUN and held low in BOOT and FAULT (R46). -/
def State.mclkDriven (s : State) : Bool := s.svp.station = .config || s.svp.station = .run

/-- The line interface is enabled in CONFIG and RUN (R30). -/
def State.lineEnabled (s : State) : Bool := s.svp.station = .config || s.svp.station = .run

/-- The station is in RUN. -/
def State.inRun (s : State) : Bool := s.svp.station = .run

/-- The port is replying (R198). -/
def State.replying (s : State) : Bool := s.svp.reply.isSome

end Sys2Proof.Machine
end

