-- ==== Sys2Proof/Machine/Ops.lean ====
section
/-! DEFINITION. The named operations over the state that several blocks share: the update of one block, the views of the
clocks and of the peer table, and the transmit queue (R26 to R29). -/

namespace Sys2Proof.Machine

/-- The outcome of a command. -/
abbrev Outcome := Host.Outcome State Fault Refusal

/-! Updates of one block. -/

/-- Put the service port. -/
def State.putSvp (s : State) (x : Svp) : State := { s with svp := x }
/-- Put the line interface. -/
def State.putLif (s : State) (x : Lif) : State := { s with lif := x }
/-- Put the time unit. -/
def State.putTmu (s : State) (x : Tmu) : State := { s with tmu := x }
/-- Put the turbine supervisor. -/
def State.putTsv (s : State) (x : Tsv) : State := { s with tsv := x }
/-- Put the heat meter. -/
def State.putHmt (s : State) (x : Hmt) : State := { s with hmt := x }
/-- Put the scaling watch. -/
def State.putScw (s : State) (x : Scw) : State := { s with scw := x }
/-- Put the start planner. -/
def State.putSpl (s : State) (x : Spl) : State := { s with spl := x }
/-- Put one peer row. -/
def State.putPeer (s : State) (n : StationNo) (x : PeerRow) : State := { s with peers := s.peers.set n x }
/-- Put one measurement channel. -/
def State.putChannel (s : State) (c : ChannelNo) (x : Channel) : State := { s with channels := s.channels.set c x }
/-- Put one channel group. -/
def State.putGroup (s : State) (g : GroupNo) (x : Group) : State := { s with groups := s.groups.set g x }
/-- Put the samples of the pulse inputs. -/
def State.putPulses (s : State) (x : PulseInputs) : State := { s with pulses := x }
/-- Put one capture unit. -/
def State.putCapture (s : State) (u : CaptureNo) (x : Capture) : State := { s with captures := s.captures.set u x }
/-- Put one switching unit. -/
def State.putUnit (s : State) (u : UnitNo) (x : SwUnit) : State := { s with units := s.units.set u x }
/-- Put the level of one switching output (R173). -/
def State.putOutput (s : State) (o : OutputNo) (high : Bool) : State := { s with outputs := s.outputs.set o high }
/-- Put one own claim slot. -/
def State.putSlot (s : State) (k : SlotNo) (x : Slot) : State := s.putSpl { s.spl with slots := s.spl.slots.set k x }
/-- Put the claim table. -/
def State.putClaims (s : State) (x : List Claim) : State := s.putSpl { s.spl with claims := x }

/-! Views. -/

/-- The line time now. -/
def State.now (s : State) : LineTime := s.tmu.lineTime
/-- The local count now. -/
def State.count (s : State) : Count := s.tmu.localCount
/-- A timer that runs from start has reached its length in periods (R32). -/
def State.expired (s : State) (start : Count) (periods : Nat) : Bool := periods ≤ elapsed s.count start
/-- The earliest local count from which an idle measure can run (R4, R196). -/
def IdleMeasure.earliest : IdleMeasure → Count
  | .since start | .after start => start
/-- The idle time can have reached a number of periods (R4, R196). -/
def IdleMeasure.reaches (m : IdleMeasure) (count : Count) (periods : Nat) : Bool := periods ≤ elapsed count m.earliest
/-- Where an idle measure started that has now reached a number of periods: its known start, or what the reaching tells. -/
def IdleMeasure.startAt (m : IdleMeasure) (count : Count) (periods : Nat) : Count :=
  match m with
  | .since start => start
  | .after _ => count - BitVec.ofNat 32 periods
/-- An idle measure when the local count takes a new value. -/
def IdleMeasure.aged (m : IdleMeasure) (count : Count) : IdleMeasure :=
  match m with
  | .since start => .since (heldBack count start)
  | .after restart => .after (heldBack count restart)
/-- The configured beacon period in periods of the local count (R35). -/
def State.beaconPeriods (s : State) : Nat := s.config.beaconCode * 100 * Params.perMillisecond
/-- A unit is active when its state is not IDLE (9.4). -/
def SwUnit.active (u : SwUnit) : Bool := u.state != .idle
/-- The active unit count: the own units in a state other than IDLE (R13). -/
def State.activeUnits (s : State) : Nat := (s.units.toList.filter SwUnit.active).length
/-- The claim entries held of a station: its entries in the claim table (R147). -/
def State.claimsHeld (s : State) (n : StationNo) : Nat := (s.spl.claims.filter (·.station = n)).length
/-- The number of a station's row counts as a peer row when it is not the own number (R21). -/
def State.isPeer (s : State) (n : StationNo) : Bool := n != s.stationNo
/-- The own row: the station's own summary in the form of a peer row (R21). -/
def State.ownRow (s : State) : PeerRow where
  heard := true
  joined := s.tmu.joined
  roles := s.config.roles
  beaconCode := s.config.beaconCode
  lastHeard := s.own.lastHeard
  silence := .stopped
  silent := false
  tripLatched := s.tsv.latch
  scaling := s.scw.state
  acknowledged := s.scw.acknowledged
  scalingChange := s.own.scalingChange
  activeUnits := s.activeUnits
  lastIndex := s.scw.latest.bind (·.record.index)
  heat := s.own.heat
  strayCount := 0
/-- A row of the peer table as the host reads it (R21, R213). -/
def State.row (s : State) (n : StationNo) : PeerRow := if s.isPeer n then s.peers[n] else s.ownRow
/-- The station numbers of the peer rows, in order. -/
def State.peerNumbers (s : State) : List StationNo := (List.finRange 16).filter s.isPeer
/-- The count of peer rows with trip latched set (R103). -/
def State.latchedPeers (s : State) : Nat := (s.peerNumbers.filter fun n => s.peers[n].tripLatched).length

/-! The time step event (R41). -/

/-- A time step event: the line time before it, and the advance; "after" is the line time now (R41). -/
structure StepEvent where
  before : LineTime
  advance : LineTime
  deriving DecidableEq, Repr

/-- A step is backward when its advance exceeds 2^31 − 1 (R38, R41). -/
def StepEvent.backward (e : StepEvent) : Bool := 2 ^ 31 ≤ e.advance.toNat

/-- A line time lies in the step's span; a backward step's span is empty (R41). -/
def StepEvent.inSpan (e : StepEvent) (t : LineTime) : Bool :=
  !e.backward && 1 ≤ (t - e.before).toNat && (t - e.before).toNat ≤ e.advance.toNat

/-- A step closes what is open until a boundary: it is backward, or its span contains that boundary or another multiple of the
period, of which the first later than "before" stands for all (R64, R129). -/
def StepEvent.crosses (e : StepEvent) (boundary : LineTime) (periodUs : Nat) : Bool :=
  e.backward || e.inSpan boundary || e.inSpan (nextMultiple periodUs e.before)

/-- A due time that a unit takes at the step: in the span, or for a backward step reached at "after" (R189). -/
def StepEvent.reaches (e : StepEvent) (after t : LineTime) : Bool :=
  if e.backward then reached t after else e.inSpan t

/-! The transmit queue. -/

/-- The class of a notice: TRIP and CLEAR are class 0, the other kinds class 1 (R10). -/
def Notice.classZero : Notice → Bool
  | .trip .. | .clear _ => true
  | .time | .claim .. | .release .. | .heat _ | .scale .. => false

/-- The coalescing groups (R27, R28). -/
inductive NoticeGroup where
  | time | heat | scale | latch
  | claim (slot : SlotNo)
  deriving DecidableEq, Repr

/-- The coalescing group of a notice (R27, R28). -/
def Notice.group : Notice → NoticeGroup
  | .time => .time
  | .heat _ => .heat
  | .scale .. => .scale
  | .trip .. | .clear _ => .latch
  | .claim slot .. | .release slot .. => .claim slot

/-- A notice is a CLAIM. -/
def Notice.isClaim : Notice → Bool
  | .claim .. => true
  | _ => false

/-- A notice is a RELEASE. -/
def Notice.isRelease : Notice → Bool
  | .release .. => true
  | _ => false

/-- The queued entry of a notice's coalescing group, if any. -/
def sameGroup? (n : Notice) (q : List QueueEntry) : Option QueueEntry := q.find? (·.notice.group = n.group)

/-- Replace the notice of the entry of its group, which keeps its place and its collision count (R27). -/
def replaceInPlace (n : Notice) (q : List QueueEntry) : List QueueEntry :=
  q.map fun e => if e.notice.group = n.group then { e with notice := n } else e

/-- Take the entry of a notice's group out of the queue. -/
def dropGroup (n : Notice) (q : List QueueEntry) : List QueueEntry := q.filter (·.notice.group ≠ n.group)

/-- The queue with an entry placed last among the entries of its class (R26). -/
def placeLast (e : QueueEntry) (q : List QueueEntry) : List QueueEntry :=
  if e.notice.classZero then q.filter (·.notice.classZero) ++ e :: q.filter (!·.notice.classZero)
  else q ++ [e]

/-- The queue with an entry placed first among the entries of its class (R29). -/
def placeFirst (e : QueueEntry) (q : List QueueEntry) : List QueueEntry :=
  if e.notice.classZero then e :: q
  else q.filter (·.notice.classZero) ++ e :: q.filter (!·.notice.classZero)

/-- The queue after a notice is queued: coalesced with the entry of its group or placed by its class; a RELEASE over the
slot's queued CLAIM removes that CLAIM and is not queued (R26, R27, R28). -/
def queueIn (n : Notice) (q : List QueueEntry) : List QueueEntry :=
  match sameGroup? n q with
  | none => placeLast { notice := n, collisions := 0 } q
  | some e => if n.isRelease && e.notice.isClaim then dropGroup n q else replaceInPlace n q

/-- The queue after a notice returns from a collision with its count (R29). -/
def returnIn (n : Notice) (collisions : Nat) (q : List QueueEntry) : List QueueEntry :=
  match sameGroup? n q with
  | none => placeFirst { notice := n, collisions := collisions } q
  | some e =>
    if n.isClaim && e.notice.isRelease then dropGroup n q
    else placeFirst { e with collisions := collisions } (dropGroup n q)

/-- A block queues a notice (R26 to R28). -/
def State.queueNotice (s : State) (n : Notice) : State := s.putLif { s.lif with queue := queueIn n s.lif.queue }

/-- The planner queues a RELEASE for an own slot. The firm flag of its tag is a free value (notes/assumptions/8.md). -/
def State.queueRelease (s : State) (slot : SlotNo) (unit : UnitNo) (reason : ReleaseReason) : State :=
  let t := { s with freeNext := s.freeNext + 1 }
  t.queueNotice (.release slot unit (Config.releaseTagFirm s.freeNext) reason)

end Sys2Proof.Machine
end

