-- ==== Sys2Proof/Machine/Planner.lean ====
section
/-! DEFINITION. The start planner (chapter 8): fixed windows, the claim table, planning, the contest, holds, and the
planner's answers to the reports of the switching units. The meanings of OWN_START_REACHED and ENTRY_EXPIRY stand here;
SETTLE_TIMER_EXPIRY, START_PUMP and STOP_PUMP stand with the units and the requests. -/

namespace Sys2Proof.Machine

/-! Fixed windows and claim windows. -/

/-- A fixed window is active at a line time t (R145). -/
def FixedWindow.activeAt (w : FixedWindow) (t : LineTime) : Bool :=
  let g := t.toNat % 2 ^ w.exponent / 1024
  w.offset ≤ g && g < w.offset + w.length

/-- The granule of line time that begins at t is blocked when any window is active at t (R145). -/
def granuleBlocked (windows : List FixedWindow) (t : LineTime) : Bool := windows.any (·.activeAt t)

/-- Some granule of a window of n granules that starts at t is blocked (R156). -/
def windowBlocked (windows : List FixedWindow) : Nat → LineTime → Bool
  | 0, _ => false
  | n + 1, t => granuleBlocked windows t || windowBlocked windows n (t + 1024)

/-- Two windows overlap; a window of length 0 overlaps nothing (R148). -/
def windowsOverlap (a : LineTime) (la : Nat) (b : LineTime) (lb : Nat) : Bool :=
  0 < la && 0 < lb && ((b - a).toNat < 1024 * la || (a - b).toNat < 1024 * lb)

/-- An entry's end (R148). -/
def Claim.endTime (c : Claim) : LineTime := c.start + BitVec.ofNat 32 (1024 * c.length)

/-- An entry has expired at line time n: n has reached its end (R151). -/
def Claim.expiredAt (c : Claim) (n : LineTime) : Bool := reached c.endTime n

/-- Two entries' windows overlap (R148). -/
def Claim.overlaps (c d : Claim) : Bool := windowsOverlap c.start c.length d.start d.length

/-- The table with an entry placed before the first entry whose start is later than its own (R147). -/
def insertClaim (c : Claim) : List Claim → List Claim
  | [] => [c]
  | d :: ds => if later d.start c.start then c :: d :: ds else d :: insertClaim c ds

/-! Own slots and entries. -/

/-- An own slot's number as an entry carries it. -/
def SlotNo.inTag (k : SlotNo) : Fin 4 := ⟨k.val, by omega⟩

/-- An entry is the own entry of a slot (R152). -/
def State.isOwnEntry (s : State) (k : SlotNo) (c : Claim) : Bool := c.station = s.stationNo && c.slot = SlotNo.inTag k

/-- The own entry of a slot, if it holds one (R152). -/
def State.ownEntry? (s : State) (k : SlotNo) : Option Claim := s.spl.claims.find? (s.isOwnEntry k)

/-- The own slots in order. -/
def slotNumbers : List SlotNo := [0, 1]

/-- Remove a slot's own entry from the claim table. -/
def State.removeOwn (s : State) (k : SlotNo) : State := s.putClaims (s.spl.claims.filter (!s.isOwnEntry k ·))

/-- A slot becomes FREE (8.3). -/
def State.freeSlot (s : State) (k : SlotNo) : State := s.putSlot k {}

/-- A slot passes to another state and keeps the rest of what it holds. -/
def State.slotTo (s : State) (k : SlotNo) (x : SlotState) : State := s.putSlot k { s.spl.slots[k] with state := x }

/-- The state of an own slot. -/
def State.slotState (s : State) (k : SlotNo) : SlotState := s.spl.slots[k].state

/-- ANNOUNCED or SETTLING: claimed and not yet firm. -/
def SlotState.unsettled : SlotState → Bool
  | .announced | .settling _ => true
  | .free | .waiting _ | .firm | .started => false

/-- FIRM or STARTED. -/
def SlotState.confirmed : SlotState → Bool
  | .firm | .started => true
  | .free | .waiting _ | .announced | .settling _ => false

/-- WAITING. -/
def SlotState.isWaiting : SlotState → Bool
  | .waiting _ => true
  | .free | .announced | .settling _ | .firm | .started => false

/-- The slot in a state other than FREE that serves a unit (R153, R165). -/
def State.servingSlot? (s : State) (u : UnitNo) : Option SlotNo :=
  slotNumbers.find? fun k => s.slotState k != .free && s.spl.slots[k].unit = u

/-! Planning (8.5). -/

/-- The plan lead in granules: the settle interval plus 10 ms, rounded up (R155). -/
def State.planLead (s : State) : Nat := ceilDiv (s.config.settleMs * 1000 + 10000) 1024

/-- A line time rounded up to the next granule boundary, mod 2^32 (R155). -/
def roundUpGranule (t : LineTime) : LineTime := BitVec.ofNat 32 (ceilDiv t.toNat 1024 * 1024)

/-- A slot's earliest time, absent once it has been reached (R153, R155). -/
def State.openEarliest (s : State) (earliest : Option LineTime) : Option LineTime :=
  earliest.filter fun t => !reached t s.now

/-- The search start of a plan (R155). -/
def State.searchStart (s : State) (earliest : Option LineTime) : LineTime :=
  let base := s.now + BitVec.ofNat 32 (1024 * s.planLead)
  roundUpGranule (match earliest with
    | some e => if later e base then e else base
    | none => base)

/-- A candidate start is free for a window: no granule blocked and no entry overlapped (R156). -/
def State.candidateFree (s : State) (length : Nat) (start : LineTime) : Bool :=
  !s.spl.claims.any (fun c => windowsOverlap start length c.start c.length)
    && !windowBlocked s.spl.windows length start

/-- The first free candidate among n, granule after granule (R156). -/
def State.findStart (s : State) (length : Nat) : Nat → LineTime → Option LineTime
  | 0, _ => none
  | n + 1, t => if s.candidateFree length t then some t else s.findStart length n (t + 1024)

/-- Announce a planned start: the own entry, ANNOUNCED, and a CLAIM queued (R156). -/
def State.announce (s : State) (k : SlotNo) (unit : UnitNo) (start : LineTime) (length : Nat) : State :=
  let entry : Claim :=
    { station := s.stationNo, slot := SlotNo.inTag k, unit := unit, start := start, length := length, firm := false }
  ((s.putClaims (insertClaim entry s.spl.claims)).slotTo k .announced).queueNotice (.claim k unit start length false)

/-- Plan a slot that waits; any other slot is left (R156). -/
def State.planSlot (s : State) (k : SlotNo) : State :=
  let slot := s.spl.slots[k]
  if slot.state.isWaiting then
    let s := s.putSlot k { slot with earliest := s.openEarliest slot.earliest }
    let config := s.units[slot.unit].config
    if s.spl.tripHold then s.slotTo k (.waiting .tripHold)
    else if s.spl.scalingHold && config.scalingBound then s.slotTo k (.waiting .scalingHold)
    else
      match s.findStart config.windowLength Params.candidateCount (s.searchStart (s.openEarliest slot.earliest)) with
      | some start => s.announce k slot.unit start config.windowLength
      | none => s.slotTo k (.waiting .noWindow)
  else s

/-- Every WAITING slot is planned again, slot 0 first (R157). -/
def State.replan (s : State) : State := (s.planSlot 0).planSlot 1

/-- Every WAITING slot is planned again when the event removed an entry (R149, R157). -/
def State.replanIf (s : State) (removed : Bool) : State := if removed then s.replan else s

/-! Ends of a claim. -/

/-- A claim is withdrawn, up to its new plan: entry removed, RELEASE (WITHDRAWN) queued, count incremented; at 9 the slot
becomes FREE with CLAIM_FAILED (CONTENDED), and otherwise it waits to be planned (R161). -/
def State.withdrawOnly (s : State) (k : SlotNo) : State :=
  let slot := s.spl.slots[k]
  let s := (s.removeOwn k).queueRelease k slot.unit .withdrawn
  if Params.contendedWithdrawals ≤ slot.withdrawals + 1 then (s.freeSlot k).raiseClaimFailed k .contended
  else s.putSlot k { slot with state := .waiting .noWindow, withdrawals := slot.withdrawals + 1 }

/-- A claim is withdrawn and its slot planned again at once (R161). -/
def State.withdraw (s : State) (k : SlotNo) : State := (s.withdrawOnly k).planSlot k

/-- A claim is withdrawn by a hold, without counting (R167, R168). -/
def State.holdBack (s : State) (k : SlotNo) (reason : WaitReason) : State :=
  ((s.removeOwn k).queueRelease k s.spl.slots[k].unit .withdrawn).slotTo k (.waiting reason)

/-- A slot ends with a RELEASE of the given reason: entry removed, RELEASE queued, FREE (R154, R165, R167). -/
def State.endSlot (s : State) (k : SlotNo) (reason : ReleaseReason) : State :=
  ((s.removeOwn k).queueRelease k s.spl.slots[k].unit reason).freeSlot k

/-- A slot is released (R165). -/
def State.releaseSlot (s : State) (k : SlotNo) (reason : ReleaseReason) : State := (s.endSlot k reason).replan

/-- The planner abandons a pending claim: the entry, if the slot holds one, is removed with RELEASE (ABANDONED), the slot
becomes FREE, and WAITING slots are planned again if an entry was removed (R154). -/
def State.abandon (s : State) (k : SlotNo) : State :=
  if (s.ownEntry? k).isSome then (s.endSlot k .abandoned).replan else s.freeSlot k

/-- Every entry whose end is reached is removed, and an own slot whose entry expires becomes FREE; whether an entry was
removed (R151). -/
def State.expireOnly (s : State) : State × Bool :=
  let gone := s.spl.claims.filter (·.expiredAt s.now)
  let free := fun (s : State) (k : SlotNo) => if gone.any (s.isOwnEntry k) then s.freeSlot k else s
  ((slotNumbers.foldl free s).putClaims (s.spl.claims.filter (!·.expiredAt s.now)), !gone.isEmpty)

/-- The expiry of entries with its new plans (R151). -/
def State.expire (s : State) : State :=
  let (t, removed) := s.expireOnly
  t.replanIf removed

/-! What the line interface brings. -/

/-- A CLAIM of a slot has been sent whole (R158). -/
def State.claimSentWhole (s : State) (k : SlotNo) (start : LineTime) (length : Nat) : State :=
  match s.slotState k, s.ownEntry? k with
  | .announced, some c => if c.start = start && c.length = length then s.slotTo k (.settling s.count) else s
  | _, _ => s

/-- A CLAIM of a slot was discarded after its eighth collision (R159). -/
def State.claimDiscarded (s : State) (k : SlotNo) (start : LineTime) (length : Nat) : State :=
  match s.slotState k, s.ownEntry? k with
  | .announced, some c =>
    if c.start = start && c.length = length then
      (((s.removeOwn k).freeSlot k).raiseClaimFailed k .jammed).replan
    else s
  | _, _ => s

/-- The table after the sender's entry has been written, and whether another entry was removed for it (R149). -/
def writeHeard (c : Claim) (claims : List Claim) : List Claim × Bool :=
  let same := fun d : Claim => d.station = c.station && d.slot = c.slot
  match claims.find? same with
  | some old =>
    if old.start = c.start then (claims.map fun d => if same d then c else d, false)
    else (insertClaim c (claims.filter (!same ·)), false)
  | none =>
    match claims.filter (·.station = c.station) with
    | d :: e :: _ =>
      let out := if later d.start e.start then e else d
      (insertClaim c (claims.erase out), true)
    | _ => (insertClaim c claims, false)

/-- A heard claim is judged against the own entry of a slot; whether the own claim was withdrawn (R162). -/
def State.judge (s : State) (heard : Claim) (k : SlotNo) : State × Bool :=
  match s.ownEntry? k with
  | none => (s, false)
  | some own =>
    if !heard.overlaps own then (s, false)
    else if (s.slotState k).unsettled then
      if heard.station < s.stationNo || heard.firm then (s.withdraw k, true) else (s, false)
    else if (s.slotState k).confirmed then
      if heard.firm then (s.raise (.startOverlap k), false)
      else (s.queueNotice (.claim k own.unit own.start own.length true), false)
    else (s, false)

/-- A heard CLAIM reaches the planner, and is judged against slot 0's entry before slot 1's (R149, R162). -/
def State.claimHeard (s : State) (c : Claim) : State :=
  let (claims, displaced) := writeHeard c s.spl.claims
  let s := s.putClaims claims
  if c.expiredAt s.now then (s.putClaims (s.spl.claims.erase c)).replan
  else
    let (s, first) := s.judge c 0
    let (s, second) := s.judge c 1
    s.replanIf (displaced || first || second)

/-- A heard RELEASE reaches the planner: the sender's entry of the tag's slot is removed (R150). -/
def State.releaseHeard (s : State) (sender : StationNo) (slot : Fin 4) : State :=
  let match? := fun d : Claim => d.station = sender && d.slot = slot
  if s.spl.claims.any match? then (s.putClaims (s.spl.claims.filter (!match? ·))).replan else s

/-! Holds (8.10). -/

/-- Whether the scaling hold applies: the own state, or a heard and not silent peer row, shows ALARM (R166). -/
def State.scalingAlarm (s : State) : Bool :=
  s.scw.state = .alarm || s.peerNumbers.any fun n =>
    let row := s.peers[n]
    row.heard && !row.silent && row.scaling = .alarm

/-- A slot at the onset of the trip hold; whether its entry was removed (R167). -/
def State.tripHoldSlot (s : State) (k : SlotNo) : State × Bool :=
  match s.slotState k with
  | .announced | .settling _ => (s.holdBack k .tripHold, true)
  | .firm => (s.endSlot k .trip, true)
  | .free | .waiting _ | .started => (s, false)

/-- The trip view's onset reaches the planner (R166, R167). DESIGN CHOICE: slot 0 is treated before slot 1, and their RELEASEs
are queued so (notes/assumptions/40.md). -/
def State.tripHoldOnset (s : State) : State :=
  let s := s.putSpl { s.spl with tripHold := true }
  let (s, first) := s.tripHoldSlot 0
  let (s, second) := s.tripHoldSlot 1
  s.replanIf (first || second)

/-- The trip view's release reaches the planner (R105, R167). -/
def State.tripHoldRelease (s : State) : State := (s.putSpl { s.spl with tripHold := false }).replan

/-- A slot at the onset of the scaling hold; whether its entry was removed (R168). -/
def State.scalingHoldSlot (s : State) (k : SlotNo) : State × Bool :=
  if (s.slotState k).unsettled && s.units[s.spl.slots[k].unit].config.scalingBound then
    (s.holdBack k .scalingHold, true)
  else (s, false)

/-- The planner evaluates the scaling hold again (R166, R168). DESIGN CHOICE: at the onset slot 0 is treated before slot 1, and
their RELEASEs are queued so (notes/assumptions/40.md). -/
def State.evaluateScalingHold (s : State) : State :=
  if s.scalingAlarm = s.spl.scalingHold then s
  else if s.scalingAlarm then
    let s := s.putSpl { s.spl with scalingHold := true }
    let (s, first) := s.scalingHoldSlot 0
    let (s, second) := s.scalingHoldSlot 1
    s.replanIf (first || second)
  else (s.putSpl { s.spl with scalingHold := false }).replan

/-! Reports of the units (8.9). -/

/-- What a unit reports to the planner (R165). -/
inductive UnitReport where
  | firstEdge | stopped | missed
  deriving DecidableEq, Repr

/-- The planner answers a report by the state of the slot that serves the unit (R165). -/
def State.report (s : State) (u : UnitNo) (r : UnitReport) : State :=
  match s.servingSlot? u with
  | none => s
  | some k =>
    match r, s.slotState k with
    | .firstEdge, .firm => s.slotTo k .started
    | .stopped, .firm => s.releaseSlot k .stopped
    | .missed, .firm | .missed, .started => s.releaseSlot k .missed
    | _, _ => s

/-! Line time and the planner. -/

/-- Line time has reached the start of an unsettled own claim (R160). -/
def State.ownStartDue (s : State) (k : SlotNo) : Bool :=
  (s.slotState k).unsettled && (s.ownEntry? k).any fun c => reached c.start s.now

/-- The first reaction to a step for one slot: a claim whose start has been reached is withdrawn and not planned yet (R169). -/
def State.stepWithdraw (s : State) (k : SlotNo) : State := if s.ownStartDue k then s.withdrawOnly k else s

/-- A time step reaches the planner, with line time at its "after" value (R169, R170). DESIGN CHOICE: of two own claims that it
reaches, slot 0's is withdrawn before slot 1's (notes/assumptions/40.md). -/
def State.plannerStep (s : State) : State :=
  if s.inRun then ((s.stepWithdraw 0).stepWithdraw 1).expireOnly.1.replan else s.expireOnly.1

/-- Some entry's end has been reached, in a state in which entries expire (R151, R172). -/
def State.expiryDue (s : State) : Bool := s.lineEnabled && s.spl.claims.any (·.expiredAt s.now)

/-- OWN_START_REACHED: the claim is withdrawn, and WAITING slots are planned again (R160, R161). -/
def execOwnStartReached (slot : SlotNo) (s : State) : Outcome :=
  .next (if s.inRun && s.ownStartDue slot then (s.withdraw slot).replan else s)

/-- ENTRY_EXPIRY: every entry whose end is reached expires (R151). -/
def execEntryExpiry (s : State) : Outcome := .next (if s.expiryDue then s.expire else s)

end Sys2Proof.Machine
end

