-- ==== Sys2Proof/Machine/Scaling.lean ====
section
/-! DEFINITION. The scaling watch (chapter 7): rating intervals, the evaluation of a full interval, the index history, the
scaling state, and what the groups and the heat meter hand to it. The meaning of INTERVAL_BOUNDARY. -/

namespace Sys2Proof.Machine

/-- The configured interval length in µs (R125). -/
def ScalingConfig.lengthUs (c : ScalingConfig) : Nat := c.lengthS * 1000000

/-- A new open interval (R125, R126). -/
def openInterval (config : ScalingConfig) (opened : LineTime) (short : Bool) : Interval :=
  { opened := opened, short := short, nextBoundary := nextMultiple config.lengthUs opened }

/-! Readings and energy (R126, R127). -/

/-- A channel's reading in a set record, when it is present and not saturated (R126). -/
def usableReading (record : SetRecord) (channel : Option ChannelNo) : Option Int :=
  channel.bind fun c =>
    (record.readings.find? (·.channel = c)).bind fun r => if r.saturated then none else r.value

/-- An accumulator after it has looked for its channel in a set record (R126). -/
def Accumulator.take (a : Accumulator) (record : SetRecord) (channel : Option ChannelNo) : Accumulator :=
  match usableReading record channel with
  | some v => { sum := a.sum + v, count := a.count + 1 }
  | none => a

/-- The open interval of an active watch; an idle watch takes nothing (R124). -/
def State.watchInterval? (s : State) : Option Interval := if s.scw.active then s.scw.interval else none

/-- A set record reaches the watch (R65, R126). -/
def State.setToWatch (s : State) (record : SetRecord) : State :=
  match s.watchInterval? with
  | none => s
  | some i =>
    s.putScw { s.scw with
      interval := some { i with
        hotIn := i.hotIn.take record s.scw.config.hotIn
        hotOut := i.hotOut.take record s.scw.config.hotOut
        coldIn := i.coldIn.take record s.hmt.config.ret
        coldOut := i.coldOut.take record s.hmt.config.supply
        pressure := i.pressure.take record s.scw.config.pressure } }

/-- A forward P reaches the watch: S is held at 2^64 − 1 (R127). -/
def State.forwardEnergy (s : State) (p : Nat) : State :=
  match s.watchInterval? with
  | none => s
  | some i =>
    s.putScw { s.scw with
      interval := some { i with energy := min (2 ^ 64 - 1) (i.energy + p), pulses := i.pulses + 1 } }

/-! Evaluation (R131 to R136). -/

/-- A mean: the sum divided by the count, truncated toward zero, absent at a count of 0 (R131). -/
def Accumulator.mean (a : Accumulator) : Option Int := if a.count = 0 then none else some (truncDiv a.sum a.count)

/-- The test for a basis: ΔTm, or the first condition that fails (R132). -/
def basisOf (energy : Nat) (hotIn hotOut coldIn coldOut : Option Int) : Except NoBasis Int :=
  match hotIn, hotOut, coldIn, coldOut with
  | some hotIn, some hotOut, some coldIn, some coldOut =>
    let a := hotIn - coldOut
    let b := hotOut - coldIn
    let mean := truncDiv (a + b) 2
    if energy = 0 then .error .noEnergy
    else if a ≤ 0 then .error .hotEndCrossed
    else if b ≤ 0 then .error .coldEndCrossed
    else if mean < Params.leastMeanDifference then .error .dtSmall
    else .ok mean
  | _, _, _, _ => .error .meanAbsent

/-- UA in W/K (R133). -/
def uaOf (energy lengthS mean : Nat) : Nat := min (2 ^ 32 - 1) (energy / (lengthS * mean * 1000))

/-- The fouling index in per-mille (R133). -/
def indexOf (energy lengthS mean baseline : Nat) : Nat := min 2000 (energy / (lengthS * mean * baseline))

/-- A value that is present and passes a test. -/
def holds {α : Type} (x : Option α) (test : α → Bool) : Bool := x.any test

/-- The record of a full interval, from its index, UA and mean ΔP (R134, R135). -/
def indexRecord (config : ScalingConfig) (endTime : LineTime) (index ua : Option Nat) (pressure : Option Int) :
    IndexRecord :=
  let alarm := holds index (· < config.alarmLimit) || holds pressure (config.pressureAlarm < ·)
  let watch := holds index (· < config.watchLimit) || holds pressure (config.pressureWatch < ·) || alarm
  { endTime := endTime, index := index, ua := ua, pressure := pressure, watch := watch, alarm := alarm }

/-- The evaluation of a full interval that closes at b (R131 to R135). -/
def evaluate (config : ScalingConfig) (i : Interval) (b : LineTime) : Evaluation :=
  let hotIn := i.hotIn.mean
  let hotOut := i.hotOut.mean
  let coldIn := i.coldIn.mean
  let coldOut := i.coldOut.mean
  let basis := basisOf i.energy hotIn hotOut coldIn coldOut
  let mean := match basis with | .ok m => some m | .error _ => none
  let ua := mean.map fun m => uaOf i.energy config.lengthS m.toNat
  let index := mean.map fun m => indexOf i.energy config.lengthS m.toNat config.baseline
  { record := indexRecord config b index ua i.pressure.mean
    hotIn := hotIn, hotOut := hotOut, coldIn := coldIn, coldOut := coldOut
    noBasis := match basis with | .ok _ => none | .error why => some why
    meanDifference := mean
    energy := i.energy, pulses := i.pulses
    kilojoules := min (2 ^ 32 - 1) (i.energy / Params.unitsPerKilojoule) }

/-- The held values after an evaluation (R135). -/
def heldAfter (held : Option Held) (r : IndexRecord) : Option Held :=
  match r.ua, r.index with
  | some ua, some index => some { ua := ua, index := index, endTime := r.endTime }
  | _, _ => held

/-- The newest W records of the history (R136). -/
def Scw.windowRecords (w : Scw) : List IndexRecord := w.history.drop (w.history.length - w.config.window)

/-- The watch count of the window (R136). -/
def Scw.watchesInWindow (w : Scw) : Nat := (w.windowRecords.filter (·.watch)).length

/-- The alarm count of the window (R136). -/
def Scw.alarmsInWindow (w : Scw) : Nat := (w.windowRecords.filter (·.alarm)).length

/-- The scaling state and the acknowledged flag that an evaluation decides from the window counts (R137). -/
def Scw.decide (w : Scw) : ScalingState × Bool :=
  let alarm : Bool := effectiveCount w.config.window w.config.alarmCount ≤ w.alarmsInWindow
  let watch : Bool := effectiveCount w.config.window w.config.watchCount ≤ w.watchesInWindow
  let below := if watch then ScalingState.watch else .clear
  match w.state with
  | .clear | .watch => if alarm then (.alarm, false) else (below, w.acknowledged)
  | .alarm => if w.acknowledged && !alarm then (below, false) else (.alarm, w.acknowledged)

/-- The HEAT notice of an evaluation (R139). -/
def heatOf (e : Evaluation) : HeatSummary :=
  { intervalEnd := e.record.endTime, kilojoules := e.kilojoules, ua := e.record.ua, index := e.record.index }

/-- The HEAT notice is queued, and the own row's HEAT summary written (R139, R21). -/
def State.queueHeat (s : State) (h : HeatSummary) : State :=
  { s.queueNotice (.heat h) with own := { s.own with heat := some h } }

/-- A SCALE notice is queued, and the own row's scaling change time written (R138, R140, R21). -/
def State.queueScale (s : State) (index : Option Nat) (t : LineTime) : State :=
  { s.queueNotice (.scale s.scw.state s.scw.acknowledged index t) with own := { s.own with scalingChange := t } }

/-- The full interval i closes at b and is evaluated: record, state, HEAT, and the state change if there is one
(R131, R137 to R139). -/
def State.evaluateInterval (s : State) (i : Interval) (b : LineTime) : State :=
  let e := evaluate s.scw.config i b
  let w := { s.scw with
    latest := some e
    held := heldAfter s.scw.held e.record
    history := enterNewest Config.indexHistoryDepth s.scw.history e.record }
  let (state, acknowledged) := w.decide
  let s' := (s.putScw { w with state := state, acknowledged := acknowledged }).queueHeat (heatOf e)
  if state = s.scw.state then s'
  else ((s'.raise .scaleChange).queueScale e.record.index b).evaluateScalingHold

/-- An interval closed short is discarded (R130). -/
def State.discardInterval (s : State) (t : LineTime) : State :=
  s.putScw { s.scw with interval := none, shortCount := s.scw.shortCount + 1, lastShort := some t }

/-- The watch opens an interval (R125, R129). -/
def State.openNext (s : State) (t : LineTime) (short : Bool) : State :=
  s.putScw { s.scw with interval := some (openInterval s.scw.config t short) }

/-- The open interval's next boundary has been reached (R125). -/
def State.intervalDue (s : State) : Bool :=
  s.inRun && s.watchInterval?.any fun i => reached i.nextBoundary s.now

/-- The open interval closes at its boundary, full or short, and a new one opens there (R125). -/
def State.closeAtBoundary (s : State) (i : Interval) : State :=
  let b := i.nextBoundary
  let s := if i.short || b = 0 then s.discardInterval b else s.evaluateInterval i b
  s.openNext b false

/-- INTERVAL_BOUNDARY (R125). -/
def execIntervalBoundary (s : State) : Outcome :=
  .next (match s.watchInterval? with
    | some i => if s.intervalDue then s.closeAtBoundary i else s
    | none => s)

/-- A time step reaches the watch: a span with a boundary, or a backward step, closes the open interval short and opens a new
one, short, at "after" (R129; notes/assumptions/33.md for an interval whose next boundary was already due). -/
def State.intervalStep (s : State) (e : StepEvent) : State :=
  match s.watchInterval? with
  | none => s
  | some i =>
    if e.crosses i.nextBoundary s.scw.config.lengthUs then (s.discardInterval s.now).openNext s.now true else s

end Sys2Proof.Machine
end

