-- ==== Sys2Proof/Machine/Heat.lean ====
section
/-! DEFINITION. The heat meter (chapter 6): the k-factor, the energy of a pulse, counters, residues and carry, and the flow
pulse as the TOTALISER unit hands it over. -/

namespace Sys2Proof.Machine

/-- The k-factor at a return reading (R113). -/
def kFactor (table : Vector Nat 16) (tr : Int) : Int :=
  if tr ≤ 0 then table[0]
  else if 15000 ≤ tr then table[15]
  else
    let i := (tr / 1000).toNat
    let low : Int := table.toList.getD i 0
    let high : Int := table.toList.getD (i + 1) 0
    low + truncDiv ((high - low) * (tr - 1000 * i)) 1000

/-- ΔT after the clamp to 300 K, and whether it was clamped (R114). -/
def clampDelta (d : Int) : Int × Bool :=
  if (Params.deltaClamp : Int) < d then (Params.deltaClamp, true)
  else if d < -(Params.deltaClamp : Int) then (-(Params.deltaClamp : Int), true)
  else (d, false)

/-- A channel's latest set value as the heat meter reads it; a channel configured as none has none (R110). -/
def State.meterReading (s : State) (c : Option ChannelNo) : Option Int := c.bind fun c => s.channels[c].latest

/-- A configured channel's latest set value carries the saturated bit (R110). -/
def State.meterSaturated (s : State) (c : Option ChannelNo) : Bool := c.any fun c => s.channels[c].latestSaturated

/-- The readings of a metered pulse, or the first unmetered reason in the table's order (R110). -/
def State.meterReadings (s : State) : Except UnmeteredReason (Int × Int) :=
  let c := s.hmt.config
  match s.meterReading c.supply, s.meterReading c.ret with
  | none, _ => .error (if c.supply.isSome && c.ret.isNone then .returnAbsent else .supplyAbsent)
  | some _, none => .error .returnAbsent
  | some ts, some tr =>
    if s.meterSaturated c.supply then .error .supplySaturated
    else if s.meterSaturated c.ret then .error .returnSaturated
    else .ok (ts, tr)

/-- Energy added to a residue and a kJ counter of 40 bits: the new residue, the new counter, the carry, and whether the
counter wrapped (R115, R116). -/
structure Carried where
  residue : Nat
  counter : BitVec 40
  carry : Nat
  wrapped : Bool
  deriving DecidableEq, Repr

/-- The carry of a pulse's energy (R115, R116). -/
def carryInto (residue : Nat) (counter : BitVec 40) (p : Nat) : Carried :=
  let sum := residue + p
  let carry := sum / Params.unitsPerKilojoule
  { residue := sum % Params.unitsPerKilojoule
    counter := counter + BitVec.ofNat 40 carry
    carry := carry
    wrapped := 2 ^ 40 ≤ counter.toNat + carry }

/-- The total volume after a pulse of any class, with its wrap flag (R118). -/
def Hmt.addVolume (h : Hmt) : Hmt :=
  { h with
    totalVolume := h.totalVolume + BitVec.ofNat 48 h.config.volume
    volumeWrap := h.volumeWrap || 2 ^ 48 ≤ h.totalVolume.toNat + h.config.volume }

/-- The heat meter after an unmetered pulse (R110, R118, R119). -/
def Hmt.unmetered (h : Hmt) (t : LineTime) (why : UnmeteredReason) : Hmt :=
  let h := h.addVolume
  { h with
    unmeteredPulses := h.unmeteredPulses + 1
    unmeteredVolume := h.unmeteredVolume + BitVec.ofNat 48 h.config.volume
    unmeteredMark := true
    lastPulse := some
      { lineTime := t, cls := .unmetered, reason := some why, supply := none, ret := none, delta := none,
        clamped := false, k := none, energy := none, carry := none } }

/-- The class of a metered pulse by its ΔT (R109). -/
def pulseClass (delta : Int) : PulseClass := if 0 < delta then .forward else if delta < 0 then .reverse else .zero

/-- The energy of a pulse, in 10^−5 J (R114). -/
def pulseEnergy (volume : Nat) (delta k : Int) : Nat := volume * delta.natAbs * k.toNat

/-- The heat meter after a metered pulse with the readings Ts and Tr (R109, R113 to R119). -/
def Hmt.metered (h : Hmt) (t : LineTime) (ts tr : Int) : Hmt :=
  let (delta, clamped) := clampDelta (ts - tr)
  let k := kFactor h.config.kTable tr
  let p := pulseEnergy h.config.volume delta k
  let h := { h.addVolume with clampFlag := h.clampFlag || clamped, unmeteredMark := false }
  let record : PulseRecord :=
    { lineTime := t, cls := pulseClass delta, reason := none, supply := some ts, ret := some tr, delta := some delta,
      clamped := clamped, k := some k, energy := none, carry := none }
  match pulseClass delta with
  | .forward =>
    let c := carryInto h.forwardResidue h.forwardKj p
    { h with
      forwardResidue := c.residue, forwardKj := c.counter, forwardWrap := h.forwardWrap || c.wrapped
      forwardPulses := h.forwardPulses + 1
      lastPulse := some { record with energy := some p, carry := some c.carry } }
  | .reverse =>
    let c := carryInto h.reverseResidue h.reverseKj p
    { h with
      reverseResidue := c.residue, reverseKj := c.counter, reverseWrap := h.reverseWrap || c.wrapped
      reversePulses := h.reversePulses + 1
      lastPulse := some { record with energy := some p, carry := some c.carry } }
  | .zero | .unmetered => { h with zeroPulses := h.zeroPulses + 1, lastPulse := some record }

/-- A flow pulse with its master line time reaches the heat meter (R109 to R111, R117). -/
def State.flowPulse (s : State) (t : LineTime) : State :=
  match s.meterReadings with
  | .error why =>
    let first := !s.hmt.unmeteredMark
    let s := s.putHmt (s.hmt.unmetered t why)
    if first then s.raise .unmetered else s
  | .ok (ts, tr) =>
    let h := s.hmt.metered t ts tr
    let s := s.putHmt h
    match h.lastPulse.bind fun r => if r.cls = .forward then r.energy else none with
    | some p => s.forwardEnergy p
    | none => s

end Sys2Proof.Machine
end

