-- ==== Sys2Proof/Machine/Units.lean ====
section
/-! DEFINITION. The switching units (chapter 9): edge definitions, the edge queue, starts, stops, catch-up and shed; and
the settle end, at which the planner hands a firm start to its unit (R163). The meanings of EDGE_DUE and
SETTLE_TIMER_EXPIRY. -/

namespace Sys2Proof.Machine

/-! Edge definitions (9.2). -/

/-- The definition places of a unit, lowest first. -/
def defNumbers : List DefNo := [0, 1, 2, 3, 4, 5]

/-- The switching units in order. -/
def unitNumbers : List UnitNo := [0, 1, 2, 3]

/-- A definition's origin and cumulative offset, following at most n references (R174). -/
def resolveDef (defs : Vector EdgeDef 6) : Nat → DefNo → Origin × Nat
  | 0, _ => (.start, 0)
  | n + 1, d =>
    match defs[d].basis with
    | .start => (.start, defs[d].offset)
    | .stop => (.stop, defs[d].offset)
    | .after j =>
      let (origin, offset) := resolveDef defs n j
      (origin, offset + defs[d].offset)

/-- A definition's origin (R174). -/
def SwUnit.origin (u : SwUnit) (d : DefNo) : Origin := (resolveDef u.defs 6 d).1

/-- A definition's cumulative offset (R174). -/
def SwUnit.cumulativeOffset (u : SwUnit) (d : DefNo) : Nat := (resolveDef u.defs 6 d).2

/-- The enabled definitions of an origin, lowest first (R174). -/
def SwUnit.defsOf (u : SwUnit) (origin : Origin) : List DefNo :=
  defNumbers.filter fun d => u.defs[d].enabled && u.origin d = origin

/-- A unit is configured when at least one of its definitions is enabled (R177). -/
def SwUnit.configured (u : SwUnit) : Bool := defNumbers.any fun d => u.defs[d].enabled

/-- The first condition of R177 that a configured unit fails, 1 to 3. -/
def SwUnit.invalid? (u : SwUnit) : Option Nat :=
  let afterDisabled := fun d : DefNo =>
    match u.defs[d].basis with
    | .after j => !u.defs[j].enabled
    | .start | .stop => false
  if !u.configured then none
  else if defNumbers.any fun d => u.defs[d].enabled && afterDisabled d then some 1
  else if (u.defsOf .start).isEmpty || (u.defsOf .stop).isEmpty then some 2
  else if (u.defsOf .start).any fun d => 1024 * u.config.windowLength ≤ u.cumulativeOffset d then some 3
  else none

/-! The edge queue (9.3). -/

/-- The queue with an entry placed before the first entry whose due time is later than its own (R178). -/
def insertEdge (e : Edge) : List Edge → List Edge
  | [] => [e]
  | d :: ds => if later d.due e.due then e :: d :: ds else d :: insertEdge e ds

/-- A unit after it has written one entry of a definition with its due time; the entry takes the written count as its sequence
number (R174, R178). -/
def SwUnit.writeEdge (u : SwUnit) (origin : Origin) (due : LineTime) (d : DefNo) : SwUnit :=
  { u with
    queue := insertEdge
      { sequence := u.written, output := u.defs[d].output, high := u.defs[d].high,
        due := due, origin := origin, startNumber := u.startNumber } u.queue
    written := u.written + 1 }

/-- A unit after it has written the entries of a start or a stop at an origin time, each due at that time plus its definition's
cumulative offset (R174). -/
def SwUnit.writeEdges (u : SwUnit) (origin : Origin) (time : LineTime) : SwUnit :=
  (u.defsOf origin).foldl (fun u d => u.writeEdge origin (time + BitVec.ofNat 32 (u.cumulativeOffset d)) d) u

/-- A unit after it has written the stop entries of an aborted start, each due at the present line time (R188). -/
def SwUnit.writeAbort (u : SwUnit) (now : LineTime) : SwUnit :=
  (u.defsOf .stop).foldl (fun u d => u.writeEdge .stop now d) u

/-- A unit after the queue entries that meet a test have been discarded (R178). -/
def SwUnit.discardWhere (u : SwUnit) (test : Edge → Bool) : SwUnit :=
  { u with
    queue := u.queue.filter (!test ·)
    discarded := u.discarded + BitVec.ofNat 16 (u.queue.filter test).length }

/-- The unit's state after it has output an entry (R181). -/
def SwUnit.stateAfter (u : SwUnit) (e : Edge) : UnitState :=
  if u.queue.isEmpty then
    match e.origin with
    | .start => .running
    | .stop => .idle
  else u.state

/-- An entry e of the queue is output: the output takes its level, the entry leaves the queue and is counted, the unit reports
the first start edge and changes state (R179, R181). -/
def State.outputEdge (s : State) (n : UnitNo) (e : Edge) : State :=
  let u := s.units[n]
  let first := e.origin = .start && !u.edgeMark
  let u := { u with queue := u.queue.erase e, outputCount := u.outputCount + 1, edgeMark := u.edgeMark || first }
  let s := (s.putOutput e.output e.high).putUnit n { u with state := u.stateAfter e }
  if first then s.report n .firstEdge else s

/-! Catch-up (9.6). -/

/-- A late entry is output at once: EDGE_LATE, the late edge count and the last late edge record (R186, R187). -/
def State.outputLate (s : State) (n : UnitNo) (e : Edge) (lateStop : Bool) : State :=
  let u := s.units[n]
  let late : LateEdge := { edge := e, lateness := lateness e.due s.now, lateStop := lateStop }
  ((s.putUnit n { u with lateCount := u.lateCount + 1, lastLate := some late }).raise (.edgeLate n)).outputEdge n e

/-- A start entry late beyond the window ends the start: aborted with stop entries due at the present line time, whatever
their definitions' offsets, or missed (R188). -/
def State.endStart (s : State) (n : UnitNo) (e : Edge) : State :=
  let u := s.units[n].discardWhere fun d => d.origin = .start && d.startNumber = e.startNumber
  if u.edgeMark then
    ((s.putUnit n { u.writeAbort s.now with state := .stopping }).raise (.startAborted n)).report n .missed
  else ((s.putUnit n { u with state := .idle }).raise (.startMissed n)).report n .missed

/-- A reached entry is taken by the catch-up rule; an entry of lateness 0 is output as R179 gives (R186 to R188). -/
def State.catchUp (s : State) (n : UnitNo) (e : Edge) : State :=
  let late := lateness e.due s.now
  if late ≤ 0 then s.outputEdge n e
  else if late ≤ s.units[n].config.catchUp then s.outputLate n e false
  else
    match e.origin with
    | .stop => s.outputLate n e true
    | .start => s.endStart n e

/-- The entries whose due times pass a test are taken in queue order, at most `fuel` of them, each by the given rule. -/
def State.takeEdges (s : State) (n : UnitNo) (test : LineTime → Bool) (rule : State → Edge → State) : Nat → State
  | 0 => s
  | fuel + 1 =>
    match s.units[n].queue.find? (test ·.due) with
    | none => s
    | some e => (rule s e).takeEdges n test rule fuel

/-- Enough turns to take every entry of the queue and the stop entries that an abort writes. -/
def State.edgeFuel (s : State) (n : UnitNo) : Nat := s.units[n].queue.length + 6

/-- Every reached entry is output or caught up (R180, R182, R188, R190). -/
def State.takeReached (s : State) (n : UnitNo) : State :=
  s.takeEdges n (fun due => reached due s.now) (fun s e => s.catchUp n e) (s.edgeFuel n)

/-! Starts and stops (9.4, 9.5). -/

/-- A firm start is handed over; a unit whose trip flag is set declines it (R180). -/
def State.handOver (s : State) (n : UnitNo) (start : LineTime) : State :=
  let u := s.units[n]
  if u.tripFlag then s.report n .stopped
  else
    let u := { u with startNumber := u.startNumber + 1, edgeMark := false }
    (s.putUnit n { u.writeEdges .start start with state := .starting }).takeReached n

/-- A unit in STARTING or RUNNING writes a stop at a stop time (R182). -/
def State.writeStop (s : State) (n : UnitNo) (time : LineTime) : State :=
  let u := s.units[n]
  let report := u.state = .starting && !u.edgeMark
  let v := (u.discardWhere fun e => e.origin = .start).writeEdges .stop time
  let s := s.putUnit n { v with state := .stopping }
  (if report then s.report n .stopped else s).takeReached n

/-- A stop-now from a guard channel: a stop at the line time now in STARTING or RUNNING, no effect otherwise (R184). -/
def State.stopNow (s : State) (n : UnitNo) : State :=
  match s.units[n].state with
  | .starting | .running => s.writeStop n s.now
  | .idle | .stopping => s

/-- The first entry's due time has been reached in RUN (R179). -/
def State.edgeIsDue (s : State) (n : UnitNo) : Bool :=
  s.inRun && (s.units[n].queue.head?).any fun e => reached e.due s.now

/-- A time step, with line time at its "after" value, reaches a unit: each entry is judged, and those the step reached are
taken in queue order by the catch-up rule (R189). -/
def State.unitStep (s : State) (n : UnitNo) (e : StepEvent) : State :=
  s.takeEdges n (e.reaches s.now) (fun s d => s.catchUp n d) (s.edgeFuel n)

/-! Shed (9.7). -/

/-- A peer row counts for the rank: heard, not silent, WELL, a lower number, and active units (R191). -/
def State.countsForRank (s : State) (n : StationNo) : Bool :=
  let row := s.peers[n]
  row.heard && !row.silent && row.roles.well && n < s.stationNo && 0 < row.activeUnits

/-- The rank, counted from the peer table (R191). -/
def State.rank (s : State) : Nat := (s.peerNumbers.filter s.countsForRank).length

/-- The shed time of a unit (R190). -/
def shedTime (config : UnitConfig) (n : UnitNo) (rank : Nat) (trip : LineTime) : LineTime :=
  trip + BitVec.ofNat 32 ((config.shedBaseMs + rank * config.shedStepMs + n.val * config.unitGapMs) * 1000)

/-- A trip view onset, with its time and rank, reaches a unit (R190). -/
def State.shed (s : State) (n : UnitNo) (trip : LineTime) (rank : Nat) : State :=
  let u := { s.units[n] with tripFlag := true, lastOnset := some { rank := rank, time := trip } }
  let s := s.putUnit n u
  match u.state with
  | .idle | .stopping => s
  | .starting => s.writeStop n (if u.config.shedEnable then shedTime u.config n rank trip else s.now)
  | .running => if u.config.shedEnable then s.writeStop n (shedTime u.config n rank trip) else s

/-- A trip view release reaches a unit: its trip flag clears (R192). -/
def State.clearTripFlag (s : State) (n : UnitNo) : State := s.putUnit n { s.units[n] with tripFlag := false }

/-! The settle end (8.8). -/

/-- The settle timer of a SETTLING slot has reached the settle interval (R152, R163). -/
def State.settleDue (s : State) (k : SlotNo) : Bool :=
  match s.slotState k with
  | .settling start => s.inRun && s.expired start (s.config.settleMs * Params.perMillisecond)
  | .free | .waiting _ | .announced | .firm | .started => false

/-- An entry that keeps an own window from becoming firm: of a lower-numbered station, or firm of another (R163). -/
def State.blocksFirm (s : State) (own c : Claim) : Bool :=
  (c.station < s.stationNo || (c.firm && c.station != s.stationNo)) && c.overlaps own

/-- The own claim becomes FIRM: flag set, reasserting CLAIM queued, start handed to the unit (R163). -/
def State.makeFirm (s : State) (k : SlotNo) (own : Claim) : State :=
  let claims := s.spl.claims.map fun c => if s.isOwnEntry k c then { c with firm := true } else c
  (((s.putClaims claims).slotTo k .firm).queueNotice (.claim k own.unit own.start own.length true)).handOver
    own.unit own.start

/-- The planner judges a claim at its settle end (R163). -/
def State.settleEnd (s : State) (k : SlotNo) : State :=
  match s.ownEntry? k with
  | none => s
  | some own =>
    if s.spl.tripHold then (s.holdBack k .tripHold).replan
    else if s.spl.scalingHold && s.units[own.unit].config.scalingBound then (s.holdBack k .scalingHold).replan
    else if s.spl.claims.any (s.blocksFirm own) || windowBlocked s.spl.windows own.length own.start then
      (s.withdraw k).replan
    else s.makeFirm k own

/-- SETTLE_TIMER_EXPIRY of a slot (R163). -/
def execSettleTimerExpiry (slot : SlotNo) (s : State) : Outcome :=
  .next (if s.settleDue slot then s.settleEnd slot else s)

/-- EDGE_DUE at a unit: every entry that line time has reached is output in queue order (R179). -/
def execEdgeDue (unit : UnitNo) (s : State) : Outcome :=
  .next (if s.edgeIsDue unit then
    s.takeEdges unit (fun due => reached due s.now) (fun s e => s.outputEdge unit e) (s.edgeFuel unit)
  else s)

end Sys2Proof.Machine
end

