-- ==== Sys2Proof/Machine/Turbine.lean ====
section
/-! DEFINITION. The turbine supervisor (chapter 5): speeds, the overspeed and wheel windows, stall, the trip latch, the trip
view with its onset and release, and what the SPEED unit hands over. The meanings of REFERENCE_AGEING and STALL. -/

namespace Sys2Proof.Machine

/-! The trip view (5.7). -/

/-- What may take the trip view to ACTIVE: its time and source (R102, R104). -/
structure ViewEvent where
  time : LineTime
  source : OnsetSource
  deriving DecidableEq, Repr

/-- The receivers of a trip view onset (R104). -/
def onsetDependants : List Dependant := .planner :: unitNumbers.map .unit

/-- The receivers of a delivery, each once: first in the order the command carries, then the others in the listed order.
The spec gives these deliveries no order (notes/assumptions/6.md). -/
def deliveryOrder (receivers order : List Dependant) : List Dependant :=
  (order.filter receivers.contains ++ receivers).foldl (fun seen x => if seen.contains x then seen else seen ++ [x]) []

/-- An onset reaches one receiver (R104, R167, R190). -/
def State.deliverOnset (t : LineTime) (rank : Nat) (s : State) : Dependant → State
  | .planner => s.tripHoldOnset
  | .unit n => s.shed n t rank
  | .group _ | .scalingWatch => s

/-- The onset: its time and source are recorded, PEER_TRIP is raised for a peer, and it is delivered (R104). -/
def State.tripOnset (s : State) (e : ViewEvent) (order : List Dependant) : State :=
  let s := s.putTsv { s.tsv with viewActive := true, onset := some { time := e.time, source := e.source } }
  let s := match e.source with
    | .own => s
    | .peerByTrip n | .peerByTime n => s.raise (.peerTrip n)
  (deliveryOrder onsetDependants order).foldl (State.deliverOnset e.time s.rank) s

/-- The release: delivered to the planner and to the units (R105, R192). -/
def State.tripRelease (s : State) : State :=
  unitNumbers.foldl State.clearTripFlag (s.putTsv { s.tsv with viewActive := false }).tripHoldRelease

/-- Whether the trip view is to be ACTIVE (R103). -/
def State.viewCondition (s : State) : Bool := s.tsv.latch || 0 < s.latchedPeers

/-- The trip view is evaluated; an evaluation that finds it unchanged does nothing (R103 to R105). -/
def State.evaluateView (s : State) (e : ViewEvent) (order : List Dependant) : State :=
  if s.viewCondition = s.tsv.viewActive then s
  else if s.viewCondition then s.tripOnset e order
  else s.tripRelease

/-! The trip latch (5.5). -/

/-- A trip cause latches a trip: latch, record, TRIP notice, TRIP cause, trip view, in this order (R97). -/
def State.latchTrip (s : State) (cause : TripCause) (speed : Nat) (order : List Dependant) : State :=
  let record : TripRecord := { time := s.now, cause := cause, speed := speed }
  let s := s.putTsv { s.tsv with latch := true, record := some record, furtherCauses := 0 }
  let s := (s.queueNotice (.trip record.time cause speed)).raise .trip
  s.evaluateView { time := record.time, source := .own } order

/-- A further cause is counted, stopping at 65535 (R97). -/
def State.countFurther (s : State) : State :=
  s.putTsv { s.tsv with furtherCauses := min 65535 (s.tsv.furtherCauses + 1) }

/-- A trip cause reaches the latch (R97). -/
def State.tripCause (s : State) (cause : TripCause) (speed : Nat) (order : List Dependant) : State :=
  if s.tsv.latch then s.countFurther else s.latchTrip cause speed order

/-- Reset Trip is carried out: latch clear, last clear line time, CLEAR notice, trip view (R100). -/
def State.resetLatch (s : State) (order : List Dependant) : State :=
  let s := s.putTsv { s.tsv with latch := false, lastClear := some s.now }
  (s.queueNotice (.clear s.now)).evaluateView { time := s.now, source := .own } order

/-! Speeds (5.2, 5.3). -/

/-- The tooth source is in use (R90). -/
def Tsv.toothInUse (t : Tsv) : Bool := 0 < t.effectiveTeeth

/-- A speed in 0.1 rpm from the periods of a revolution, clamped to 65535; the clamp applies to every period of 73,242 or
fewer, and so to a period of 0 (R91, R92). -/
def speedOf (periods : Nat) : Nat := if periods = 0 then 65535 else min 65535 (Params.speedNumerator / periods)

/-- The revolution speed of a period N (R91). -/
def revolutionSpeedOf (n : Nat) : Nat := if Params.longestPeriods ≤ n then 0 else speedOf n

/-- The tooth speed of a tooth period p (R92). -/
def toothSpeedOf (p teeth : Nat) : Nat := if Params.longestPeriods ≤ p then 0 else speedOf (p * teeth)

/-- The overspeed cause by the source in use (R95). -/
def Tsv.overspeedCause (t : Tsv) : TripCause := if t.toothInUse then .overspeedTooth else .overspeedRev

/-- A value of the supervised speed enters the overspeed window, and may cause an overspeed event (R94, R95). -/
def State.superviseSpeed (s : State) (v : Nat) (order : List Dependant) : State :=
  let c := s.tsv.config
  let (window, event) := s.tsv.overWindow.enter c.overWindow c.overCount (c.tripLimit < v)
  let s := s.putTsv { s.tsv with supervisedSpeed := v, overWindow := window }
  if event then s.tripCause s.tsv.overspeedCause v order else s

/-- A slave stamp reaches the supervisor, with the first-slave mark (R92). -/
def State.toothStamp (s : State) (stamp : Count) (first : Bool) (order : List Dependant) : State :=
  if s.tsv.toothInUse then
    let reference := s.tsv.toothReference
    let s := s.putTsv { s.tsv with toothReference := some stamp }
    match reference with
    | some r =>
      if first then s
      else
        let v := toothSpeedOf (elapsed stamp r) s.tsv.effectiveTeeth
        (s.putTsv { s.tsv with toothSpeed := v }).superviseSpeed v order
    | none => s
  else s

/-- The revolution period of a record, if one is measured (R91). -/
def Tsv.revolutionPeriod? (t : Tsv) (stamp : Count) (first : Bool) : Option Nat :=
  if first then none else t.revolutionReference.map (elapsed stamp)

/-- A record with its first-master mark clear is checked against the wheel (R96). -/
def State.checkWheel (s : State) (slaveEdges : Nat) : State :=
  let c := s.tsv.config
  let (window, event) := s.tsv.wheelWindow.enter c.wheelWindow c.wheelCount (slaveEdges != s.tsv.effectiveTeeth)
  let s := s.putTsv { s.tsv with wheelWindow := window }
  if event then (s.putTsv { s.tsv with wheelFaultFlag := true }).raise .wheelFault else s

/-- A teethless revolution sets the tooth speed to 0, a value of the supervised speed (R92). -/
def State.teethless (s : State) (order : List Dependant) : State :=
  (s.putTsv { s.tsv with toothSpeed := 0 }).superviseSpeed 0 order

/-- The stall timer's restart and the revolution reference at each record (R91, R93). -/
def State.noteRecord (s : State) (stamp : Count) : State :=
  s.putTsv { s.tsv with revolutionReference := some stamp, stallTimer := some stamp, stalled := false }

/-- The revolution speed of a measured period; with T_e of 0 it is a value of the supervised speed (R91). -/
def State.revolutionSpeed (s : State) (n : Nat) (order : List Dependant) : State :=
  let v := revolutionSpeedOf n
  let s := s.putTsv { s.tsv with revolutionSpeed := v }
  if s.tsv.toothInUse then s else s.superviseSpeed v order

/-- A capture record reaches the supervisor, with the first-master mark (R91 to R93, R96). -/
def State.revolutionRecord (s : State) (r : CaptureRecord) (first : Bool) (order : List Dependant) : State :=
  let period := s.tsv.revolutionPeriod? r.localCount first
  let s := s.noteRecord r.localCount
  let s := match period with
    | some n => s.revolutionSpeed n order
    | none => s
  if s.tsv.toothInUse && !first then
    let s := s.checkWheel r.slaveEdges
    if r.slaveEdges = 0 then s.teethless order else s
  else s

/-- The reference that ages. -/
def Tsv.reference (t : Tsv) : SpeedReference → Option Count
  | .revolution => t.revolutionReference
  | .tooth => t.toothReference

/-- A reference has reached 2^31 periods of age (R93). -/
def State.referenceIsOld (s : State) (which : SpeedReference) : Bool :=
  s.inRun && (s.tsv.reference which).any fun stamp => s.expired stamp Params.longestPeriods

/-- REFERENCE_AGEING: the reference becomes absent (R93). -/
def execReferenceAgeing (which : SpeedReference) (s : State) : Outcome :=
  .next (if s.referenceIsOld which then
    match which with
    | .revolution => s.putTsv { s.tsv with revolutionReference := none }
    | .tooth => s.putTsv { s.tsv with toothReference := none }
  else s)

/-- The stall timer has reached the stall timeout (R93). -/
def State.stallIsDue (s : State) : Bool :=
  s.inRun && s.tsv.stallTimer.any fun start => s.expired start (s.tsv.config.stallSteps * 100 * Params.perMillisecond)

/-- STALL: the flag, the speeds, a value of 0, the cause; the timer waits for the next record (R93). -/
def execStall (s : State) : Outcome :=
  .next (if s.stallIsDue then
    ((s.putTsv { s.tsv with stallTimer := none, stalled := true, revolutionSpeed := 0, toothSpeed := 0 }).superviseSpeed
      0 []).raise .stall
  else s)

end Sys2Proof.Machine
end

