-- ==== Sys2Proof/Machine/Capture.lean ====
section
/-! DEFINITION. The pulse inputs and the capture units (chapter 4): the samples of PI0 to PI7 and their edges, slave stamps,
capture records, poll periods, and the hand-over to the turbine supervisor and the heat meter. The meanings of SLAVE_EDGE,
MASTER_EDGE and POLL_TIMER_EXPIRY. -/

namespace Sys2Proof.Machine

/-- The capture units in order. -/
def captureNumbers : List CaptureNo := [0, 1, 2, 3]

/-! Samples, edges and their routing (R73, R75). -/

/-- The period's sample is this one, or no command has told it yet (R73). -/
def PulseInputs.admits (p : PulseInputs) (sample : BitVec 8) : Bool := p.now.all (· = sample)

/-- The samples once the period's sample has been told (R73). -/
def PulseInputs.told (p : PulseInputs) (sample : BitVec 8) : PulseInputs := { p with now := some sample }

/-- The period's sample shows an edge that a source names: its input has changed since the sample before, to low for a
falling edge and to high for a rising one (R73). DESIGN CHOICE: an input so shows one edge a sample at most, and never the two
edges of one input at one stamp of which R81 and R87 speak (notes/assumptions/39.md). -/
def PulseInputs.shows (p : PulseInputs) (source : PulseSource) : Bool :=
  match p.before, p.now with
  | some a, some b => a.getLsbD source.input = source.falling && b.getLsbD source.input = !source.falling
  | _, _ => false

/-- The line stamp of the edge that an input shows: the one it carries since a unit first received it, and line time at that
moment (R73). -/
def PulseInputs.lineStampOf (p : PulseInputs) (input : Fin 8) (now : LineTime) : LineTime := p.lineStamps[input].getD now

/-- The pulse inputs when a source has received its edge, which keeps its line stamp for every other source (R73). -/
def PulseInputs.received (p : PulseInputs) (now : LineTime) (source : PulseSource) : PulseInputs :=
  { p with lineStamps := p.lineStamps.set source.input (some (p.lineStampOf source.input now)) }

/-- The samples when the next period begins; a period whose sample no command told shows the levels of the one before. -/
def PulseInputs.next (p : PulseInputs) : PulseInputs := { before := p.now.or p.before }

/-- The samples at the entry to RUN: an edge shown before it is lost to every unit (R75). -/
def PulseInputs.entered (p : PulseInputs) : PulseInputs := { p with before := p.now.or p.before }

/-- A slave edge of this period waits to be taken by a running unit (R73, R75). -/
def State.slaveEdgeWaits (s : State) (u : CaptureNo) : Bool :=
  s.captures[u].running && s.captures[u].config.slave.any s.pulses.shows && !s.pulses.slaves.contains u

/-- A master edge of this period waits to be taken by a running unit (R73, R75). -/
def State.masterEdgeWaits (s : State) (u : CaptureNo) : Bool :=
  s.captures[u].running && s.pulses.shows s.captures[u].config.master && !s.pulses.masters.contains u

/-- The sample of this period is told (R73). -/
def State.tellSample (s : State) (sample : BitVec 8) : State := s.putPulses (s.pulses.told sample)

/-- A unit takes its slave edge of this period. -/
def State.takeSlave (s : State) (u : CaptureNo) : State :=
  s.putPulses { s.captures[u].config.slave.elim s.pulses (s.pulses.received s.now) with slaves := s.pulses.slaves ++ [u] }

/-- A unit takes its master edge of this period. -/
def State.takeMaster (s : State) (u : CaptureNo) : State :=
  s.putPulses { s.pulses.received s.now s.captures[u].config.master with masters := s.pulses.masters ++ [u] }

/-! Slave edges and master edges (4.3 to 4.6). -/

/-- The unit is in GENERAL poll mode (4.2). -/
def CaptureConfig.polls (c : CaptureConfig) : Bool := c.mode = .general && c.poll

/-- The unit after a slave edge: stamp, slave count, between-count, and in SPEED mode the first-slave mark (R76, R77). -/
def Capture.slaveEdge (u : Capture) (stamp : Count) : Capture :=
  { u with
    fifo := enterNewest Config.fifoDepth u.fifo stamp
    slaveCount := u.slaveCount + 1
    betweenCount := min 65535 (u.betweenCount + 1)
    firstSlave := if u.config.mode = .speed then false else u.firstSlave }

/-- The stamp at a position of the slave stamp FIFO, counted back from the newest (R77). -/
def Capture.stampAt (u : Capture) (position : Nat) : Option Count := u.fifo.reverse[position]?

/-- The lead difference at a master edge; a unit without a slave source has none (R80). -/
def Capture.leadAt (u : Capture) (stamp : Count) : Option Count :=
  if u.config.slave.isSome then (u.stampAt u.config.lead).map (stamp - ·) else none

/-- The unit after a master edge has incremented its master count (R78). -/
def Capture.countMaster (u : Capture) : Capture := { u with masterCount := u.masterCount + 1 }

/-- A master edge produces a record, unless a poll period has given its own (R78, R84). -/
def Capture.produces (u : Capture) : Bool := !(u.config.polls && u.taken)

/-- The record that a master edge forms after the count (R79). -/
def Capture.recordAt (u : Capture) (lineStamp : LineTime) (stamp : Count) : CaptureRecord :=
  { lineTime := lineStamp, localCount := stamp, slaveEdges := u.betweenCount, masterCount := u.masterCount
    lead := u.leadAt stamp }

/-- The unit after a record has entered its history (R78, R82, R84). -/
def Capture.keep (u : Capture) (r : CaptureRecord) : Capture :=
  { u with
    history := enterNewest Config.captureHistoryDepth u.history r
    recordCount := u.recordCount + 1
    betweenCount := 0
    firstMaster := false
    taken := if u.config.polls then true else u.taken }

/-- A slave edge reaches a unit (R76, R77, R83). -/
def State.slaveEdgeAt (s : State) (unit : CaptureNo) (order : List Dependant) : State :=
  let u := s.captures[unit]
  let t := s.putCapture unit (u.slaveEdge s.count)
  if u.config.mode = .speed then t.toothStamp s.count u.firstSlave order else t

/-- A master edge reaches a unit, with the line stamp that the edge carries (R73, R78 to R83). -/
def State.masterEdgeAt (s : State) (unit : CaptureNo) (order : List Dependant) : State :=
  let u := s.captures[unit].countMaster
  if !u.produces then s.putCapture unit u
  else
    let r := u.recordAt (s.pulses.lineStampOf u.config.master.input s.now) s.count
    let t := s.putCapture unit (u.keep r)
    match u.config.mode with
    | .speed => t.revolutionRecord r u.firstMaster order
    | .totaliser => t.flowPulse r.lineTime
    | .general | .off => t

/-- SLAVE_EDGE: the period's sample is told, and the unit takes the edge of its slave source if the sample shows it and the
unit has not taken it in this period (R73, R75, R76). -/
def execSlaveEdge (unit : CaptureNo) (edge : PulseEdge) (s : State) : Outcome :=
  let t := s.tellSample edge.sample
  .next (if !s.pulses.admits edge.sample then s
  else if t.slaveEdgeWaits unit then (t.takeSlave unit).slaveEdgeAt unit edge.order
  else t)

/-- MASTER_EDGE: the period's sample is told, and the unit takes the edge of its master source if the sample shows it and the
unit has not taken it in this period (R73, R75, R78). -/
def execMasterEdge (unit : CaptureNo) (edge : PulseEdge) (s : State) : Outcome :=
  let t := s.tellSample edge.sample
  .next (if !s.pulses.admits edge.sample then s
  else if t.masterEdgeWaits unit then (t.takeMaster unit).masterEdgeAt unit edge.order
  else t)

/-- A poll unit's poll period in periods of the local count (R84). -/
def CaptureConfig.pollPeriods (c : CaptureConfig) : Nat := c.pollMs * Params.perMillisecond

/-- The poll timer of a running poll unit has expired (R84). -/
def State.pollIsDue (s : State) (u : CaptureNo) : Bool :=
  let x := s.captures[u]
  x.running && x.config.polls && x.pollTimer.any fun start => s.expired start x.config.pollPeriods

/-- POLL_TIMER_EXPIRY: the taken flag clears and the timer restarts from its expiry count (R84). -/
def execPollTimerExpiry (unit : CaptureNo) (s : State) : Outcome :=
  let x := s.captures[unit]
  .next (if s.pollIsDue unit then
    s.putCapture unit { x with
      taken := false
      pollTimer := x.pollTimer.map (· + BitVec.ofNat 32 x.config.pollPeriods) }
  else s)

end Sys2Proof.Machine
end

