-- ==== Sys2Proof/Machine/Channels.lean ====
section
/-! DEFINITION. The measurement channels and the channel groups (chapter 3): the two filters, engineering scaling, guard
limits, sample sets, latest set values and sample rings. The meanings of CHANNEL_START, MAIN_OUTPUT, GUARD_OUTPUT and
SET_BOUNDARY. -/

namespace Sys2Proof.Machine

/-- The measurement channels in order. -/
def channelNumbers : List ChannelNo := [0, 1, 2, 3, 4, 5, 6, 7]

/-- The channel groups in order. -/
def groupNumbers : List GroupNo := [0, 1]

/-! Filters and scaling (3.2 to 3.4). -/

/-- The main decimation D = 2^k (3.2). -/
def ChannelConfig.mainDecimation (c : ChannelConfig) : Nat := 2 ^ c.k

/-- The guard decimation D_g = 2^j (R52). -/
def ChannelConfig.guardDecimation (c : ChannelConfig) : Nat := 2 ^ c.j

/-- A channel after bits sampled in the given order have come in: each is one input to both filters and one counted edge for
each of them (R46, R47). The last 3D − 2 inputs reach further back than the guard filter looks. -/
def Channel.sampled (x : Channel) (bits : List Bool) : Channel :=
  { x with
    inputs := (bits.reverse ++ x.inputs).take (3 * x.config.mainDecimation - 2)
    mainEdges := x.mainEdges + bits.length
    guardEdges := x.guardEdges + bits.length }

/-- The newest counted edge is the D-th since the last main output, and no guard output has been passed over (R48, R52). -/
def Channel.mainIsDue (x : Channel) : Bool :=
  x.running && x.mainEdges = x.config.mainDecimation && x.guardEdges ≤ x.config.guardDecimation

/-- The newest counted edge is the D_g-th since the last guard output, and no main output has been passed over
(R48, R52). -/
def Channel.guardIsDue (x : Channel) : Bool :=
  x.running && x.guardEdges = x.config.guardDecimation && x.mainEdges ≤ x.config.mainDecimation

/-- The raw main output of inputs given newest first, over the last 3D − 2 of them (R48). -/
def rawMain (D : Nat) (inputs : List Bool) : Int := weightedSum (sincCoefficients 3 D) inputs

/-- The raw guard output of inputs given newest first, over the last 2D_g − 1 of them (R52). -/
def rawGuard (D : Nat) (inputs : List Bool) : Int := weightedSum (sincCoefficients 2 D) inputs

/-- The normalised main value v, for D = 2^k (R49). -/
def normaliseMain (k : Nat) (r : Int) : Int := clampInt (-32768) 32767 (roundDiv r (2 ^ (3 * k - 15)))

/-- The normalised guard value v_g, for D_g = 2^j (R52). -/
def normaliseGuard (j : Nat) (r : Int) : Int := min 32767 (r * (2 ^ (15 - 2 * j) : Nat))

/-- The reading of a normalised main value (R54). -/
def ChannelConfig.reading (c : ChannelConfig) (v : Int) : Int :=
  clampInt (-(2 ^ 31)) (2 ^ 31 - 1) (c.offset + roundDiv (v * c.span) 32768)

/-! Sample sets (3.7). -/

/-- The members of a group, in channel number order (R60). -/
def State.members (s : State) (g : GroupNo) : List ChannelNo :=
  channelNumbers.filter fun c => s.channels[c].config.group = some g

/-- A group's set period in µs (R61). -/
def Group.periodUs (g : Group) : Nat := g.periodMs * 1000

/-- A new open set at a line time (R61). -/
def openSetAt (members : List ChannelNo) (periodUs : Nat) (t : LineTime) (short : Bool) : OpenSet :=
  { members := members.map fun c => { channel := c }, short := short, nextBoundary := nextMultiple periodUs t }

/-- A member's part after a valid main output has been added (R61). -/
def MemberSum.add (m : MemberSum) (v : Int) (saturated : Bool) : MemberSum :=
  { m with sum := m.sum + v, count := m.count + 1, saturated := m.saturated || saturated }

/-- A valid main output is added to the open set of the channel's group (R51, R61). -/
def State.addToSet (s : State) (c : ChannelNo) (v : Int) (saturated : Bool) : State :=
  match s.channels[c].config.group with
  | none => s
  | some g =>
    match s.groups[g].openSet with
    | none => s
    | some o =>
      let members := o.members.map fun m => if m.channel = c then m.add v saturated else m
      s.putGroup g { s.groups[g] with openSet := some { o with members := members } }

/-- A member's reading field: the reading of the mean, absent at a count of 0 (R63). -/
def State.readingOf (s : State) (m : MemberSum) : Reading :=
  { channel := m.channel
    value := if m.count = 0 then none else some (s.channels[m.channel].config.reading (truncDiv m.sum m.count))
    saturated := m.saturated }

/-- The record of a closed set (R63). -/
def State.setRecord (s : State) (o : OpenSet) (sequence : BitVec 32) (endTime : LineTime) : SetRecord :=
  { sequence := sequence, endTime := endTime, short := o.short, empty := o.members.all (·.count = 0)
    readings := o.members.map s.readingOf }

/-- A member takes its reading field as its latest set value (R66). -/
def State.takeLatest (s : State) (r : Reading) : State :=
  s.putChannel r.channel { s.channels[r.channel] with latest := r.value, latestSaturated := r.saturated }

/-- The removal of the oldest set from a full ring: a loss when it is unread (R67, R68). -/
def State.ringRemoval (s : State) (g : GroupNo) : State :=
  let x := s.groups[g]
  if x.ring.length < Config.ringDepth then s
  else
    let lost := x.ring.head?.any (·.unread)
    let y := { x with ring := x.ring.tail }
    if lost && !x.overrunMark then
      (s.putGroup g { y with overrunCount := y.overrunCount + 1, overrunMark := true }).raise (.ringOverrun g)
    else s.putGroup g y

/-- A set that has entered the ring counts towards the ring mark (R69). -/
def State.countMark (s : State) (g : GroupNo) : State :=
  let x := s.groups[g]
  if x.ringMark = 0 then s
  else if x.ringMark ≤ x.markCounter + 1 then (s.putGroup g { x with markCounter := 0 }).raise (.ringMark g)
  else s.putGroup g { x with markCounter := x.markCounter + 1 }

/-- A closed set enters the sample ring (R67 to R69). -/
def State.enterRing (s : State) (g : GroupNo) (record : SetRecord) : State :=
  let s := s.ringRemoval g
  let x := s.groups[g]
  (s.putGroup g { x with ring := x.ring ++ [{ record := record, unread := true }] }).countMark g

/-- The open set of a group closes: ring, latest set values, scaling watch, in this order; then the next set opens at
the end time (R62 to R65). -/
def State.closeSet (s : State) (g : GroupNo) (o : OpenSet) (endTime : LineTime) (nextShort : Bool) : State :=
  let x := s.groups[g]
  let record := s.setRecord o x.nextSequence endTime
  let s := s.putGroup g { x with
    nextSequence := x.nextSequence + 1
    openSet := some (openSetAt (s.members g) x.periodUs endTime nextShort) }
  (record.readings.foldl State.takeLatest (s.enterRing g record)).setToWatch record

/-- The next boundary of a group's open set has been reached in RUN (R62). -/
def State.setIsDue (s : State) (g : GroupNo) : Bool :=
  s.inRun && s.groups[g].openSet.any fun o => reached o.nextBoundary s.now

/-- SET_BOUNDARY of a group (R62). -/
def execSetBoundary (group : GroupNo) (s : State) : Outcome :=
  .next (match s.groups[group].openSet with
    | some o => if s.setIsDue group then s.closeSet group o o.nextBoundary false else s
    | none => s)

/-- A time step reaches a group: a span with the next boundary or any later one, or a backward step, closes the open set at
"after", short, and opens the next one short (R64). -/
def State.groupStep (s : State) (g : GroupNo) (e : StepEvent) : State :=
  match s.groups[g].openSet with
  | none => s
  | some o =>
    if e.crosses o.nextBoundary s.groups[g].periodUs then s.closeSet g { o with short := true } s.now true else s

/-! The channels' own events. -/

/-- An enabled channel starts: inputs, guard history and window empty, armed (R47, R55, R56, R58). -/
def Channel.started (c : Channel) : Channel :=
  { c with
    running := true
    inputs := [], mainEdges := 0, mainDiscarded := 0, guardEdges := 0, guardDiscarded := 0
    guardHistory := [], guardWindow := {} }

/-- One channel at the first rising edge of MCLK after the entry to RUN (R47). -/
def State.startChannel (s : State) (c : ChannelNo) : State :=
  if s.channels[c].config.enabled then s.putChannel c s.channels[c].started else s

/-- CHANNEL_START: every enabled channel starts (R47). -/
def execChannelStart (s : State) : Outcome :=
  .next (if s.inRun && s.awaitMclk then channelNumbers.foldl State.startChannel { s with awaitMclk := false } else s)

/-- A saturated output sets the channel's flag and raises the cause (R50, R52). -/
def State.noteSaturation (s : State) (c : ChannelNo) (saturated : Bool) : State :=
  if saturated then (s.putChannel c { s.channels[c] with saturationFlag := true }).raise (.saturation c) else s

/-- A valid main output: saturation, the last main output, the open set (R50, R51). -/
def State.validMain (s : State) (c : ChannelNo) (r : Int) : State :=
  let config := s.channels[c].config
  let v := normaliseMain config.k r
  let saturated : Bool := r.natAbs = config.mainDecimation ^ 3
  let s := s.noteSaturation c saturated
  let kept : MainOutput := { value := v, reading := config.reading v }
  (s.putChannel c { s.channels[c] with lastMain := some kept }).addToSet c v saturated

/-- MAIN_OUTPUT of a running channel, at the D-th counted edge; the first two outputs after the start are discarded
(R48 to R51). -/
def execMainOutput (channel : ChannelNo) (bits : List Bool) (s : State) : Outcome :=
  let x := s.channels[channel].sampled bits
  let y := { x with mainEdges := 0 }
  .next (if !x.mainIsDue then s
  else if x.mainDiscarded < 2 then s.putChannel channel { y with mainDiscarded := x.mainDiscarded + 1 }
  else (s.putChannel channel y).validMain channel (rawMain x.config.mainDecimation x.inputs))

/-- A guard value outside the limits is an excursion (R55). -/
def ChannelConfig.excursion (c : ChannelConfig) (v : Int) : Bool := v < c.lowLimit || c.highLimit < v

/-- A guard limit event: the flag, the cause, and a stop-now to a bound unit (R56, R57). -/
def State.guardLimitEvent (s : State) (c : ChannelNo) : State :=
  let s := (s.putChannel c { s.channels[c] with guardLimitFlag := true }).raise (.guardLimit c)
  match s.channels[c].config.bound with
  | some u => s.stopNow u
  | none => s

/-- A valid guard output: saturation, the guard history, then the window and the event it may cause (R52, R53, R55, R56,
R58). -/
def State.validGuard (s : State) (c : ChannelNo) (r : Int) : State :=
  let config := s.channels[c].config
  let v := normaliseGuard config.j r
  let s := s.noteSaturation c (r.natAbs = config.guardDecimation ^ 2)
  let x := s.channels[c]
  let (window, event) := x.guardWindow.enter config.window config.count (config.excursion v)
  let s := s.putChannel c { x with
    lastGuard := some v
    guardHistory := enterNewest Config.guardHistoryDepth x.guardHistory v
    guardWindow := window }
  if event then s.guardLimitEvent c else s

/-- GUARD_OUTPUT of a running channel, at the D_g-th counted edge; the first output after the start is discarded
(R52, R53). -/
def execGuardOutput (channel : ChannelNo) (bits : List Bool) (s : State) : Outcome :=
  let x := s.channels[channel].sampled bits
  let y := { x with guardEdges := 0 }
  .next (if !x.guardIsDue then s
  else if x.guardDiscarded < 1 then s.putChannel channel { y with guardDiscarded := x.guardDiscarded + 1 }
  else (s.putChannel channel y).validGuard channel (rawGuard x.config.guardDecimation x.inputs))

end Sys2Proof.Machine
end

