-- ==== Sys2Proof/Machine/Operands.lean ====
section
/-! DEFINITION. The fields that cross the part's boundaries (chapter 11): the shared bytes, the payloads of the notices as
sent and as heard (11.2), and the payloads of the requests with their range checks (11.3, R216). -/

namespace Sys2Proof.Machine

/-! Shared bytes (11.2). -/

/-- The roles byte without the joined bit. -/
def Roles.code (r : Roles) : Nat := flagNat r.well + 2 * flagNat r.turbine + 4 * flagNat r.exchange

/-- The roles that a roles byte carries. -/
def rolesOf (n : Nat) : Roles := { well := bit n 0, turbine := bit n 1, exchange := bit n 2 }

/-- The code of a scaling state. -/
def ScalingState.code : ScalingState → Nat
  | .clear => 0
  | .watch => 1
  | .alarm => 2

/-- The scaling state of a two-bit code; 3 is taken as ALARM (R14, R20). -/
def scalingOf (n : Nat) : ScalingState :=
  match n with
  | 0 => .clear
  | 1 => .watch
  | _ => .alarm

/-- The scaling byte. -/
def scalingByte (state : ScalingState) (acknowledged : Bool) : Nat := state.code + 8 * flagNat acknowledged

/-- The tag byte. -/
def tagByte (slot : Nat) (unit : UnitNo) (firm : Bool) : Nat := slot + 4 * unit.val + 128 * flagNat firm

/-- The reason code of a RELEASE. -/
def ReleaseReason.code : ReleaseReason → Nat
  | .withdrawn => 1
  | .trip => 2
  | .stopped => 3
  | .missed => 4
  | .abandoned => 5

/-- The code of an own trip cause. -/
def TripCause.code : TripCause → Nat
  | .overspeedTooth => 1
  | .overspeedRev => 2
  | .host => 3

/-- A fouling index as a field; absence is 0xFFFF (5.9). -/
def indexField (i : Option Nat) : Nat := i.getD 0xFFFF

/-- A fouling index as heard: 0xFFFF is absent, and another value above 2000 is kept as 2000 (R19, R20). -/
def indexHeard (n : Nat) : Option Nat := if n = 0xFFFF then none else some (min 2000 n)

/-! Notices (11.2). -/

/-- The kind code of a notice (R10). -/
def Notice.kind : Notice → Nat
  | .time => 1
  | .claim .. => 2
  | .release .. => 3
  | .trip .. => 4
  | .clear _ => 5
  | .heat _ => 6
  | .scale .. => 7

/-- The LENGTH of a defined kind (R10). -/
def kindLength? : Nat → Option Nat
  | 1 => some 7
  | 2 => some 7
  | 3 => some 2
  | 4 => some 7
  | 5 => some 4
  | 6 => some 14
  | 7 => some 7
  | _ => none

/-- The payload of a TIME notice, from the state at its SYNC start edge (R13). -/
def State.timePayload (s : State) : List Byte :=
  bytesOf 4 s.now.toNat
    ++ bytesOf 1 (s.config.roles.code + 128 * flagNat s.tmu.joined)
    ++ bytesOf 1 (flagNat s.tsv.latch + 2 * s.scw.state.code + 8 * flagNat s.scw.acknowledged + 16 * s.activeUnits)
    ++ bytesOf 1 s.config.beaconCode

/-- The payload of a HEAT notice (R139). -/
def HeatSummary.payload (h : HeatSummary) : List Byte :=
  bytesOf 4 h.intervalEnd.toNat ++ bytesOf 4 h.kilojoules ++ bytesOf 4 (h.ua.getD 0) ++ bytesOf 2 (indexField h.index)

/-- The payload of a notice at its SYNC start edge (11.2). -/
def State.noticePayload (s : State) : Notice → List Byte
  | .time => s.timePayload
  | .claim slot unit start length firm =>
    bytesOf 1 (tagByte slot.val unit firm) ++ bytesOf 4 start.toNat ++ bytesOf 2 length
  | .release slot unit tagFirm reason => bytesOf 1 (tagByte slot.val unit tagFirm) ++ bytesOf 1 reason.code
  | .trip time cause speed => bytesOf 4 time.toNat ++ bytesOf 1 cause.code ++ bytesOf 2 speed
  | .clear time => bytesOf 4 time.toNat
  | .heat h => h.payload
  | .scale state acknowledged index time =>
    bytesOf 1 (scalingByte state acknowledged) ++ bytesOf 2 (indexField index) ++ bytesOf 4 time.toNat

/-- The bytes of a line frame between SYNC and the check byte (R6). -/
def lineBody (kind : Nat) (sender : StationNo) (payload : List Byte) : List Byte :=
  BitVec.ofNat 8 (16 * kind + sender.val) :: BitVec.ofNat 8 payload.length :: payload

/-- A whole line frame (R6, R2). -/
def lineFrame (kind : Nat) (sender : StationNo) (payload : List Byte) : List Byte :=
  let body := lineBody kind sender payload
  Params.lineSync :: (body ++ [checkByte body])

/-- The characters that the notice in flight puts on the line (R24). -/
def State.flightFrame (s : State) (f : InFlight) : List Byte := lineFrame f.notice.kind s.stationNo f.payload

/-- The code of a status (11.4). -/
def Status.code : Status → Nat
  | .success => 0x00
  | .badCheck => 0x01
  | .notReady => 0x02
  | .unknownRequest => 0x03
  | .badLength => 0x04
  | .faulted => 0x05
  | .sealed => 0x06
  | .notRunningStation => 0x07
  | .range => 0x08
  | .busy => 0x09
  | .noSlot => 0x0A
  | .notActive => 0x0B
  | .notTripped => 0x0C
  | .speedHigh => 0x0D
  | .notAlarm => 0x0E
  | .noBasis => 0x0F
  | .unbound => 0x10
  | .overlap => 0x11
  | .periodRange => 0x12
  | .lengthZero => 0x13
  | .exceedsPeriod => 0x14
  | .noFreeWindow => 0x15

/-- The characters that a reply puts on the transmit line: a whole reply frame (10.1, R2, R198). -/
def Reply.frame (r : Reply) : List Byte :=
  let body := bytesOf 1 r.status.code ++ bytesOf 2 r.payload.length ++ r.payload
  Params.replySync :: (body ++ [checkByte body])

/-- The bits that the notice in flight puts on the line, and a reply on the transmit line, character by character (R1). -/
def frameBits (frame : List Byte) : List Bool := frame.flatMap characterBits

/-- A beacon period code as heard: 0 is taken as 1 and 11 to 15 as 10 (R14). -/
def beaconHeard (n : Nat) : Nat := if n = 0 then 1 else min 10 n

/-- The fields a TIME notice sets in the sender's row (R14). -/
def timeRow (row : PeerRow) (p : List Byte) : PeerRow :=
  let flags := fieldNat p 4 1
  let status := fieldNat p 5 1
  { row with
    joined := bit flags 7
    roles := rolesOf flags
    beaconCode := beaconHeard (bits (fieldNat p 6 1) 0 4)
    tripLatched := bit status 0
    scaling := scalingOf (bits status 1 2)
    acknowledged := bit status 3
    activeUnits := min 4 (bits status 4 3) }

/-- The summary a HEAT notice carries (R19). -/
def heatHeard (p : List Byte) : HeatSummary :=
  let index := indexHeard (fieldNat p 12 2)
  { intervalEnd := BitVec.ofNat 32 (fieldNat p 0 4)
    kilojoules := fieldNat p 4 4
    ua := index.map fun _ => fieldNat p 8 4
    index := index }

/-- The fields a HEAT notice sets in the sender's row (R19). -/
def heatRow (row : PeerRow) (p : List Byte) : PeerRow :=
  { row with heat := some (heatHeard p), lastIndex := (heatHeard p).index }

/-- The fields a SCALE notice sets in the sender's row (R20). -/
def scaleRow (row : PeerRow) (p : List Byte) : PeerRow :=
  { row with
    scaling := scalingOf (bits (fieldNat p 0 1) 0 2)
    acknowledged := bit (fieldNat p 0 1) 3
    scalingChange := BitVec.ofNat 32 (fieldNat p 3 4)
    lastIndex := indexHeard (fieldNat p 1 2) }

/-- The claim a CLAIM notice carries (R15, R147). -/
def claimOf (sender : StationNo) (p : List Byte) : Claim :=
  let tag := fieldNat p 0 1
  { station := sender, slot := indexMod 4 (bits tag 0 2), unit := indexMod 4 (bits tag 2 2)
    start := BitVec.ofNat 32 (fieldNat p 1 4), length := fieldNat p 5 2, firm := bit tag 7 }

/-- The slot that a RELEASE's tag names (R150). -/
def releaseSlotOf (p : List Byte) : Fin 4 := indexMod 4 (bits (fieldNat p 0 1) 0 2)

/-! Requests (11.3). -/

/-- A number within bounds. -/
def within (lo hi n : Nat) : Bool := lo ≤ n && n ≤ hi

/-- A channel field that allows none, 0xFF (R216): the channel or none, or nothing when the value is out of range. -/
def channelField? (n : Nat) : Option (Option ChannelNo) :=
  if n = 0xFF then some none else (index? 8 n).map some

/-- Set Station's parameters, when every field is in range (R204, R216). -/
def stationOf (p : List Byte) : Option StationConfig :=
  let roles := fieldNat p 0 1
  let c : StationConfig :=
    { roles := rolesOf roles, beaconCode := fieldNat p 1 1, largeStepMs := fieldNat p 2 2, strayMs := fieldNat p 4 2
      settleMs := fieldNat p 6 2, enableMask := BitVec.ofNat 32 (fieldNat p 8 4) }
  if roles < 8 && within 1 10 c.beaconCode && within 1 10000 c.largeStepMs && within 1 10000 c.strayMs
      && within 5 500 c.settleMs && c.enableMask.toNat < 2 ^ 21 then some c else none

/-- The group that the flags of Set Channel name, when the code has a meaning (11.3). -/
def groupField? : Nat → Option (Option GroupNo)
  | 0 => some none
  | 1 => some (some 0)
  | 2 => some (some 1)
  | _ => none

/-- The unit that the flags of Set Channel name, when the code has a meaning (11.3). -/
def boundField? (n : Nat) : Option (Option UnitNo) := if n = 0 then some none else (index? 4 (n - 1)).map some

/-- Set Channel's channel and parameters, when every field is in range (R59, R216). -/
def channelOf (p : List Byte) : Option (ChannelNo × ChannelConfig) := do
  let channel ← index? 8 (fieldNat p 0 1)
  let flags := fieldNat p 1 1
  let group ← groupField? (bits flags 1 2)
  let bound ← boundField? (bits flags 3 3)
  let c : ChannelConfig :=
    { enabled := bit flags 0, k := fieldNat p 2 1, j := fieldNat p 3 1, offset := fieldInt p 4 4, span := fieldInt p 8 4
      lowLimit := fieldInt p 12 2, highLimit := fieldInt p 14 2, window := fieldNat p 16 1, count := fieldNat p 17 1
      group := group, bound := bound }
  if flags < 64 && within 5 8 c.k && within 3 5 c.j && c.lowLimit ≤ c.highLimit && within 1 8 c.window
      && within 1 8 c.count then some (channel, c) else none

/-- Set Group's group, set period and ring mark, when every field is in range (R60). -/
def groupOf (p : List Byte) : Option (GroupNo × Nat × Nat) := do
  let group ← index? 2 (fieldNat p 0 1)
  let period := fieldNat p 1 2
  let mark := fieldNat p 3 1
  if within 1 1000 period && mark ≤ 64 then some (group, period, mark) else none

/-- A source byte: input in bits 0 to 2, falling in bit 3 (11.3). -/
def sourceOf (n : Nat) : Option PulseSource :=
  if n < 16 then some { input := indexMod 8 (bits n 0 3), falling := bit n 3 } else none

/-- A capture mode's code (11.3). -/
def modeOf : Nat → Option CaptureMode
  | 0 => some .off
  | 1 => some .speed
  | 2 => some .totaliser
  | 3 => some .general
  | _ => none

/-- SPEED and TOTALISER, which one unit at most may hold (R87). -/
def CaptureMode.single : CaptureMode → Bool
  | .speed | .totaliser => true
  | .off | .general => false

/-- Set Capture's unit and parameters, when every field is in range and the fields may stand together (R86, R87). -/
def captureOf (p : List Byte) : Option (CaptureNo × CaptureConfig) := do
  let unit ← index? 4 (fieldNat p 0 1)
  let mode ← modeOf (fieldNat p 1 1)
  let master ← sourceOf (fieldNat p 2 1)
  let slave ← if fieldNat p 3 1 = 0xFF then some none else (sourceOf (fieldNat p 3 1)).map some
  let lead := fieldNat p 4 1
  let recordMode := fieldNat p 5 1
  let pollMs := fieldNat p 6 1
  let c : CaptureConfig :=
    { mode := mode, master := master, slave := slave, lead := lead, poll := recordMode = 1, pollMs := pollMs }
  if lead < 16 && recordMode < 2 && within 1 255 pollMs && !(mode = .totaliser && slave.isSome)
      && !(mode.single && c.poll) && slave != some master then some (unit, c) else none

/-- Set Turbine's parameters, when every field is in range (R106). -/
def turbineOf (p : List Byte) : Option TurbineConfig :=
  let c : TurbineConfig :=
    { teeth := fieldNat p 0 1, tripLimit := fieldNat p 1 2, resetLimit := fieldNat p 3 2, overWindow := fieldNat p 5 1
      overCount := fieldNat p 6 1, wheelWindow := fieldNat p 7 1, wheelCount := fieldNat p 8 1
      stallSteps := fieldNat p 9 1 }
  if 1 ≤ c.tripLimit && within 1 c.tripLimit c.resetLimit && within 1 8 c.overWindow && within 1 8 c.overCount
      && within 1 8 c.wheelWindow && within 1 8 c.wheelCount && within 5 100 c.stallSteps then some c else none

/-- Set Heat's parameters, when every field is in range and the channels differ (R120). -/
def heatConfigOf (p : List Byte) : Option HeatConfig := do
  let supply ← channelField? (fieldNat p 2 1)
  let ret ← channelField? (fieldNat p 3 1)
  let entry := fun i => fieldNat p (4 + 2 * i) 2
  let volume := fieldNat p 0 2
  let table := #v[entry 0, entry 1, entry 2, entry 3, entry 4, entry 5, entry 6, entry 7, entry 8, entry 9, entry 10,
    entry 11, entry 12, entry 13, entry 14, entry 15]
  if 1 ≤ volume && !(supply.isSome && supply = ret) && table.toList.all (within 3000 4500) then
    some { volume := volume, supply := supply, ret := ret, kTable := table }
  else none

/-- Set Scaling's parameters, when every field is in range and every condition holds (R142). -/
def scalingConfigOf (p : List Byte) : Option ScalingConfig := do
  let hotIn ← channelField? (fieldNat p 2 1)
  let hotOut ← channelField? (fieldNat p 3 1)
  let pressure ← channelField? (fieldNat p 4 1)
  let c : ScalingConfig :=
    { lengthS := fieldNat p 0 2, hotIn := hotIn, hotOut := hotOut, pressure := pressure, baseline := fieldNat p 5 4
      watchLimit := fieldNat p 9 2, alarmLimit := fieldNat p 11 2, pressureWatch := fieldInt p 13 4
      pressureAlarm := fieldInt p 17 4, window := fieldNat p 21 1, watchCount := fieldNat p 22 1
      alarmCount := fieldNat p 23 1 }
  let differ := fun a b : Option ChannelNo => a.isNone || a != b
  if within 10 600 c.lengthS && differ hotIn hotOut && differ hotIn pressure && differ hotOut pressure
      && within 1 Params.greatestBaseline c.baseline && c.watchLimit ≤ 1000 && c.alarmLimit < c.watchLimit
      && c.pressureWatch ≤ c.pressureAlarm && within 1 8 c.window && within 1 8 c.watchCount && within 1 8 c.alarmCount
  then some c else none

/-- Set Window's window, in its add form (11.3). -/
def windowOf (p : List Byte) : FixedWindow :=
  { exponent := fieldNat p 0 1, offset := fieldNat p 1 3, length := fieldNat p 4 3 }

/-- Set Unit's unit and parameters, when every field is in range (R176). -/
def unitOf (p : List Byte) : Option (UnitNo × UnitConfig) := do
  let unit ← index? 4 (fieldNat p 0 1)
  let flags := fieldNat p 1 1
  let c : UnitConfig :=
    { windowLength := fieldNat p 2 2, scalingBound := bit flags 0, shedEnable := bit flags 1, catchUp := fieldNat p 4 4
      shedBaseMs := fieldNat p 8 2, shedStepMs := fieldNat p 10 2, unitGapMs := fieldNat p 12 2 }
  if flags < 4 && 1 ≤ c.windowLength && c.catchUp ≤ 1000000 && c.shedBaseMs ≤ 60000 && c.shedStepMs ≤ 60000
      && c.unitGapMs ≤ 10000 then some (unit, c) else none

/-- The basis of an edge definition's code, where j lies below the definition's own number (R174, R175). -/
def basisField? (d : DefNo) (n : Nat) : Option EdgeBasis :=
  match n with
  | 0 => some .start
  | 1 => some .stop
  | n + 2 => (index? 6 n).bind fun j => if j < d then some (.after j) else none

/-- Set Edge's unit, definition and fields, when every field is in range (R175). -/
def edgeOf (p : List Byte) : Option (UnitNo × DefNo × EdgeDef) := do
  let unit ← index? 4 (fieldNat p 0 1)
  let d ← index? 6 (fieldNat p 1 1)
  let flags := fieldNat p 2 1
  let output ← index? 8 (fieldNat p 3 1)
  let basis ← basisField? d (fieldNat p 4 1)
  if flags < 4 then
    some (unit, d, { enabled := bit flags 0, output := output, high := bit flags 1, basis := basis
                     offset := fieldNat p 5 3 })
  else none

/-- A watch list item of a kind without a subject, which carries 0xFF for none (R210, R216). -/
def plainItem? (subject : Nat) (item : WatchItem) : Option WatchItem := if subject = 0xFF then some item else none

/-- A watch list item, when its kind exists and its subject is in range for it (R210, 11.3). -/
def itemOf (kind subject : Nat) : Option WatchItem :=
  match kind with
  | 0 => plainItem? subject .lineTime
  | 1 => plainItem? subject .joined
  | 2 => plainItem? subject .supervisedSpeed
  | 3 => plainItem? subject .tripLatch
  | 4 => plainItem? subject .tripView
  | 5 => plainItem? subject .forwardKj
  | 6 => plainItem? subject .reverseKj
  | 7 => plainItem? subject .totalVolume
  | 8 => plainItem? subject .heldIndex
  | 9 => plainItem? subject .heldUa
  | 10 => plainItem? subject .scalingState
  | 11 => (index? 8 subject).map .latestSetValue
  | 12 => (index? 4 subject).map .masterCount
  | 13 => (index? 4 subject).map .unitState
  | 14 => plainItem? subject .attentionPending
  | _ => none

/-- Set Watch List's items, when every one is in range (R210). -/
def itemsOf : List Byte → Option (List WatchItem)
  | kind :: subject :: rest => do
    let item ← itemOf kind.toNat subject.toNat
    let items ← itemsOf rest
    some (item :: items)
  | _ => some []

end Sys2Proof.Machine
end

