-- ==== Sys2Proof/Machine/Time.lean ====
section
/-! DEFINITION. Line time (chapter 2): adoption, strays, the time step event and its deliveries, the beacon and the join
timer. The meanings of BEACON and JOIN_TIMER_EXPIRY. -/

namespace Sys2Proof.Machine

/-! The deliveries of a time step (R41). -/

/-- The receivers of a time step event (R41). -/
def stepDependants : List Dependant := groupNumbers.map .group ++ .scalingWatch :: onsetDependants

/-- A time step event reaches one receiver (R64, R129, R169, R170, R189). -/
def State.deliverStep (e : StepEvent) (s : State) : Dependant → State
  | .group g => s.groupStep g e
  | .scalingWatch => s.intervalStep e
  | .planner => s.plannerStep
  | .unit n => s.unitStep n e

/-- A time step event is delivered to every receiver, in the order the command carries (R41). -/
def State.deliverSteps (s : State) (e : StepEvent) (order : List Dependant) : State :=
  (deliveryOrder stepDependants order).foldl (State.deliverStep e) s

/-! Adoption (2.6). -/

/-- d: the sender's line time less the SYNC time, read as a signed number (R37). -/
def timeDifference (sender sync : LineTime) : Int := (sender - sync).toInt

/-- A distance in µs exceeds a limit in ms (R35). -/
def exceedsMs (distance limitMs : Nat) : Bool := limitMs * 1000 < distance

/-- Line time advances by d, the station is joined, and LARGE_STEP is raised beyond the limit (R38, R39). -/
def State.advanceBy (s : State) (d : LineTime) (distance : Nat) : State :=
  let t := s.putTmu { s.tmu with lineTime := s.tmu.lineTime + d, joined := true }
  if exceedsMs distance s.config.largeStepMs then t.raise .largeStep else t

/-- The joining adoption: whatever d is, the join timer stops; a step event follows unless d is 0 (R38). -/
def State.joinBy (s : State) (d : LineTime) (distance : Nat) (order : List Dependant) : State :=
  let t := s.advanceBy d distance
  let t := t.putTmu { t.tmu with joinTimer := none }
  if d = 0 then t else t.deliverSteps { before := s.now, advance := d } order

/-- A step of a joined station (R39). -/
def State.stepBy (s : State) (d : LineTime) (distance : Nat) (order : List Dependant) : State :=
  (s.advanceBy d distance).deliverSteps { before := s.now, advance := d } order

/-- A joined sender's time lies behind: a stray beyond the limit (R40). -/
def State.stray (s : State) (sender : StationNo) (distance : Nat) : State :=
  if exceedsMs distance s.config.strayMs then
    (s.putPeer sender { s.peers[sender] with strayCount := s.peers[sender].strayCount + 1 }).raise (.strayPeer sender)
  else s

/-- A heard TIME reaches the time unit with both readings and the sender's joined flag (R37 to R40). -/
def State.timeHeard (s : State) (sender : StationNo) (senderTime syncTime : LineTime) (senderJoined : Bool)
    (order : List Dependant) : State :=
  let d := timeDifference senderTime syncTime
  if !senderJoined then s
  else if !s.tmu.joined then s.joinBy (senderTime - syncTime) d.natAbs order
  else if 1 ≤ d then s.stepBy (senderTime - syncTime) d.natAbs order
  else s.stray sender d.natAbs

/-! The timers. -/

/-- The beacon timer has expired in RUN (R36). -/
def State.beaconIsDue (s : State) : Bool := s.inRun && s.tmu.beaconTimer.any fun start => s.expired start s.beaconPeriods

/-- BEACON: TIME queued, the planner told, the timer restarted from its expiry count (R36, R157). -/
def execBeacon (s : State) : Outcome :=
  .next (if s.beaconIsDue then
    let t := (s.queueNotice .time).replan
    t.putTmu { t.tmu with beaconTimer := s.tmu.beaconTimer.map (· + BitVec.ofNat 32 s.beaconPeriods) }
  else s)

/-- The join timer has expired in RUN while the station is unjoined (R42). -/
def State.joinIsDue (s : State) : Bool :=
  s.inRun && !s.tmu.joined && s.tmu.joinTimer.any fun start => s.expired start (Params.joinBeacons * s.beaconPeriods)

/-- JOIN_TIMER_EXPIRY: the station declares itself joined and keeps its line time (R42). -/
def execJoinTimerExpiry (s : State) : Outcome :=
  .next (if s.joinIsDue then s.putTmu { s.tmu with joined := true, joinTimer := none } else s)

end Sys2Proof.Machine
end

