-- ==== Sys2Proof/Machine/Line.lean ====
section
/-! DEFINITION. The station line (chapter 1): the receiver, validation and hand-over, line access, collisions and the
silence timers. The meanings of the line's commands. -/

namespace Sys2Proof.Machine

/-! The read-back of the notice in flight (R24, R25). -/

/-- A notice in flight after a character has been taken from the line, none for one in error, while the frame of its
characters is sent: the character is read back good when it is the next one of the frame, and is a collision otherwise. After a
collision, or after the check byte, the station sends no more characters. -/
def InFlight.readsBack (f : InFlight) (frame : List Byte) (character : Option Byte) : InFlight :=
  if f.collided || frame.length ≤ f.readBack then f
  else if character = frame[f.readBack]? then { f with readBack := f.readBack + 1 }
  else { f with collided := true }

/-- The notice in flight after a character has been taken from the line (R24). -/
def State.flightAfter (s : State) (character : Option Byte) : Option InFlight :=
  s.lif.inFlight.map fun f => f.readsBack (s.flightFrame f) character

/-- The notice in flight has been sent whole: its check byte has been read back good (R24). -/
def State.sentWhole (s : State) : Bool :=
  s.inRun && s.lif.inFlight.any fun f => !f.collided && (s.flightFrame f).length ≤ f.readBack

/-- A character of the notice in flight was not read back good (R25). -/
def State.flightCollided (s : State) : Bool := s.inRun && s.lif.inFlight.any (·.collided)

/-- A check byte is the one with which the notice in flight is sent whole, so that the frame it completes is the station's own
(R9, R24). -/
def State.endsOwnFrame (s : State) (check : Byte) : Bool :=
  s.lif.inFlight.any fun f =>
    !f.collided && (s.flightFrame f)[f.readBack]? = some check && f.readBack + 1 = (s.flightFrame f).length

/-! Characters and idle time (1.1, 1.2.1). -/

/-- The line interface after a character without error: not quiet, idle time running from now, and read back by a notice in
flight (R4, R24). -/
def State.heard (s : State) (byte : Byte) : Lif :=
  { s.lif with quiet := none, idle := .since s.count, inFlight := s.flightAfter (some byte) }

/-- The receiver drops its frame and goes to another state (R8, R9). -/
def Lif.dropTo (l : Lif) (rx : RxState) : Lif := { l with rx := rx, buffer := [] }

/-- The receiver takes SYNC (R7). -/
def Lif.takeSync (l : Lif) (syncTime : LineTime) : Lif := { l with rx := .frame, buffer := [], syncTime := syncTime }

/-- The next character of the frame is its LENGTH (R8). -/
def Lif.expectsLength (l : Lif) : Bool := l.rx = .frame && l.buffer.length = 1

/-- The next character of the frame is its check byte (R8). -/
def Lif.expectsCheck (l : Lif) : Bool :=
  match l.rx, l.buffer with
  | .frame, _ :: length :: payload => length.toNat ≤ payload.length
  | _, _ => false

/-- SYNC_TAKEN: a character without error that is neither a LENGTH above 24 nor a check byte (R4, R5, R7, R8). -/
def execSyncTaken (byte : Byte) (startEdge : LineTime) (s : State) : Outcome :=
  let l := s.heard byte
  .next (if !s.lineEnabled || s.lif.expectsCheck
      || (s.lif.expectsLength && Params.greatestLineLength < byte.toNat) then s
  else
    match l.rx with
    | .waitGap => s.putLif l
    | .hunt => s.putLif (if byte = Params.lineSync then l.takeSync startEdge else l)
    | .frame => s.putLif { l with buffer := l.buffer ++ [byte] })

/-- CHARACTER_ERROR: counted, and in FRAME the frame is dropped; after a stop-bit error the idle time waits for the line to
return high; a notice in flight has collided (R4, R5, R7, R8, R25). -/
def execCharacterError (stopBit : Bool) (s : State) : Outcome :=
  .next (if s.lineEnabled then
    let l := s.lif
    let l := { l with
      quiet := none
      idle := if stopBit then .after s.count else .since s.count
      inFlight := s.flightAfter none
      counters := { l.counters with characterError := l.counters.characterError + 1 } }
    s.putLif (if l.rx = .frame then l.dropTo .waitGap else l)
  else s)

/-- LONG_FRAME: a LENGTH above 24 drops the frame at once (R8). -/
def execLongFrame (length : Byte) (s : State) : Outcome :=
  .next (if s.lineEnabled && s.lif.expectsLength && Params.greatestLineLength < length.toNat then
    let l := (s.heard length).dropTo .waitGap
    s.putLif { l with counters := { l.counters with longFrame := l.counters.longFrame + 1 } }
  else s)

/-- GAP: the idle time exceeds 176 µs. The start of an idle time that no command told is then known (R4, R7, R8). -/
def execGap (s : State) : Outcome :=
  let periods := Params.gapPeriods + 1
  .next (if s.lineEnabled && s.lif.idle.reaches s.count periods then
    let l := { s.lif with idle := .since (s.lif.idle.startAt s.count periods) }
    match l.rx with
    | .hunt => s.putLif l
    | .waitGap => s.putLif (l.dropTo .hunt)
    | .frame =>
      s.putLif ({ l with counters := { l.counters with gapAbort := l.counters.gapAbort + 1 } }.dropTo .hunt)
  else s)

/-- QUIET_MOMENT: the idle time reaches 352 µs and the line becomes quiet (R4). -/
def execQuietMoment (s : State) : Outcome :=
  let start := s.lif.idle.startAt s.count Params.quietPeriods
  .next (if s.lineEnabled && s.lif.quiet.isNone && s.lif.idle.reaches s.count Params.quietPeriods then
    s.putLif { s.lif with idle := .since start, quiet := some (start + BitVec.ofNat 32 Params.quietPeriods) }
  else s)

/-! Silence (R22). -/

/-- The elapsed periods of a row's silence timer; a held timer keeps 2^31 (R22). -/
def SilenceTimer.elapsedAt (t : SilenceTimer) (count : Count) : Nat :=
  match t with
  | .stopped => 0
  | .running start => elapsed count start
  | .held => Params.longestPeriods

/-- A heard and not yet silent peer row's timer has reached four own beacon periods (R22). -/
def State.silenceIsDue (s : State) (n : StationNo) : Bool :=
  let row := s.peers[n]
  s.lineEnabled && s.isPeer n && row.heard && !row.silent && row.silence != .stopped
    && Params.silenceBeacons * s.beaconPeriods ≤ row.silence.elapsedAt s.count

/-- A row falls silent: the flag, the cause, and the planner's scaling hold (R22, R166). -/
def State.fallSilent (s : State) (n : StationNo) : State :=
  ((s.putPeer n { s.peers[n] with silent := true }).raise (.peerSilent n)).evaluateScalingHold

/-- PEER_SILENCE of a row (R22). -/
def execPeerSilence (station : StationNo) (s : State) : Outcome :=
  .next (if s.silenceIsDue station then s.fallSilent station else s)

/-- A silent peer row's running timer has reached 2^31 periods (R22). -/
def State.silenceStopIsDue (s : State) (n : StationNo) : Bool :=
  let row := s.peers[n]
  s.lineEnabled && s.isPeer n && row.silent &&
    match row.silence with
    | .running start => s.expired start Params.longestPeriods
    | .stopped | .held => false

/-- SILENCE_TIMER_STOP of a row: the timer stops and holds its count (R22). -/
def execSilenceTimerStop (station : StationNo) (s : State) : Outcome :=
  .next (if s.silenceStopIsDue station then s.putPeer station { s.peers[station] with silence := .held } else s)

/-! Notices heard (R12, R14 to R20). -/

/-- The sender's row as every notice heard leaves it (R12). -/
def State.heardRow (s : State) (n : StationNo) : PeerRow :=
  { s.peers[n] with heard := true, lastHeard := s.now, silence := .running s.count, silent := false }

/-- The sender's row is written, and a silence that ended is told to the planner (R12, R166). -/
def State.writeRow (s : State) (n : StationNo) (row : PeerRow) : State :=
  let t := s.putPeer n row
  if s.peers[n].silent then t.evaluateScalingHold else t

/-- TIME heard: row, trip latched change to the supervisor, scaling change to the planner, readings to the time unit
(R14). -/
def State.hearTime (s : State) (n : StationNo) (p : List Byte) (order : List Dependant) : State :=
  let old := s.peers[n]
  let row := timeRow (s.heardRow n) p
  let t := s.writeRow n row
  let t := if row.tripLatched != old.tripLatched then
    t.evaluateView { time := s.now, source := .peerByTime n } order else t
  let t := if row.scaling != old.scaling then t.evaluateScalingHold else t
  t.timeHeard n (BitVec.ofNat 32 (fieldNat p 0 4)) s.lif.syncTime row.joined order

/-- The peer trip time: the trip line time when its lateness is 0 to 1,000,000 µs, and the line time now otherwise
(R102). -/
def peerTripTime (trip now : LineTime) : LineTime :=
  if 0 ≤ lateness trip now && lateness trip now ≤ Params.tripLatenessLimit then trip else now

/-- TRIP heard: row, last peer trip, trip view (R17, R102). -/
def State.hearTrip (s : State) (n : StationNo) (p : List Byte) (order : List Dependant) : State :=
  let time := BitVec.ofNat 32 (fieldNat p 0 4)
  let record : PeerTrip :=
    { sender := n, time := time, cause := BitVec.ofNat 8 (fieldNat p 4 1), speed := fieldNat p 5 2 }
  let t := s.writeRow n { s.heardRow n with tripLatched := true }
  (t.putTsv { t.tsv with lastPeerTrip := some record }).evaluateView
    { time := peerTripTime time s.now, source := .peerByTrip n } order

/-- CLEAR heard: row, last peer clear, trip view (R18, R102). -/
def State.hearClear (s : State) (n : StationNo) (p : List Byte) (order : List Dependant) : State :=
  let record : PeerClear := { sender := n, time := BitVec.ofNat 32 (fieldNat p 0 4) }
  let t := s.writeRow n { s.heardRow n with tripLatched := false }
  (t.putTsv { t.tsv with lastPeerClear := some record }).evaluateView { time := s.now, source := .peerByTrip n } order

/-- A notice of a defined kind is heard: the row and then the owner (R12, R14 to R20). -/
def State.hear (s : State) (kind : Nat) (n : StationNo) (p : List Byte) (order : List Dependant) : State :=
  match kind with
  | 1 => s.hearTime n p order
  | 2 => (s.writeRow n (s.heardRow n)).claimHeard (claimOf n p)
  | 3 => (s.writeRow n (s.heardRow n)).releaseHeard n (releaseSlotOf p)
  | 4 => s.hearTrip n p order
  | 5 => s.hearClear n p order
  | 6 => s.writeRow n (heatRow (s.heardRow n) p)
  | 7 => (s.writeRow n (scaleRow (s.heardRow n) p)).evaluateScalingHold
  | _ => s

/-! Validation (R9, R10). -/

/-- Put the line counters. -/
def State.putCounters (s : State) (c : LineCounters) : State := s.putLif { s.lif with counters := c }

/-- A valid frame that is not the station's own is checked, and a notice heard goes to its owner (R10). -/
def State.validate (s : State) (kind : Nat) (sender : StationNo) (p : List Byte) (order : List Dependant) : State :=
  let c := s.lif.counters
  match kindLength? kind with
  | none => s.putCounters { c with unknownKind := c.unknownKind + 1 }
  | some length =>
    if sender = s.stationNo then (s.putCounters { c with validFrame := c.validFrame + 1 }).raise .duplicateStation
    else if p.length != length then s.putCounters { c with badLength := c.badLength + 1 }
    else (s.putCounters { c with validFrame := c.validFrame + 1 }).hear kind sender p order

/-- The check byte of a frame has been taken without error; body is what stands between SYNC and it (R9). -/
def State.frameComplete (s : State) (body : List Byte) (own : Bool) (check : Byte) (order : List Dependant) : State :=
  let c := s.lif.counters
  let head := fieldNat body 0 1
  if checkByte body != check then s.putCounters { c with checkError := c.checkError + 1 }
  else if own then s
  else s.validate (head / 16) (indexMod 16 head) (body.drop 2) order

/-- FRAME_RECEIVED: the receiver is in HUNT again and the frame is judged; it is the station's own when its check byte is the
one with which the notice in flight is sent whole (R9, R10, R24). -/
def execFrameReceived (check : Byte) (order : List Dependant) (s : State) : Outcome :=
  .next (if s.lineEnabled && s.lif.expectsCheck then
    (s.putLif ((s.heard check).dropTo .hunt)).frameComplete s.lif.buffer (s.endsOwnFrame check) check order
  else s)

/-! Line access (1.5). -/

/-- The access wait of an entry after the quiet moment, in periods (R23). -/
def State.accessWait (s : State) (e : QueueEntry) : Nat :=
  let slots :=
    if 0 < e.collisions then 17 + s.stationNo.val
    else if e.notice.classZero then 0
    else 1 + s.stationNo.val
  slots * Params.slotPeriods

/-- The head notice may start: RUN, nothing in flight, a quiet line, the access wait over (R23, R30). -/
def State.mayStart (s : State) (e : QueueEntry) : Bool :=
  s.inRun && s.lif.inFlight.isNone && s.lif.quiet.any fun q => s.accessWait e ≤ elapsed s.count q

/-- NOTICE_START: the head leaves the queue as the notice in flight, its payload filled at this edge (R13, R23, R24). -/
def execNoticeStart (s : State) : Outcome :=
  .next (match s.lif.queue with
    | e :: rest =>
      if s.mayStart e then
        let flight : InFlight :=
          { notice := e.notice, collisions := e.collisions, payload := s.noticePayload e.notice }
        s.putLif { s.lif with queue := rest, inFlight := some flight, quiet := none, idle := .after s.count }
      else s
    | [] => s)

/-- The notice in flight ceases to exist: its CLAIM is told to the planner (R24, R158). -/
def State.tellSent (s : State) : Notice → State
  | .claim slot _ start length _ => s.claimSentWhole slot start length
  | .time | .release .. | .trip .. | .clear _ | .heat _ | .scale .. => s

/-- NOTICE_SENT_WHOLE: once the check byte has been read back good: counter, own row, the planner told of a CLAIM. The
receiver has been told by the read-back itself, at the check byte (R24, notes/assumptions/32.md). -/
def execNoticeSentWhole (s : State) : Outcome :=
  .next (match s.lif.inFlight with
    | some f =>
      if s.sentWhole then
        let c := s.lif.counters
        let t := s.putLif { s.lif with inFlight := none, counters := { c with frameSent := c.frameSent + 1 } }
        { t with own := { t.own with lastHeard := s.now } }.tellSent f.notice
      else s
    | none => s)

/-- A jammed notice is discarded; its CLAIM is told to the planner (R25, R159). -/
def State.tellDiscarded (s : State) : Notice → State
  | .claim slot _ start length _ => s.claimDiscarded slot start length
  | .time | .release .. | .trip .. | .clear _ | .heat _ | .scale .. => s

/-- A notice that has collided eight times is discarded (R25). -/
def State.jam (s : State) (n : Notice) : State :=
  let c := s.lif.counters
  ((s.putCounters { c with jammed := c.jammed + 1 }).raise .lineJammed).tellDiscarded n

/-- COLLISION: once a character was not read back good: counted; at the eighth the notice is discarded, and otherwise it
returns to the queue (R25, R29). -/
def execCollision (s : State) : Outcome :=
  .next (match s.lif.inFlight with
    | some f =>
      if s.flightCollided then
        let c := s.lif.counters
        let t := s.putLif { s.lif with inFlight := none, counters := { c with collision := c.collision + 1 } }
        if Params.jamCollisions ≤ f.collisions + 1 then t.jam f.notice
        else t.putLif { t.lif with queue := returnIn f.notice (f.collisions + 1) t.lif.queue }
      else s
    | none => s)

end Sys2Proof.Machine
end

