-- ==== Sys2Proof/Machine/Service.lean ====
section
/-! DEFINITION. The service port (10.1, 10.2): the receiver, the checks of a complete request, the admission of requests in
each station state, and the reply. The meanings of the service port's own commands. -/

namespace Sys2Proof.Machine

/-! The receiver (R195, R196, R198). -/

/-- The service port after a character whose end is known: its line has been high and is idle from now (R196, R200). -/
def Svp.character (p : Svp) (count : Count) : Svp :=
  { p with idle := .since count, breakArmed := true, breakFrom := count }

/-- SERVICE_ERROR is counted, and the receiver enters DISCARD (R195, R196, R198). -/
def Svp.refuse (p : Svp) : Svp := { p with errors := p.errors + 1, receiver := .discard, buffer := [] }

/-- The receiver has nothing to drop, and the port is not replying (R195, R198). -/
def Svp.listening (p : Svp) : Bool := p.receiver != .discard && p.reply.isNone

/-- What the receiver does with characters that come while it is not listening: in DISCARD they are dropped, and while the
port is replying their start bit refuses the request that it begins (R195, R198). -/
def Svp.dropped (p : Svp) : Svp := if p.receiver = .discard then p else p.refuse

/-- REQUEST_SYNC_TAKEN: in HUNT the receiver empties the request buffer and enters REQUEST (R195). -/
def execRequestSyncTaken (s : State) : Outcome :=
  let p := s.svp.character s.count
  .next (if !p.listening then s.putSvp p.dropped
  else if p.receiver = .hunt then s.putSvp { p with receiver := .request, buffer := [] }
  else s)

/-- REQUEST_TOO_LONG: a LENGTH above 64 ends the request at once (R195). -/
def execRequestTooLong (length : Byte) (s : State) : Outcome :=
  let p := s.svp.character s.count
  .next (if length.toNat ≤ 64 then s
  else if p.listening then s.putSvp p.refuse
  else s.putSvp p.dropped)

/-- A character in error that ends now can have been formed by a low level that the port already knows of (R200). -/
def Svp.stillLow (p : Svp) (count : Count) : Bool :=
  match p.idle with
  | .since _ => false
  | .after restart => elapsed count restart ≤ Params.serviceCharacterPeriods

/-- The service port after a character with a stop-bit error: its line is low, so the idle measure waits for its return. Unless
a low level known before formed it, the line was high before its start bit, and a break can have begun there (R196, R200). -/
def Svp.brokenCharacter (p : Svp) (count : Count) : Svp :=
  if p.stillLow count then { p with idle := .after count }
  else
    { p with
      idle := .after count
      breakArmed := true
      breakFrom := if elapsed count p.breakFrom ≤ Params.serviceCharacterPeriods then p.breakFrom
        else count - BitVec.ofNat 32 Params.serviceCharacterPeriods }

/-- SERVICE_CHARACTER_ERROR: counted in HUNT and in REQUEST, where it ends the request; after a stop-bit error the idle
time waits for the line to return high (R195, R196). -/
def execServiceCharacterError (stopBit : Bool) (s : State) : Outcome :=
  let p := if stopBit then s.svp.brokenCharacter s.count else s.svp.character s.count
  .next (s.putSvp
    (if !p.listening then p.dropped
    else if p.receiver = .hunt then { p with errors := p.errors + 1 }
    else p.refuse))

/-- The receiver after a gap: a partial request is discarded and counted, and DISCARD ends (R196). -/
def Svp.afterGap (p : Svp) : Svp :=
  match p.receiver with
  | .hunt => p
  | .request => { p with errors := p.errors + 1, receiver := .hunt, buffer := [] }
  | .discard => { p with receiver := .hunt }

/-- SERVICE_GAP: the idle time reaches 20 ms. The start of an idle time that no command told is then known (R196). -/
def execServiceGap (s : State) : Outcome :=
  let periods := Params.serviceGapPeriods
  .next (if s.svp.idle.reaches s.count periods then
    s.putSvp { s.svp with
      idle := .since (s.svp.idle.startAt s.count periods), breakArmed := true, breakFrom := s.count }.afterGap
  else s)

/-- START_BIT_WHILE_REPLYING: the idle measure and the break measure restart, and a receiver not yet in DISCARD counts the
request that begins, once, and enters DISCARD (R196, R198, R200). -/
def execStartBitWhileReplying (s : State) : Outcome :=
  .next (if s.replying then
    s.putSvp { s.svp with idle := .after s.count, breakArmed := true, breakFrom := s.count }.dropped
  else s)

/-- REPLY_COMPLETE: the reply's last stop bit ends, and the port is no longer replying (R198). -/
def execReplyComplete (s : State) : Outcome :=
  .next (if s.replying then s.putSvp { s.svp with reply := none } else s)

/-! Requests (R197, R199). -/

/-- The rows of the table of R199. -/
inductive RequestClass where
  | status | read | clearAttention | run | configuration
  deriving DecidableEq, Repr

/-- The refusal of a request by the station state, if any (R199). -/
def RequestClass.refusal? (c : RequestClass) (state : StationState) : Option Status :=
  match state, c with
  | .boot, _ => some .notReady
  | .config, .run => some .notRunningStation
  | .config, _ => none
  | .run, .configuration => some .sealed
  | .run, _ => none
  | .fault, .status => none
  | .fault, _ => some .faulted

/-- A refusal, which carries no payload unless its section gives one (R197, R215). -/
def refused (status : Status) : Reply := { status := status, payload := [] }

/-- A reply to a request that was carried out (R197). -/
def success (payload : List Byte) : Reply := { status := .success, payload := payload }

/-- What carrying out a request gives: the state it leaves and its reply. -/
abbrev Answer := State × Reply

/-- A request refused: no state changes (R197). -/
def State.refuse (s : State) (status : Status) : Answer := (s, refused status)

/-- A request carried out. -/
def State.succeed (s : State) (payload : List Byte) : Answer := (s, success payload)

/-- A request that its section takes from decoded fields; fields out of range are refused with RANGE (R216). -/
def State.ranged {α : Type} (s : State) (fields : Option α) (act : α → Answer) : Answer :=
  match fields with
  | none => s.refuse .range
  | some x => act x

/-- The part's bytes of a request as the receiver has buffered them: code, LENGTH, payload (R195). -/
def requestBytes (code : Nat) (payload : List Byte) : List Byte :=
  BitVec.ofNat 8 code :: BitVec.ofNat 8 payload.length :: payload

/-- The service port at the moment a request's check byte is taken (R195). -/
def Svp.complete (p : Svp) (count : Count) (request : List Byte) : Svp :=
  { p.character count with receiver := .hunt, buffer := request }

/-- The reply to a request is formed at the moment its check byte is taken (R197, R198). -/
def State.putReply (s : State) (r : Reply) : State := s.putSvp { s.svp with reply := some r }

/-- A whole request arrives with a good or bad check byte and is handled; a port that is not listening drops it
(R195, R197, R198). -/
def State.arrive (s : State) (code : Nat) (payload : List Byte) (handle : State → Answer) : State :=
  if !payloadFits payload then s
  else if !s.svp.listening then s.putSvp (s.svp.character s.count).dropped
  else
    let answer := handle (s.putSvp (s.svp.complete s.count (requestBytes code payload)))
    answer.1.putReply answer.2

/-- Checks 2 to 6 of R197 for a named request: BOOT, its lengths, the station state, then its own section. -/
def State.serve (cls : RequestClass) (lengthOk : Bool) (act : State → Answer) (s : State) : Answer :=
  if s.svp.station = .boot then s.refuse .notReady
  else if !lengthOk then s.refuse .badLength
  else
    match cls.refusal? s.svp.station with
    | some status => s.refuse status
    | none => act s

/-- A named request with a good check byte (R197). -/
def State.request (s : State) (code : Nat) (cls : RequestClass) (lengths : List Nat) (payload : List Byte)
    (act : State → Answer) : State :=
  s.arrive code payload (State.serve cls (lengths.contains payload.length) act)

/-- UNKNOWN_REQUEST: BOOT answers first, and otherwise a code that names no request is refused (R197). -/
def execUnknownRequest (code : Byte) (payload : List Byte) (s : State) : Outcome :=
  .next (if knownRequestCodes.contains code.toNat then s
  else s.arrive code.toNat payload fun s =>
    s.refuse (if s.svp.station = .boot then .notReady else .unknownRequest))

/-- REQUEST_BAD_CHECK: check 1 refuses the request (R197). -/
def execRequestBadCheck (code : Byte) (payload : List Byte) (check : Byte) (s : State) : Outcome :=
  .next (if checkByte (requestBytes code.toNat payload) = check then s
  else s.arrive code.toNat payload fun s => s.refuse .badCheck)

end Sys2Proof.Machine
end

