-- ==== Sys2Proof/Machine/Reads.lean ====
section
/-! DEFINITION. The read requests: the records and payloads of 11.5 and R217, and the meanings of the twelve reads. Where
chapter 11 leaves a width or a presence to be worked out from the owner's chapter, notes/assumptions/9.md says how. -/

namespace Sys2Proof.Machine

/-! Pieces of a reply payload (R215, R217). -/

/-- One byte. -/
def byte1 (n : Nat) : List Byte := bytesOf 1 n

/-- A flag, one byte (R217). -/
def flag1 (b : Bool) : List Byte := bytesOf 1 (flagNat b)

/-- An optional field: a presence byte, and the value or zeros in its full width (R217). -/
def optional (width : Nat) : Option (List Byte) → List Byte
  | some bytes => flag1 true ++ bytes
  | none => flag1 false ++ List.replicate width 0

/-- An optional unsigned number (R217). -/
def optionalNat (width : Nat) (n : Option Nat) : List Byte := optional width (n.map (bytesOf width))

/-- An optional signed number (R217). -/
def optionalInt (width : Nat) (x : Option Int) : List Byte := optional width (x.map (signedBytes width))

/-- An optional line time or count (R217). -/
def optionalWord (t : Option (BitVec 32)) : List Byte := optionalNat 4 (t.map BitVec.toNat)

/-- A word of 32 bits. -/
def word4 (t : BitVec 32) : List Byte := bytesOf 4 t.toNat

/-- A counter of 16 bits. -/
def word2 (c : Counter16) : List Byte := bytesOf 2 c.toNat

/-- A list, preceded by its count in one byte (11.5). -/
def listed (records : List (List Byte)) : List Byte := byte1 records.length ++ records.flatten

/-! Codes of enumerated values: those of chapter 11 where it gives one, else the position in the owner's table (R217). -/

/-- The station state of the status header. -/
def StationState.code : StationState → Nat
  | .boot => 0
  | .config => 1
  | .run => 2
  | .fault => 3

/-- The reset cause of the status header. -/
def ResetCause.code : ResetCause → Nat
  | .powerOn => 1
  | .resetPin => 2
  | .serviceBreak => 3

/-- The boot check of the status header. -/
def BootResult.code : BootResult → Nat
  | .none => 0
  | .passed => 1
  | .failed => 2

/-- The reason of a pending cause. -/
def ClaimFailure.code : ClaimFailure → Nat
  | .jammed => 1
  | .contended => 2

/-- The mode of a capture unit (11.3). -/
def CaptureMode.code : CaptureMode → Nat
  | .off => 0
  | .speed => 1
  | .totaliser => 2
  | .general => 3

/-- The group of a channel (11.3). -/
def groupCode (g : Option GroupNo) : Nat := match g with | none => 0 | some g => g.val + 1

/-- The class of a pulse, by its place in the table of R109. -/
def PulseClass.code : PulseClass → Nat
  | .forward => 0
  | .reverse => 1
  | .zero => 2
  | .unmetered => 3

/-- The unmetered reason. DESIGN CHOICE: by its place in the list of four that R119 gives for the field, and not by the six rows
of R110, two of whose reasons stand twice (notes/assumptions/9.md). -/
def UnmeteredReason.code : UnmeteredReason → Nat
  | .supplyAbsent => 0
  | .returnAbsent => 1
  | .supplySaturated => 2
  | .returnSaturated => 3

/-- The no-basis reason, by its place in the table of R132. -/
def NoBasis.code : NoBasis → Nat
  | .meanAbsent => 0
  | .noEnergy => 1
  | .hotEndCrossed => 2
  | .coldEndCrossed => 3
  | .dtSmall => 4

/-- The state of an own slot, by its place in the table of 8.3. -/
def SlotState.code : SlotState → Nat
  | .free => 0
  | .waiting _ => 1
  | .announced => 2
  | .settling _ => 3
  | .firm => 4
  | .started => 5

/-- The own state field of a claim entry (11.5). -/
def SlotState.entryCode : SlotState → Nat
  | .announced => 1
  | .settling _ => 2
  | .firm => 3
  | .started => 4
  | .free | .waiting _ => 0

/-- The waiting reason, in the order of R152. -/
def WaitReason.code : WaitReason → Nat
  | .tripHold => 0
  | .scalingHold => 1
  | .noWindow => 2

/-- The state of a switching unit, in the order of 9.4. -/
def UnitState.code : UnitState → Nat
  | .idle => 0
  | .starting => 1
  | .running => 2
  | .stopping => 3

/-- The origin of a definition, in the order of R174. -/
def Origin.code : Origin → Nat
  | .start => 0
  | .stop => 1

/-- The basis of a definition (11.3). -/
def EdgeBasis.code : EdgeBasis → Nat
  | .start => 0
  | .stop => 1
  | .after j => 2 + j.val

/-- A channel field that allows none (R216). -/
def channelByte (c : Option ChannelNo) : Nat := match c with | none => 0xFF | some c => c.val

/-! Read Status (R212). -/

/-- A pending cause of the status header (11.5). -/
def Pending.record (p : Pending) : List Byte :=
  byte1 p.cause.kind ++ byte1 (p.cause.subject.getD 0xFF) ++ word4 p.first ++ byte1 p.raises
    ++ byte1 ((p.reason.map ClaimFailure.code).getD 0)

/-- The attention set as a reply carries it. -/
def State.attentionPayload (s : State) : List Byte := listed (s.attention.map Pending.record)

/-- The ten line counters in the order of R11. -/
def LineCounters.payload (c : LineCounters) : List Byte :=
  ([c.characterError, c.gapAbort, c.longFrame, c.checkError, c.unknownKind, c.badLength, c.validFrame, c.frameSent,
    c.collision, c.jammed].map word2).flatten

/-- The own slot of a CLAIM or a RELEASE, and 0 for another kind. -/
def Notice.slotNumber : Notice → Nat
  | .claim slot .. | .release slot .. => slot.val
  | .time | .trip .. | .clear _ | .heat _ | .scale .. => 0

/-- A queue entry of the status header (11.5). -/
def QueueEntry.record (e : QueueEntry) : List Byte :=
  byte1 e.notice.kind ++ byte1 (e.notice.slotNumber + 16 * e.collisions)

/-- The status header (11.5). -/
def State.statusPayload (s : State) : List Byte :=
  byte1 s.svp.station.code ++ byte1 s.svp.resetCause.code ++ byte1 s.svp.bootResult.code ++ byte1 s.stationNo.val
    ++ byte1 s.config.roles.code ++ word4 s.now ++ word4 s.count ++ flag1 s.tmu.joined
    ++ s.lif.counters.payload ++ word2 s.svp.errors
    ++ listed (s.lif.queue.map QueueEntry.record)
    ++ byte1 ((s.lif.inFlight.map (·.notice.kind)).getD 0)
    ++ word4 s.config.enableMask
    ++ byte1 (flagNat s.attentionOutput + 2 * flagNat s.tripOutput + 4 * flagNat s.tsv.viewActive)
    ++ s.attentionPayload

/-- READ_STATUS (R212). -/
def execReadStatus (payload : List Byte) (s : State) : Outcome :=
  .next (s.request 0x01 .status [0] payload fun s => s.succeed s.statusPayload)

/-! Read Peer (R213). -/

/-- The time elapsed on a row's silence timer in whole milliseconds; 0 for a row not heard and for the own row (R213). -/
def State.silenceMs (s : State) (n : StationNo) : Nat :=
  if s.isPeer n && s.peers[n].heard then
    min Params.longestPeriods (s.peers[n].silence.elapsedAt s.count) / Params.perMillisecond
  else 0

/-- A peer row (11.5). -/
def State.peerPayload (s : State) (n : StationNo) : List Byte :=
  let r := s.row n
  byte1 (flagNat r.heard + 2 * flagNat r.joined + 4 * flagNat r.silent + 8 * flagNat r.tripLatched
      + 16 * flagNat r.heat.isSome + 32 * flagNat r.lastIndex.isSome)
    ++ byte1 r.roles.code ++ byte1 r.beaconCode ++ word4 r.lastHeard
    ++ byte1 (scalingByte r.scaling r.acknowledged) ++ word4 r.scalingChange ++ byte1 r.activeUnits
    ++ bytesOf 2 (indexField r.lastIndex)
    ++ (r.heat.map HeatSummary.payload).getD (List.replicate 12 0 ++ bytesOf 2 (indexField none))
    ++ word2 r.strayCount ++ byte1 (s.claimsHeld n) ++ bytesOf 4 (s.silenceMs n) ++ bytesOf 2 n.val

/-- READ_PEER (R213). -/
def execReadPeer (payload : List Byte) (s : State) : Outcome :=
  .next (s.request 0x02 .read [1] payload fun s =>
    s.ranged (index? 16 (fieldNat payload 0 1)) fun n => s.succeed (s.peerPayload n))

/-! Read Time (R214). -/

/-- A timer's runs flag and the time remaining to its expiry in µs (R214). DESIGN CHOICE: the remaining periods are truncated to
whole microseconds, the runs flag is the presence byte of the time, and a stopped timer shows 4 bytes of 0
(notes/assumptions/38.md). -/
def State.timerPayload (s : State) (timer : Option Count) (periods : Nat) : List Byte :=
  match timer with
  | some start => flag1 true ++ bytesOf 4 ((periods - elapsed s.count start) / Params.perMicrosecond)
  | none => flag1 false ++ bytesOf 4 0

/-- The payload of Read Time (R214). -/
def State.timeReply (s : State) : List Byte :=
  word4 s.now ++ word4 s.count ++ flag1 s.tmu.joined ++ byte1 s.config.beaconCode
    ++ bytesOf 2 s.config.largeStepMs ++ bytesOf 2 s.config.strayMs
    ++ s.timerPayload s.tmu.beaconTimer s.beaconPeriods
    ++ s.timerPayload s.tmu.joinTimer (Params.joinBeacons * s.beaconPeriods)

/-- READ_TIME (R214). -/
def execReadTime (payload : List Byte) (s : State) : Outcome :=
  .next (s.request 0x03 .read [0] payload fun s => s.succeed s.timeReply)

/-! Read Samples (R70). -/

/-- The bytes of a reading field (11.5). -/
def Reading.record (r : Reading) : List Byte :=
  byte1 (flagNat r.value.isSome + 2 * flagNat r.saturated + 16 * r.channel.val) ++ signedBytes 4 (r.value.getD 0)

/-- A sample set (11.5). -/
def SetRecord.record (r : SetRecord) : List Byte :=
  word4 r.sequence ++ word4 r.endTime ++ byte1 (flagNat r.short + 2 * flagNat r.empty)
    ++ listed (r.readings.map Reading.record)

/-- The sequence numbers from the oldest to the newest in a ring contain s (R70). -/
def ringHolds (oldest newest s : BitVec 32) : Bool := !later oldest s && !later s newest && (s = oldest || later s oldest)
  && (s = newest || later newest s)

/-- Where in a ring Read Samples begins, counted from the oldest set, and the gap flag; none when it takes no set (R70). -/
def samplesFrom (ring : List RingSet) (s : BitVec 32) : Option (Nat × Bool) :=
  match ring.head?, ring.getLast? with
  | some a, some b =>
    let oldest := a.record.sequence
    if ringHolds oldest b.record.sequence s then some ((s - oldest).toNat, false)
    else if later oldest s then some (0, true)
    else none
  | _, _ => none

/-- A ring after n sets from a place in it have been carried in a reply (R70). -/
def markRead (start n : Nat) (ring : List RingSet) : List RingSet :=
  ring.take start ++ ((ring.drop start).take n).map ({ · with unread := false }) ++ ring.drop (start + n)

/-- The reply of Read Samples over the sets it carries (11.5). -/
def samplesReply (x : Group) (gap : Bool) (sets : List RingSet) : List Byte :=
  word4 x.nextSequence ++ word2 x.overrunCount ++ byte1 (flagNat x.overrunMark + 2 * flagNat gap)
    ++ listed (sets.map fun r => r.record.record)

/-- Read Samples is carried out (R68, R70). -/
def State.readSamples (s : State) (g : GroupNo) (from_ : BitVec 32) (n : Nat) : Answer :=
  let x := s.groups[g]
  match samplesFrom x.ring from_ with
  | none => s.succeed (samplesReply x false [])
  | some (start, gap) =>
    let sets := (x.ring.drop start).take n
    (s.putGroup g { x with ring := markRead start n x.ring, overrunMark := false }).succeed (samplesReply x gap sets)

/-- READ_SAMPLES (R70). -/
def execReadSamples (payload : List Byte) (s : State) : Outcome :=
  .next (s.request 0x04 .read [6] payload fun s =>
    s.ranged (index? 2 (fieldNat payload 0 1)) fun g =>
      let n := fieldNat payload 5 1
      if within 1 8 n then s.readSamples g (BitVec.ofNat 32 (fieldNat payload 1 4)) n else s.refuse .range)

/-! Read Channel (R71). -/

/-- The payload of Read Channel (R71). A guard value takes 4 bytes, since chapter 3 states its range and no width (R217). -/
def Channel.payload (x : Channel) : List Byte :=
  flag1 x.config.enabled ++ flag1 x.running
    ++ optional 6 (x.lastMain.map fun m => signedBytes 2 m.value ++ signedBytes 4 m.reading)
    ++ optionalInt 4 x.lastGuard
    ++ listed (x.guardHistory.map (signedBytes 4))
    ++ bytesOf 4 x.guardWindow.results.length ++ bytesOf 4 x.guardWindow.excursions ++ flag1 x.guardWindow.armed
    ++ flag1 x.saturationFlag ++ flag1 x.guardLimitFlag
    ++ byte1 (groupCode x.config.group)
    ++ optionalInt 4 x.latest ++ flag1 x.latestSaturated

/-- READ_CHANNEL (R71). -/
def execReadChannel (payload : List Byte) (s : State) : Outcome :=
  .next (s.request 0x05 .read [1] payload fun s =>
    s.ranged (index? 8 (fieldNat payload 0 1)) fun c => s.succeed s.channels[c].payload)

/-! Read Capture (R88). -/

/-- A source byte (11.3). -/
def PulseSource.code (p : PulseSource) : Nat := p.input.val + 8 * flagNat p.falling

/-- A capture configuration, as Set Capture's payload less the unit (R217). -/
def CaptureConfig.payload (c : CaptureConfig) : List Byte :=
  byte1 c.mode.code ++ byte1 c.master.code ++ byte1 ((c.slave.map PulseSource.code).getD 0xFF) ++ byte1 c.lead
    ++ flag1 c.poll ++ byte1 c.pollMs

/-- A capture record (11.5). -/
def CaptureRecord.record (r : CaptureRecord) : List Byte :=
  word4 r.lineTime ++ word4 r.localCount ++ bytesOf 2 r.slaveEdges ++ word2 r.masterCount ++ optionalWord r.lead

/-- The payload of Read Capture (R88). -/
def Capture.payload (u : Capture) : List Byte :=
  u.config.payload ++ flag1 u.running ++ word2 u.masterCount ++ word2 u.slaveCount ++ bytesOf 2 u.betweenCount
    ++ word2 u.recordCount ++ listed (u.fifo.map word4) ++ listed (u.history.map CaptureRecord.record)
    ++ (if u.config.polls then flag1 u.taken else [])

/-- READ_CAPTURE (R88). -/
def execReadCapture (payload : List Byte) (s : State) : Outcome :=
  .next (s.request 0x06 .read [1] payload fun s =>
    s.ranged (index? 4 (fieldNat payload 0 1)) fun u => s.succeed s.captures[u].payload)

/-! Read Turbine (R107). -/

/-- A turbine configuration, as Set Turbine's payload (R217). -/
def TurbineConfig.payload (c : TurbineConfig) : List Byte :=
  byte1 c.teeth ++ bytesOf 2 c.tripLimit ++ bytesOf 2 c.resetLimit ++ byte1 c.overWindow ++ byte1 c.overCount
    ++ byte1 c.wheelWindow ++ byte1 c.wheelCount ++ byte1 c.stallSteps

/-- A window as Read Turbine carries it: results held, excursion count, armed flag (R107). -/
def Window.payload (w : Window) : List Byte :=
  listed (w.results.map flag1) ++ bytesOf 4 w.excursions ++ flag1 w.armed

/-- The trip record (R97); chapter 5 states no width for a speed (R217). -/
def TripRecord.payload (r : TripRecord) : List Byte := word4 r.time ++ byte1 r.cause.code ++ bytesOf 4 r.speed

/-- The width of a trip record in bytes. -/
def tripRecordWidth : Nat := 4 + 1 + 4

/-- An onset's time and source: own, or a station by TRIP or by TIME (R104). -/
def Onset.payload (o : Onset) : List Byte :=
  word4 o.time ++
    match o.source with
    | .own => byte1 0 ++ bytesOf 4 0
    | .peerByTrip n => byte1 1 ++ bytesOf 4 n.val
    | .peerByTime n => byte1 2 ++ bytesOf 4 n.val

/-- The last peer trip (R102). -/
def PeerTrip.payload (r : PeerTrip) : List Byte :=
  bytesOf 4 r.sender.val ++ word4 r.time ++ [r.cause] ++ bytesOf 4 r.speed

/-- The last peer clear (R102). -/
def PeerClear.payload (r : PeerClear) : List Byte := bytesOf 4 r.sender.val ++ word4 r.time

/-- The payload of Read Turbine (R107). T_e, the speeds, station numbers and the further causes count take 4 bytes, since
chapter 5 states no width for them (R217). -/
def State.turbinePayload (s : State) : List Byte :=
  let t := s.tsv
  t.config.payload ++ bytesOf 4 t.effectiveTeeth
    ++ bytesOf 4 t.revolutionSpeed ++ bytesOf 4 t.toothSpeed ++ bytesOf 4 t.supervisedSpeed
    ++ flag1 t.revolutionReference.isSome ++ flag1 t.toothReference.isSome ++ flag1 t.stalled
    ++ t.overWindow.payload ++ t.wheelWindow.payload ++ flag1 t.wheelFaultFlag
    ++ flag1 t.latch ++ optional tripRecordWidth (t.record.map TripRecord.payload) ++ bytesOf 4 t.furtherCauses
    ++ optionalWord t.lastClear
    ++ flag1 t.viewActive ++ bytesOf 4 s.latchedPeers ++ optional 9 (t.onset.map Onset.payload)
    ++ optional 13 (t.lastPeerTrip.map PeerTrip.payload) ++ optional 8 (t.lastPeerClear.map PeerClear.payload)

/-- READ_TURBINE (R107). -/
def execReadTurbine (payload : List Byte) (s : State) : Outcome :=
  .next (s.request 0x07 .read [0] payload fun s => s.succeed s.turbinePayload)

/-! Read Heat (R121). -/

/-- A heat configuration, as Set Heat's payload (R217). -/
def HeatConfig.payload (c : HeatConfig) : List Byte :=
  bytesOf 2 c.volume ++ byte1 (channelByte c.supply) ++ byte1 (channelByte c.ret)
    ++ (c.kTable.toList.map (bytesOf 2)).flatten

/-- The last pulse record (R119). DESIGN CHOICE: of the row "Ts, Tr (optional)" each reading has a presence byte of its own
(notes/assumptions/9.md). -/
def PulseRecord.payload (r : PulseRecord) : List Byte :=
  word4 r.lineTime ++ byte1 r.cls.code ++ optionalNat 1 (r.reason.map UnmeteredReason.code)
    ++ optionalInt 4 r.supply ++ optionalInt 4 r.ret ++ optionalInt 4 r.delta ++ flag1 r.clamped
    ++ optionalInt 4 r.k ++ optionalNat 6 r.energy ++ optionalNat 4 r.carry

/-- The width of a last pulse record in bytes: line time, class, reason, Ts, Tr, ΔT, clamped, k, P and carry, the optional ones
with their presence bytes (R119, R217). -/
def pulseRecordWidth : Nat := 4 + 1 + 2 + 5 + 5 + 5 + 1 + 5 + 7 + 5

/-- The payload of Read Heat (R121). -/
def Hmt.payload (h : Hmt) : List Byte :=
  h.config.payload
    ++ bytesOf 5 h.forwardKj.toNat ++ bytesOf 4 h.forwardResidue
    ++ bytesOf 5 h.reverseKj.toNat ++ bytesOf 4 h.reverseResidue
    ++ bytesOf 6 h.totalVolume.toNat ++ bytesOf 6 h.unmeteredVolume.toNat
    ++ word4 h.forwardPulses ++ word4 h.reversePulses ++ word4 h.zeroPulses ++ word4 h.unmeteredPulses
    ++ flag1 h.clampFlag ++ flag1 h.forwardWrap ++ flag1 h.reverseWrap ++ flag1 h.volumeWrap ++ flag1 h.unmeteredMark
    ++ optional pulseRecordWidth (h.lastPulse.map PulseRecord.payload) ++ optionalWord h.lastClear

/-- READ_HEAT (R121). -/
def execReadHeat (payload : List Byte) (s : State) : Outcome :=
  .next (s.request 0x08 .read [0] payload fun s => s.succeed s.hmt.payload)

/-! Read Scaling (R143). -/

/-- A scaling configuration, as Set Scaling's payload (R217). -/
def ScalingConfig.payload (c : ScalingConfig) : List Byte :=
  bytesOf 2 c.lengthS ++ byte1 (channelByte c.hotIn) ++ byte1 (channelByte c.hotOut) ++ byte1 (channelByte c.pressure)
    ++ bytesOf 4 c.baseline ++ bytesOf 2 c.watchLimit ++ bytesOf 2 c.alarmLimit
    ++ signedBytes 4 c.pressureWatch ++ signedBytes 4 c.pressureAlarm
    ++ byte1 c.window ++ byte1 c.watchCount ++ byte1 c.alarmCount

/-- The open interval (R143). -/
def Interval.payload (i : Interval) : List Byte :=
  word4 i.opened ++ flag1 i.short ++ word4 i.nextBoundary ++ bytesOf 8 i.energy ++ word4 i.pulses

/-- An index history record (11.5). -/
def IndexRecord.record (r : IndexRecord) : List Byte :=
  word4 r.endTime
    ++ byte1 (flagNat r.watch + 2 * flagNat r.alarm + 4 * flagNat r.ua.isSome + 8 * flagNat r.pressure.isSome)
    ++ bytesOf 2 (indexField r.index) ++ bytesOf 4 (r.ua.getD 0) ++ signedBytes 4 (r.pressure.getD 0)

/-- The latest evaluation: the record's fields, the five means, the basis flag, the no-basis reason, ΔTm, S, the pulse count and
the kJ (R135). DESIGN CHOICE: the reason has a presence byte, and is 0 with a basis (notes/assumptions/9.md). -/
def Evaluation.payload (e : Evaluation) : List Byte :=
  e.record.record
    ++ optionalInt 4 e.hotIn ++ optionalInt 4 e.hotOut ++ optionalInt 4 e.coldIn ++ optionalInt 4 e.coldOut
    ++ optionalInt 4 e.record.pressure
    ++ flag1 e.noBasis.isNone ++ optionalNat 1 (e.noBasis.map NoBasis.code) ++ optionalInt 4 e.meanDifference
    ++ bytesOf 8 e.energy ++ word4 e.pulses ++ bytesOf 4 e.kilojoules

/-- The held UA and index with their end line time (R143). -/
def Held.payload (h : Held) : List Byte := bytesOf 4 h.ua ++ bytesOf 2 h.index ++ word4 h.endTime

/-- The optional held values; in an absent one the index takes its absence value and the rest is 0 (R215, R217). -/
def heldPayload (h : Option Held) : List Byte :=
  match h with
  | some h => flag1 true ++ h.payload
  | none => flag1 false ++ bytesOf 4 0 ++ bytesOf 2 (indexField none) ++ bytesOf 4 0

/-- The optional latest evaluation; in an absent one the index of its record, after the end line time and the flags, takes its
absence value and the rest is 0 (R215, R217). -/
def latestPayload (e : Option Evaluation) : List Byte :=
  match e with
  | some e => flag1 true ++ e.payload
  | none => flag1 false ++ bytesOf 5 0 ++ bytesOf 2 (indexField none) ++ List.replicate (8 + 5 * 5 + 1 + 2 + 5 + 8 + 4 + 4) 0

/-- The payload of Read Scaling (R143). -/
def Scw.payload (w : Scw) : List Byte :=
  w.config.payload ++ flag1 w.active ++ byte1 w.state.code ++ flag1 w.acknowledged
    ++ optional 21 (w.interval.map Interval.payload)
    ++ latestPayload w.latest ++ heldPayload w.held
    ++ listed (w.history.map IndexRecord.record)
    ++ bytesOf 4 w.watchesInWindow ++ bytesOf 4 w.alarmsInWindow
    ++ word2 w.shortCount ++ optionalWord w.lastShort

/-- READ_SCALING (R143). -/
def execReadScaling (payload : List Byte) (s : State) : Outcome :=
  .next (s.request 0x09 .read [0] payload fun s => s.succeed s.scw.payload)

/-! Read Windows (R171). -/

/-- A fixed window, in the sizes of Set Window's payload. -/
def FixedWindow.record (w : FixedWindow) : List Byte :=
  byte1 w.exponent ++ bytesOf 3 w.offset ++ bytesOf 3 w.length

/-- The own state field of an entry: its slot's state for an own entry (R152). -/
def State.entryState (s : State) (c : Claim) : Nat :=
  match slotNumbers.find? (s.isOwnEntry · c) with
  | some k => (s.slotState k).entryCode
  | none => 0

/-- A claim entry (11.5). -/
def State.claimRecord (s : State) (c : Claim) : List Byte :=
  byte1 (c.station.val + 16 * c.slot.val) ++ byte1 (c.unit.val + 4 * flagNat c.firm + 16 * s.entryState c)
    ++ word4 c.start ++ bytesOf 2 c.length

/-- The waiting reason, of a WAITING slot. -/
def SlotState.reasonBytes : SlotState → List Byte
  | .waiting reason => byte1 reason.code
  | .free | .announced | .settling _ | .firm | .started => []

/-- The own entry's start and length, of a slot that holds one; chapter 8 states no width for a length (R217). -/
def State.entryBytes (s : State) (k : SlotNo) : List Byte :=
  if (s.slotState k).entryCode = 0 then []
  else
    match s.ownEntry? k with
    | some c => word4 c.start ++ bytesOf 4 c.length
    | none => List.replicate 8 0

/-- The settle timer of a slot runs (R152). -/
def SlotState.settles : SlotState → Bool
  | .settling _ => true
  | .free | .waiting _ | .announced | .firm | .started => false

/-- A slot as Read Windows carries it (R171); chapter 8 states no width for a unit (R217). -/
def State.slotPayload (s : State) (k : SlotNo) : List Byte :=
  let x := s.spl.slots[k]
  byte1 x.state.code ++
    if x.state = .free then []
    else
      bytesOf 4 x.unit.val ++ optionalWord x.earliest ++ bytesOf 4 x.withdrawals ++ x.state.reasonBytes ++ s.entryBytes k
        ++ flag1 x.state.settles

/-- The payload of Read Windows (R171). -/
def State.windowsPayload (s : State) : List Byte :=
  listed (s.spl.windows.map FixedWindow.record) ++ listed (s.spl.claims.map s.claimRecord)
    ++ s.slotPayload 0 ++ s.slotPayload 1 ++ flag1 s.spl.tripHold ++ flag1 s.spl.scalingHold ++ bytesOf 4 s.planLead

/-- READ_WINDOWS (R171). -/
def execReadWindows (payload : List Byte) (s : State) : Outcome :=
  .next (s.request 0x0A .read [0] payload fun s => s.succeed s.windowsPayload)

/-! Read Unit (R193). -/

/-- A unit's configuration, as Set Unit's payload less the unit (R217). -/
def UnitConfig.payload (c : UnitConfig) : List Byte :=
  byte1 (flagNat c.scalingBound + 2 * flagNat c.shedEnable) ++ bytesOf 2 c.windowLength ++ bytesOf 4 c.catchUp
    ++ bytesOf 2 c.shedBaseMs ++ bytesOf 2 c.shedStepMs ++ bytesOf 2 c.unitGapMs

/-- An edge definition, as Set Edge's payload less the unit, with its origin and cumulative offset (R193). -/
def SwUnit.defPayload (u : SwUnit) (d : DefNo) : List Byte :=
  let x := u.defs[d]
  byte1 d.val ++ byte1 (flagNat x.enabled + 2 * flagNat x.high) ++ byte1 x.output.val ++ byte1 x.basis.code
    ++ bytesOf 3 x.offset ++ byte1 (u.origin d).code ++ bytesOf 4 (u.cumulativeOffset d)

/-- An edge queue entry (11.5). -/
def Edge.record (e : Edge) : List Byte :=
  word2 e.sequence ++ byte1 (e.output.val + 8 * flagNat e.high + 16 * e.origin.code) ++ word4 e.due
    ++ word2 e.startNumber

/-- The last late edge record (R186); chapter 9 states no width for an output (R217). -/
def LateEdge.payload (l : LateEdge) : List Byte :=
  word2 l.edge.sequence ++ bytesOf 4 l.edge.output.val ++ flag1 l.edge.high ++ byte1 l.edge.origin.code
    ++ word2 l.edge.startNumber ++ signedBytes 4 l.lateness ++ flag1 l.lateStop

/-- The rank and t_trip of the last onset taken (R193). -/
def UnitOnset.payload (o : UnitOnset) : List Byte := bytesOf 4 o.rank ++ word4 o.time

/-- The payload of Read Unit (R193). -/
def State.unitPayload (s : State) (n : UnitNo) : List Byte :=
  let u := s.units[n]
  u.config.payload ++ (defNumbers.map u.defPayload).flatten ++ flag1 u.configured
    ++ byte1 u.state.code ++ word2 u.startNumber ++ flag1 u.edgeMark ++ flag1 u.tripFlag
    ++ listed (u.queue.map Edge.record)
    ++ word2 u.written ++ word2 u.outputCount ++ word2 u.discarded ++ word2 u.lateCount
    ++ optional 15 (u.lastLate.map LateEdge.payload) ++ optional 8 (u.lastOnset.map UnitOnset.payload)
    ++ (s.outputs.toList.map flag1).flatten

/-- READ_UNIT (R193). -/
def execReadUnit (payload : List Byte) (s : State) : Outcome :=
  .next (s.request 0x0B .read [1] payload fun s =>
    s.ranged (index? 4 (fieldNat payload 0 1)) fun n => s.succeed (s.unitPayload n))

/-! Read Watch (R211). -/

/-- The kind code of a watch list item (11.3). -/
def WatchItem.kind : WatchItem → Nat
  | .lineTime => 0
  | .joined => 1
  | .supervisedSpeed => 2
  | .tripLatch => 3
  | .tripView => 4
  | .forwardKj => 5
  | .reverseKj => 6
  | .totalVolume => 7
  | .heldIndex => 8
  | .heldUa => 9
  | .scalingState => 10
  | .latestSetValue _ => 11
  | .masterCount _ => 12
  | .unitState _ => 13
  | .attentionPending => 14

/-- The subject byte of a watch list item, 0xFF for none (R217). -/
def WatchItem.subject : WatchItem → Nat
  | .latestSetValue c => c.val
  | .masterCount u => u.val
  | .unitState u => u.val
  | .lineTime | .joined | .supervisedSpeed | .tripLatch | .tripView | .forwardKj | .reverseKj | .totalVolume
  | .heldIndex | .heldUa | .scalingState | .attentionPending => 0xFF

/-- The value of a watch list item, from its owner (R210). -/
def State.watchValue (s : State) : WatchItem → List Byte
  | .lineTime => word4 s.now
  | .joined => flag1 s.tmu.joined
  | .supervisedSpeed => bytesOf 4 s.tsv.supervisedSpeed
  | .tripLatch => flag1 s.tsv.latch
  | .tripView => flag1 s.tsv.viewActive
  | .forwardKj => bytesOf 5 s.hmt.forwardKj.toNat ++ flag1 s.hmt.forwardWrap
  | .reverseKj => bytesOf 5 s.hmt.reverseKj.toNat ++ flag1 s.hmt.reverseWrap
  | .totalVolume => bytesOf 6 s.hmt.totalVolume.toNat ++ flag1 s.hmt.volumeWrap
  | .heldIndex => bytesOf 2 (indexField (s.scw.held.map (·.index)))
  | .heldUa => optionalNat 4 (s.scw.held.map (·.ua))
  | .scalingState => byte1 s.scw.state.code ++ flag1 s.scw.acknowledged
  | .latestSetValue c => optionalInt 4 s.channels[c].latest ++ flag1 s.channels[c].latestSaturated
  | .masterCount u => word2 s.captures[u].masterCount
  | .unitState u => byte1 s.units[u].state.code
  | .attentionPending => bytesOf 4 s.attention.length

/-- A value of Read Watch with its kind and subject (R217). -/
def State.watchRecord (s : State) (item : WatchItem) : List Byte :=
  byte1 item.kind ++ byte1 item.subject ++ s.watchValue item

/-- The n items from position p on, wrapping at the end of the list (R211). -/
def watchItems (items : List WatchItem) (p n : Nat) : List WatchItem :=
  (List.range n).filterMap fun i => items[(p + i) % items.length]?

/-- READ_WATCH (R211). -/
def execReadWatch (payload : List Byte) (s : State) : Outcome :=
  .next (s.request 0x0C .read [2] payload fun s =>
    let items := s.svp.watchList
    let p := fieldNat payload 0 1
    let n := fieldNat payload 1 1
    if within 1 16 n && (items.isEmpty || p < items.length) then
      s.succeed (listed ((watchItems items p n).map s.watchRecord))
    else s.refuse .range)

end Sys2Proof.Machine
end

