-- ==== Sys2Proof/Machine/Configure.lean ====
section
/-! DEFINITION. The configuration requests and Start Station (10.4, 10.5): the twelve requests that are taken in CONFIG
alone. -/

namespace Sys2Proof.Machine

/-! Set Station (R204). -/

/-- A row whose elapsed time already reaches four new beacon periods falls silent when the change is taken (R22). -/
def State.silenceCheck (s : State) (n : StationNo) : State := if s.silenceIsDue n then s.fallSilent n else s

/-- Set Station is taken: the parameters at once, and the silence comparison with the new beacon period (R22, R204). -/
def State.setStation (s : State) (c : StationConfig) : State :=
  s.peerNumbers.foldl State.silenceCheck { s with config := c }

/-- SET_STATION (R204). -/
def execSetStation (payload : List Byte) (s : State) : Outcome :=
  .next (s.request 0x40 .configuration [12] payload fun s =>
    s.ranged (stationOf payload) fun c => (s.setStation c).succeed [])

/-! The blocks' configurations. -/

/-- SET_CHANNEL (R59). -/
def execSetChannel (payload : List Byte) (s : State) : Outcome :=
  .next (s.request 0x41 .configuration [18] payload fun s =>
    s.ranged (channelOf payload) fun (c, config) =>
      (s.putChannel c { s.channels[c] with config := config }).succeed [])

/-- SET_GROUP (R60). -/
def execSetGroup (payload : List Byte) (s : State) : Outcome :=
  .next (s.request 0x42 .configuration [4] payload fun s =>
    s.ranged (groupOf payload) fun (g, period, mark) =>
      (s.putGroup g { s.groups[g] with periodMs := period, ringMark := mark }).succeed [])

/-- Another unit already holds a mode that one unit at most may hold (R87). -/
def State.modeTaken (s : State) (u : CaptureNo) (mode : CaptureMode) : Bool :=
  mode.single && captureNumbers.any fun v => v != u && s.captures[v].config.mode = mode

/-- SET_CAPTURE (R86, R87). -/
def execSetCapture (payload : List Byte) (s : State) : Outcome :=
  .next (s.request 0x43 .configuration [7] payload fun s =>
    s.ranged (captureOf payload) fun (u, config) =>
      if s.modeTaken u config.mode then s.refuse .range
      else (s.putCapture u { s.captures[u] with config := config }).succeed [])

/-- SET_TURBINE (R106). -/
def execSetTurbine (payload : List Byte) (s : State) : Outcome :=
  .next (s.request 0x44 .configuration [10] payload fun s =>
    s.ranged (turbineOf payload) fun config => (s.putTsv { s.tsv with config := config }).succeed [])

/-- SET_HEAT (R120). -/
def execSetHeat (payload : List Byte) (s : State) : Outcome :=
  .next (s.request 0x45 .configuration [36] payload fun s =>
    s.ranged (heatConfigOf payload) fun config => (s.putHmt { s.hmt with config := config }).succeed [])

/-- SET_SCALING (R142). -/
def execSetScaling (payload : List Byte) (s : State) : Outcome :=
  .next (s.request 0x46 .configuration [24] payload fun s =>
    s.ranged (scalingConfigOf payload) fun config => (s.putScw { s.scw with config := config }).succeed [])

/-! Set Window (R146). -/

/-- The granules in a window's period, 2^(p − 10) (R145). -/
def FixedWindow.periodGranules (w : FixedWindow) : Nat := 2 ^ (w.exponent - 10)

/-- Two windows of one period share a granule (R146). -/
def FixedWindow.clashes (w v : FixedWindow) : Bool :=
  w.exponent = v.exponent && w.offset < v.offset + v.length && v.offset < w.offset + w.length

/-- The first check that refuses a window, in the order of R146's list. -/
def State.windowRefusal? (s : State) (w : FixedWindow) : Option Status :=
  if !within 20 31 w.exponent then some .periodRange
  else if w.length = 0 then some .lengthZero
  else if w.periodGranules < w.offset + w.length then some .exceedsPeriod
  else if s.spl.windows.any w.clashes then some .overlap
  else if Config.fixedWindowPlaces ≤ s.spl.windows.length then some .noFreeWindow
  else none

/-- The add form of Set Window: the window enters at the lowest free index, which the reply carries (R146). -/
def State.addWindow (s : State) (w : FixedWindow) : Answer :=
  match s.windowRefusal? w with
  | some status => s.refuse status
  | none =>
    (s.putSpl { s.spl with windows := s.spl.windows ++ [w] }).succeed (bytesOf 4 s.spl.windows.length)

/-- The clear form of Set Window: the table is empty (R146). -/
def State.clearWindows (s : State) : Answer := (s.putSpl { s.spl with windows := [] }).succeed []

/-- SET_WINDOW: LENGTH 7 is the add form and LENGTH 0 the clear form (R146, R216). -/
def execSetWindow (payload : List Byte) (s : State) : Outcome :=
  .next (s.request 0x47 .configuration [0, 7] payload fun s =>
    if payload.isEmpty then s.clearWindows else s.addWindow (windowOf payload))

/-- SET_WINDOW_CLEAR: the clear form (R146). -/
def execSetWindowClear (s : State) : Outcome :=
  .next (s.request 0x47 .configuration [0, 7] [] State.clearWindows)

/-! Set Unit and Set Edge (R175, R176). -/

/-- SET_UNIT (R176). -/
def execSetUnit (payload : List Byte) (s : State) : Outcome :=
  .next (s.request 0x48 .configuration [14] payload fun s =>
    s.ranged (unitOf payload) fun (n, config) => (s.putUnit n { s.units[n] with config := config }).succeed [])

/-- An output is owned by a unit: an enabled definition of it names the output (R173). -/
def SwUnit.owns (u : SwUnit) (o : OutputNo) : Bool := defNumbers.any fun d => u.defs[d].enabled && u.defs[d].output = o

/-- An enabled definition would give its output a second owner (R175). -/
def State.ownedElsewhere (s : State) (n : UnitNo) (d : EdgeDef) : Bool :=
  d.enabled && unitNumbers.any fun m => m != n && s.units[m].owns d.output

/-- SET_EDGE (R175). -/
def execSetEdge (payload : List Byte) (s : State) : Outcome :=
  .next (s.request 0x49 .configuration [8] payload fun s =>
    s.ranged (edgeOf payload) fun (n, place, d) =>
      if s.ownedElsewhere n d then s.refuse .range
      else (s.putUnit n { s.units[n] with defs := s.units[n].defs.set place d }).succeed [])

/-! Set Watch List (R210). -/

/-- The LENGTHs that Set Watch List takes: every even one from 0 to 32 (R216). -/
def watchListLengths : List Nat := (List.range 17).map (2 * ·)

/-- SET_WATCH_LIST (R210). -/
def execSetWatchList (payload : List Byte) (s : State) : Outcome :=
  .next (s.request 0x4A .configuration watchListLengths payload fun s =>
    s.ranged (itemsOf payload) fun items => (s.putSvp { s.svp with watchList := items }).succeed [])

/-! Start Station (R205, R206). -/

/-- A channel is enabled and a member of a group (R205). -/
def State.grouped (s : State) (c : ChannelNo) : Bool := s.channels[c].config.enabled && s.channels[c].config.group.isSome

/-- The channels of check 1 with their places, in the order in which they are taken (R205). -/
def State.boundChannels (s : State) : List (Nat × Option ChannelNo) :=
  [(0, s.hmt.config.supply), (1, s.hmt.config.ret), (2, s.scw.config.hotIn), (3, s.scw.config.hotOut)]
    ++ if s.scw.config.pressure.isSome then [(4, s.scw.config.pressure)] else []

/-- A channel of check 1 that is not configured, or not grouped (R205). -/
def State.unbound (s : State) (c : Option ChannelNo) : Bool := !c.any s.grouped

/-- A refusal of Start Station: the code, the failing check and its subject (R205, 11.4). -/
structure StartFailure where
  status : Status
  check : Nat
  subject : Nat
  deriving DecidableEq, Repr

/-- Check 1 (R205). -/
def State.checkChannels (s : State) : Option StartFailure :=
  if s.config.roles.exchange then
    (s.boundChannels.find? fun x => s.unbound x.2).map fun x =>
      { status := .unbound, check := 1, subject := 16 * x.1 + (x.2.map Fin.val).getD 0xF }
  else none

/-- Some capture unit is in a mode (R205). -/
def State.hasMode (s : State) (mode : CaptureMode) : Bool := captureNumbers.any fun u => s.captures[u].config.mode = mode

/-- Check 2; its subject is the bit of the role TURBINE (R205, 11.4). -/
def State.checkSpeed (s : State) : Option StartFailure :=
  if s.config.roles.turbine && !s.hasMode .speed then some { status := .unbound, check := 2, subject := 2 } else none

/-- Check 3; its subject is the bit of the role EXCHANGE (R205, 11.4). -/
def State.checkTotaliser (s : State) : Option StartFailure :=
  if s.config.roles.exchange && !s.hasMode .totaliser then some { status := .unbound, check := 3, subject := 4 }
  else none

/-- Check 4: the lowest-numbered invalid unit and its failing condition (R205, 11.4). -/
def State.checkUnits (s : State) : Option StartFailure :=
  unitNumbers.findSome? fun n => (s.units[n].invalid?).map fun condition =>
    { status := .range, check := 4, subject := n.val + 16 * condition }

/-- The first check of Start Station that fails (R205). -/
def State.startFailure? (s : State) : Option StartFailure :=
  (s.checkChannels.or s.checkSpeed).or (s.checkTotaliser.or s.checkUnits)

/-- The time unit at the entry to RUN (R36, R42, R206). -/
def Tmu.entered (t : Tmu) : Tmu :=
  { t with beaconTimer := some t.localCount, joinTimer := if t.joined then none else some t.localCount }

/-- A group with members opens its first set, marked short (R61, R206). -/
def State.enterGroup (s : State) (g : GroupNo) : State :=
  if (s.members g).isEmpty then s
  else
    s.putGroup g { s.groups[g] with openSet := some (openSetAt (s.members g) s.groups[g].periodUs s.now true) }

/-- A unit with a mode other than OFF starts; a poll unit's poll timer starts (R84, R206). -/
def Capture.entered (u : Capture) (count : Count) : Capture :=
  if u.config.mode = .off then u
  else { u with running := true, pollTimer := if u.config.polls then some count else none }

/-- A capture unit at the entry to RUN (R206). -/
def State.enterCapture (s : State) (u : CaptureNo) : State := s.putCapture u (s.captures[u].entered s.count)

/-- T_e: the configured teeth when the SPEED unit has a slave source, and 0 otherwise (R90). -/
def State.teethAtRun (s : State) : Nat :=
  if captureNumbers.any fun u => s.captures[u].config.mode = .speed && s.captures[u].config.slave.isSome then
    s.tsv.config.teeth
  else 0

/-- The turbine supervisor at the entry to RUN (R90, R93, R206). -/
def State.enterTurbine (s : State) : State :=
  s.putTsv { s.tsv with
    effectiveTeeth := s.teethAtRun
    revolutionReference := none, toothReference := none
    overWindow := {}, wheelWindow := {}
    stallTimer := if s.hasMode .speed then some s.count else none }

/-- The scaling watch at the entry to RUN (R124, R206). -/
def State.enterWatch (s : State) : State :=
  if s.config.roles.exchange then
    s.putScw { s.scw with active := true, interval := some (openInterval s.scw.config s.now true) }
  else s

/-- The entry to RUN, delivered to every block (R206). -/
def State.enterRun (s : State) : State :=
  let s := s.putSvp { s.svp with station := .run }
  let s := { (s.putTmu s.tmu.entered).queueNotice .time with awaitMclk := true }
  let s := groupNumbers.foldl State.enterGroup s
  let s := s.putPulses s.pulses.entered
  (captureNumbers.foldl State.enterCapture s).enterTurbine.enterWatch

/-- Start Station (R205). -/
def State.startStation (s : State) : Answer :=
  match s.startFailure? with
  | some f => (s, { status := f.status, payload := byte1 f.check ++ byte1 f.subject })
  | none =>
    let t := s.enterRun
    t.succeed (word4 t.now ++ flag1 t.tmu.joined)

/-- START_STATION (R205). -/
def execStartStation (payload : List Byte) (s : State) : Outcome :=
  .next (s.request 0x4B .configuration [0] payload State.startStation)

end Sys2Proof.Machine
end

