-- ==== Sys2Proof/Machine/Reset.lean ====
section
/-! DEFINITION. Resets and the boot check (10.3). The meanings of POWER_ON, RESET_PIN, SERVICE_BREAK and BOOT_CHECK_END. -/

namespace Sys2Proof.Machine

/-- A reset: every block at its reset state at the instant of the reset (R201). The waiting commands are the environment's
and stay. -/
def State.resetBy (s : State) (straps : StationNo) (cause : ResetCause) (armed : Bool) : State :=
  State.afterReset straps cause armed s.pending s.freeNext

/-- POWER_ON (R201). -/
def execPowerOn (straps : StationNo) (serviceHigh : Bool) (s : State) : Outcome :=
  .next (s.resetBy straps .powerOn serviceHigh)

/-- RESET_PIN: the pin is released; the cause is POWER_ON while a power-on reset is still in progress (R201). -/
def execResetPin (straps : StationNo) (serviceHigh powerOnInProgress : Bool) (s : State) : Outcome :=
  .next (s.resetBy straps (if powerOnInProgress then .powerOn else .resetPin) serviceHigh)

/-- The line can have been low for 100 ms: so long ago was it last known to be high, or did the last reset end (R200). -/
def State.breakIsDue (s : State) : Bool := Params.breakPeriods ≤ elapsed s.count s.svp.breakFrom

/-- SERVICE_BREAK: the line has been low for 100 ms with the measure armed. The line is low as the reset ends, so the
measure is not armed after it (R200, R201). -/
def execServiceBreak (straps : StationNo) (seenHigh : Bool) (s : State) : Outcome :=
  .next (if (s.svp.breakArmed || seenHigh) && s.breakIsDue then s.resetBy straps .serviceBreak false else s)

/-- The boot check passes: CONFIG, with the line interface enabled in WAIT_GAP and its idle measure from 0 on a line that
is high (R4, R30, R202). -/
def State.enterConfig (s : State) (lineHigh : Bool) : State :=
  (s.putSvp { s.svp with station := .config, bootResult := .passed }).putLif
    { s.lif with rx := .waitGap, quiet := none, idle := if lineHigh then .since s.count else .after s.count }

/-- The boot check fails: FAULT, with BOOT_FAULT pending (R202, R203). -/
def State.enterFault (s : State) : State :=
  (s.putSvp { s.svp with station := .fault, bootResult := .failed }).raise .bootFault

/-- The boot check has lasted its 3 ms on the local count, which runs from 0 at the reset (R202). -/
def State.bootIsDue (s : State) : Bool := s.svp.station = .boot && Params.bootPeriods ≤ s.count.toNat

/-- BOOT_CHECK_END (R202). The result and the level of the line are the command's, and free values in the one that the part
brings by itself (notes/assumptions/10.md). -/
def execBootCheckEnd (passed lineHigh : Bool) (s : State) : Outcome :=
  let t := { s with freeNext := s.freeNext + 1 }
  .next (if !s.bootIsDue then s else if passed then t.enterConfig lineHigh else t.enterFault)

end Sys2Proof.Machine
end

