-- ==== Sys2Proof/Machine/RunRequests.lean ====
section
/-! DEFINITION. The run requests and Clear Attention: START_PUMP, STOP_PUMP, TRIP, RESET_TRIP, ACK_SCALING,
CAPTURE_BASELINE, CLEAR_HEAT and CLEAR_ATTENTION. -/

namespace Sys2Proof.Machine

/-! Start Pump (R153). -/

/-- A payload's optional line time, present when its LENGTH is 5 (R216). -/
def timeField? (payload : List Byte) : Option LineTime :=
  if payload.length = 5 then some (BitVec.ofNat 32 (fieldNat payload 1 4)) else none

/-- A line time lies more than 600,000,000 µs ahead (R153, R183). -/
def State.tooFarAhead (s : State) (t : Option LineTime) : Bool :=
  t.any fun t => laterBeyond t s.now Params.furthestAhead

/-- The lower-numbered FREE slot (R153). -/
def State.freeSlot? (s : State) : Option SlotNo := slotNumbers.find? fun k => s.slotState k = .free

/-- The first refusal of Start Pump that applies, once the unit is in range (R153). -/
def State.startRefusal? (s : State) (u : UnitNo) (earliest : Option LineTime) : Option Status :=
  if !s.units[u].configured || s.tooFarAhead earliest then some .range
  else if s.units[u].active || (s.servingSlot? u).isSome then some .busy
  else if s.freeSlot?.isNone then some .noSlot
  else none

/-- The reply of Start Pump: the slot, its state, and a reason or a planned start and length (R153). -/
def State.startReply (s : State) (k : SlotNo) : List Byte :=
  bytesOf 4 k.val ++ byte1 (s.slotState k).code ++ (s.slotState k).reasonBytes ++ s.entryBytes k

/-- A slot is taken for a unit and planned (R153). -/
def State.takeSlot (s : State) (k : SlotNo) (u : UnitNo) (earliest : Option LineTime) : State :=
  (s.putSlot k { state := .waiting .noWindow, unit := u, earliest := s.openEarliest earliest,
                 withdrawals := 0 }).planSlot k

/-- Start Pump of a unit in range (R153). -/
def State.startPump (s : State) (u : UnitNo) (earliest : Option LineTime) : Answer :=
  match s.startRefusal? u earliest, s.freeSlot? with
  | some status, _ => s.refuse status
  | none, some k =>
    let t := s.takeSlot k u earliest
    t.succeed (t.startReply k)
  | none, none => s.refuse .noSlot

/-- START_PUMP (R153). -/
def execStartPump (payload : List Byte) (s : State) : Outcome :=
  .next (s.request 0x20 .run [1, 5] payload fun s =>
    s.ranged (index? 4 (fieldNat payload 0 1)) fun u => s.startPump u (timeField? payload))

/-! Stop Pump (R154, R183). -/

/-- WAITING, ANNOUNCED or SETTLING: a claim that a Stop Pump abandons (R154). -/
def SlotState.abandonable : SlotState → Bool
  | .waiting _ | .announced | .settling _ => true
  | .free | .firm | .started => false

/-- The stop time that a Stop Pump uses (R183). -/
def State.stopTime (s : State) (time : Option LineTime) : LineTime := (s.openEarliest time).getD s.now

/-- The reply of a stop that a unit has written: its state, the stop time used, the start entries discarded and the stop
entries written (R183). -/
def State.stopReply (s : State) (n : UnitNo) (time : LineTime) (discarded written : Nat) : List Byte :=
  byte1 s.units[n].state.code ++ word4 time ++ bytesOf 4 discarded ++ bytesOf 4 written

/-- Stop Pump reaches a unit (R183). -/
def State.stopUnit (s : State) (n : UnitNo) (time : Option LineTime) : Answer :=
  let u := s.units[n]
  if s.tooFarAhead time then s.refuse .range
  else
    match u.state with
    | .idle => s.refuse .notActive
    | .stopping => s.refuse .busy
    | .starting | .running =>
      let stop := s.stopTime time
      let t := s.writeStop n stop
      t.succeed (t.stopReply n stop (u.queue.filter (·.origin = .start)).length (u.defsOf .stop).length)

/-- The slot whose pending claim a Stop Pump of a unit abandons (R154). -/
def State.abandonSlot? (s : State) (u : UnitNo) : Option SlotNo :=
  (s.servingSlot? u).filter fun k => (s.slotState k).abandonable

/-- Stop Pump of a unit in range: the planner or the unit answers (R154, R183). -/
def State.stopPump (s : State) (u : UnitNo) (time : Option LineTime) : Answer :=
  match s.abandonSlot? u with
  | some k => (s.abandon k).succeed (flag1 true)
  | none => s.stopUnit u time

/-- STOP_PUMP (R154, R183). -/
def execStopPump (payload : List Byte) (s : State) : Outcome :=
  .next (s.request 0x21 .run [1, 5] payload fun s =>
    s.ranged (index? 4 (fieldNat payload 0 1)) fun u => s.stopPump u (timeField? payload))

/-! Trip and Reset Trip (R99, R100). -/

/-- Trip is carried out; the reply says whether it latched and carries the trip record (R99). -/
def State.hostTrip (s : State) (order : List Dependant) : Answer :=
  let t := s.tripCause .host s.tsv.supervisedSpeed order
  t.succeed (flag1 (!s.tsv.latch) ++ optional tripRecordWidth (t.tsv.record.map TripRecord.payload))

/-- TRIP (R99). -/
def execTrip (payload : List Byte) (order : List Dependant) (s : State) : Outcome :=
  .next (s.request 0x22 .run [0] payload fun s => s.hostTrip order)

/-- Reset Trip (R100). -/
def State.resetTrip (s : State) : Answer :=
  if !s.tsv.latch then s.refuse .notTripped
  else if s.tsv.config.resetLimit ≤ s.tsv.supervisedSpeed then s.refuse .speedHigh
  else (s.resetLatch []).succeed []

/-- RESET_TRIP (R100). -/
def execResetTrip (payload : List Byte) (s : State) : Outcome :=
  .next (s.request 0x23 .run [0] payload State.resetTrip)

/-! Ack Scaling and Capture Baseline (R140, R141). -/

/-- Ack Scaling (R140). -/
def State.ackScaling (s : State) : Answer :=
  if s.scw.state != .alarm then s.refuse .notAlarm
  else if s.scw.acknowledged then s.succeed []
  else
    let t := s.putScw { s.scw with acknowledged := true }
    (t.queueScale (t.scw.latest.bind (·.record.index)) t.now).succeed []

/-- ACK_SCALING (R140). -/
def execAckScaling (payload : List Byte) (s : State) : Outcome :=
  .next (s.request 0x24 .run [0] payload State.ackScaling)

/-- Capture Baseline (R141). -/
def State.captureBaseline (s : State) : Answer :=
  match s.scw.latest.bind fun e => if e.noBasis.isSome then none else e.record.ua with
  | none => s.refuse .noBasis
  | some ua =>
    if !within 1 Params.greatestBaseline ua then s.refuse .range
    else
      (s.putScw { s.scw with config := { s.scw.config with baseline := ua } }).succeed
        (bytesOf 4 s.scw.config.baseline ++ bytesOf 4 ua)

/-- CAPTURE_BASELINE (R141). -/
def execCaptureBaseline (payload : List Byte) (s : State) : Outcome :=
  .next (s.request 0x25 .run [0] payload State.captureBaseline)

/-! Clear Heat (R122). -/

/-- The heat meter after Clear Heat at a line time: configuration and last pulse record stay (R122). -/
def Hmt.cleared (h : Hmt) (t : LineTime) : Hmt := { config := h.config, lastPulse := h.lastPulse, lastClear := some t }

/-- Clear Heat; the reply carries the totals as they stood, in the form of Read Heat (R122). DESIGN CHOICE: the whole reply is as
before the clear, with the flags, the mark and the last Clear Heat line time as they stood (notes/assumptions/37.md). -/
def State.clearHeat (s : State) : Answer := (s.putHmt (s.hmt.cleared s.now)).succeed s.hmt.payload

/-- CLEAR_HEAT (R122). -/
def execClearHeat (payload : List Byte) (s : State) : Outcome :=
  .next (s.request 0x26 .run [0] payload State.clearHeat)

/-! Clear Attention (R209). -/

/-- A pending cause is named by a kind mask and a subject mask (R209). -/
def Cause.named (c : Cause) (kinds subjects : Nat) : Bool := bit kinds c.kind && c.subject.all (bit subjects ·)

/-- The flag that goes with a cleared cause (R209). -/
def State.clearFlag (s : State) (c : Cause) : State :=
  match c with
  | .saturation n => s.putChannel n { s.channels[n] with saturationFlag := false }
  | .guardLimit n => s.putChannel n { s.channels[n] with guardLimitFlag := false }
  | .wheelFault => s.putTsv { s.tsv with wheelFaultFlag := false }
  | .duplicateStation | .lineJammed | .peerSilent _ | .largeStep | .strayPeer _ | .ringOverrun _ | .ringMark _ | .stall
  | .trip | .peerTrip _ | .unmetered | .scaleChange | .claimFailed _ | .startOverlap _ | .edgeLate _ | .startAborted _
  | .startMissed _ | .bootFault => s

/-- The named causes leave the attention set, each with its flag (R209). -/
def State.clearCauses (s : State) (kinds subjects : Nat) : State :=
  let named := fun p : Pending => p.cause.named kinds subjects
  (s.attention.filter named).foldl (fun s p => s.clearFlag p.cause)
    { s with attention := s.attention.filter (!named ·) }

/-- Clear Attention with its masks; a kind mask that names BOOT_FAULT or no kind is refused (R209, R216). -/
def State.clearAttention (s : State) (kinds subjects : Nat) : Answer :=
  if 2 ^ 21 ≤ kinds then s.refuse .range
  else
    let t := s.clearCauses kinds subjects
    t.succeed t.attentionPayload

/-- CLEAR_ATTENTION (R209). -/
def execClearAttention (payload : List Byte) (s : State) : Outcome :=
  .next (s.request 0x27 .clearAttention [6] payload fun s =>
    s.clearAttention (fieldNat payload 0 4) (fieldNat payload 4 2))

end Sys2Proof.Machine
end

