-- ==== Sys2Proof/Machine/Clock.lean ====
section
/-! DEFINITION. The clock: one period of the local count, and the part's own events that it makes due. The table has no row
for a period: it is what a step does when no command waits (notes/assumptions/7.md). -/

namespace Sys2Proof.Machine

/-- The line interface when the local count takes a new value: the idle measure and the quiet moment are held at most 2^31
periods back (R4, R23, notes/assumptions/22.md). -/
def Lif.aged (l : Lif) (count : Count) : Lif :=
  { l with idle := l.idle.aged count, quiet := l.quiet.map (heldBack count) }

/-- The service port when the local count takes a new value: its measures are held at most 2^31 periods back. -/
def Svp.aged (p : Svp) (count : Count) : Svp :=
  { p with idle := p.idle.aged count, breakFrom := heldBack count p.breakFrom }

/-- One period of 1/8 µs passes: the local count counts it, line time counts every eighth, and the pulse inputs stand before
their next sample (R32, R33, R73). -/
def State.advance (s : State) : State :=
  let count := s.tmu.localCount + 1
  let line := if count.toNat % Params.perMicrosecond = 0 then s.tmu.lineTime + 1 else s.tmu.lineTime
  (((s.putTmu { s.tmu with localCount := count, lineTime := line }).putLif (s.lif.aged count)).putSvp
    (s.svp.aged count)).putPulses s.pulses.next

/-- A command, when its event is due. -/
def dueIf (due : Bool) (c : Instr) : List Instr := if due then [c] else []

/-- The timed events of one peer row (R22). -/
def State.dueInRow (s : State) (n : StationNo) : List Instr :=
  dueIf (s.silenceIsDue n) (.peerSilence n) ++ dueIf (s.silenceStopIsDue n) (.silenceTimerStop n)

/-- The part's own timed events that are due, each by the condition its meaning checks, in the table's order. Events that
come at one moment have no order in the spec (notes/assumptions/7.md). -/
def State.dueEvents (s : State) : List Instr :=
  dueIf s.bootIsDue (.bootCheckEnd (Config.bootPasses s.freeNext) (Config.lineHighAfterBoot s.freeNext))
    ++ (List.finRange 16).flatMap s.dueInRow
    ++ dueIf s.beaconIsDue .beacon
    ++ dueIf s.joinIsDue .joinTimerExpiry
    ++ groupNumbers.flatMap (fun g => dueIf (s.setIsDue g) (.setBoundary g))
    ++ captureNumbers.flatMap (fun u => dueIf (s.pollIsDue u) (.pollTimerExpiry u))
    ++ dueIf (s.referenceIsOld .revolution) (.referenceAgeing .revolution)
    ++ dueIf (s.referenceIsOld .tooth) (.referenceAgeing .tooth)
    ++ dueIf s.stallIsDue .stall
    ++ dueIf s.intervalDue .intervalBoundary
    ++ slotNumbers.flatMap (fun k => dueIf (s.inRun && s.ownStartDue k) (.ownStartReached k))
    ++ dueIf s.expiryDue .entryExpiry
    ++ slotNumbers.flatMap (fun k => dueIf (s.settleDue k) (.settleTimerExpiry k))
    ++ unitNumbers.flatMap (fun u => dueIf (s.edgeIsDue u) (.edgeDue u))

/-- The edges of this period's sample that running units have not taken: each source that names an input and an edge of it
receives the edge (R73). They have no order in the spec (notes/assumptions/20.md). -/
def State.owedEdges (s : State) : List Instr :=
  let sample := s.pulses.now.getD 0
  captureNumbers.flatMap fun u =>
    dueIf (s.slaveEdgeWaits u) (.slaveEdge u ⟨sample, []⟩) ++ dueIf (s.masterEdgeWaits u) (.masterEdge u ⟨sample, []⟩)

/-- The end of a notice in flight that its read-back has settled: a collision, or the frame sent whole (R24, R25). -/
def State.owedEnd (s : State) : List Instr := dueIf s.flightCollided .collision ++ dueIf s.sentWhole .noticeSentWhole

/-- What is to be taken before the period may end: the end of the notice in flight, and the edges still owed to a unit. -/
def State.owed (s : State) : List Instr := s.owedEnd ++ s.owedEdges

/-- What a step does when no command waits: what is owed in this period waits, or, when nothing is owed, one period passes
and the timed events that are due then wait. -/
def State.tick (s : State) : State :=
  if s.owed.isEmpty then
    let t := s.advance
    { t with pending := t.dueEvents }
  else { s with pending := s.owed }

end Sys2Proof.Machine
end

