-- ==== Sys2Proof/Machine/Dispatch.lean ====
section
/-! DEFINITION. The dispatch: one arm for each command, each one call of its meaning. -/

namespace Sys2Proof.Machine

/-- The effect of a command on everything but the queue of waiting commands. -/
def exec (i : Instr) (s : State) : Host.Outcome State Fault Refusal :=
  match i with
  | .powerOn straps serviceHigh => Sys2Proof.Machine.execPowerOn straps serviceHigh s
  | .resetPin straps serviceHigh powerOnInProgress => Sys2Proof.Machine.execResetPin straps serviceHigh powerOnInProgress s
  | .serviceBreak straps seenHigh => Sys2Proof.Machine.execServiceBreak straps seenHigh s
  | .bootCheckEnd passed lineHigh => Sys2Proof.Machine.execBootCheckEnd passed lineHigh s
  | .characterError stopBit => Sys2Proof.Machine.execCharacterError stopBit s
  | .longFrame length => Sys2Proof.Machine.execLongFrame length s
  | .gap => Sys2Proof.Machine.execGap s
  | .quietMoment => Sys2Proof.Machine.execQuietMoment s
  | .frameReceived check order => Sys2Proof.Machine.execFrameReceived check order s
  | .noticeStart => Sys2Proof.Machine.execNoticeStart s
  | .collision => Sys2Proof.Machine.execCollision s
  | .noticeSentWhole => Sys2Proof.Machine.execNoticeSentWhole s
  | .peerSilence station => Sys2Proof.Machine.execPeerSilence station s
  | .silenceTimerStop station => Sys2Proof.Machine.execSilenceTimerStop station s
  | .beacon => Sys2Proof.Machine.execBeacon s
  | .joinTimerExpiry => Sys2Proof.Machine.execJoinTimerExpiry s
  | .channelStart => Sys2Proof.Machine.execChannelStart s
  | .mainOutput channel bits => Sys2Proof.Machine.execMainOutput channel bits s
  | .guardOutput channel bits => Sys2Proof.Machine.execGuardOutput channel bits s
  | .setBoundary group => Sys2Proof.Machine.execSetBoundary group s
  | .slaveEdge unit edge => Sys2Proof.Machine.execSlaveEdge unit edge s
  | .masterEdge unit edge => Sys2Proof.Machine.execMasterEdge unit edge s
  | .pollTimerExpiry unit => Sys2Proof.Machine.execPollTimerExpiry unit s
  | .referenceAgeing which => Sys2Proof.Machine.execReferenceAgeing which s
  | .stall => Sys2Proof.Machine.execStall s
  | .intervalBoundary => Sys2Proof.Machine.execIntervalBoundary s
  | .ownStartReached slot => Sys2Proof.Machine.execOwnStartReached slot s
  | .entryExpiry => Sys2Proof.Machine.execEntryExpiry s
  | .settleTimerExpiry slot => Sys2Proof.Machine.execSettleTimerExpiry slot s
  | .edgeDue unit => Sys2Proof.Machine.execEdgeDue unit s
  | .readStatus payload => Sys2Proof.Machine.execReadStatus payload s
  | .readPeer payload => Sys2Proof.Machine.execReadPeer payload s
  | .readTime payload => Sys2Proof.Machine.execReadTime payload s
  | .readSamples payload => Sys2Proof.Machine.execReadSamples payload s
  | .readChannel payload => Sys2Proof.Machine.execReadChannel payload s
  | .readCapture payload => Sys2Proof.Machine.execReadCapture payload s
  | .readTurbine payload => Sys2Proof.Machine.execReadTurbine payload s
  | .readHeat payload => Sys2Proof.Machine.execReadHeat payload s
  | .readScaling payload => Sys2Proof.Machine.execReadScaling payload s
  | .readWindows payload => Sys2Proof.Machine.execReadWindows payload s
  | .readUnit payload => Sys2Proof.Machine.execReadUnit payload s
  | .readWatch payload => Sys2Proof.Machine.execReadWatch payload s
  | .startPump payload => Sys2Proof.Machine.execStartPump payload s
  | .stopPump payload => Sys2Proof.Machine.execStopPump payload s
  | .trip payload order => Sys2Proof.Machine.execTrip payload order s
  | .resetTrip payload => Sys2Proof.Machine.execResetTrip payload s
  | .ackScaling payload => Sys2Proof.Machine.execAckScaling payload s
  | .captureBaseline payload => Sys2Proof.Machine.execCaptureBaseline payload s
  | .clearHeat payload => Sys2Proof.Machine.execClearHeat payload s
  | .clearAttention payload => Sys2Proof.Machine.execClearAttention payload s
  | .setStation payload => Sys2Proof.Machine.execSetStation payload s
  | .setChannel payload => Sys2Proof.Machine.execSetChannel payload s
  | .setGroup payload => Sys2Proof.Machine.execSetGroup payload s
  | .setCapture payload => Sys2Proof.Machine.execSetCapture payload s
  | .setTurbine payload => Sys2Proof.Machine.execSetTurbine payload s
  | .setHeat payload => Sys2Proof.Machine.execSetHeat payload s
  | .setScaling payload => Sys2Proof.Machine.execSetScaling payload s
  | .setWindow payload => Sys2Proof.Machine.execSetWindow payload s
  | .setWindowClear => Sys2Proof.Machine.execSetWindowClear s
  | .setUnit payload => Sys2Proof.Machine.execSetUnit payload s
  | .setEdge payload => Sys2Proof.Machine.execSetEdge payload s
  | .setWatchList payload => Sys2Proof.Machine.execSetWatchList payload s
  | .startStation payload => Sys2Proof.Machine.execStartStation payload s
  | .unknownRequest code payload => Sys2Proof.Machine.execUnknownRequest code payload s
  | .requestTooLong length => Sys2Proof.Machine.execRequestTooLong length s
  | .serviceCharacterError stopBit => Sys2Proof.Machine.execServiceCharacterError stopBit s
  | .serviceGap => Sys2Proof.Machine.execServiceGap s
  | .startBitWhileReplying => Sys2Proof.Machine.execStartBitWhileReplying s
  | .replyComplete => Sys2Proof.Machine.execReplyComplete s
  | .syncTaken byte startEdge => Sys2Proof.Machine.execSyncTaken byte startEdge s
  | .requestSyncTaken => Sys2Proof.Machine.execRequestSyncTaken s
  | .requestBadCheck code payload check => Sys2Proof.Machine.execRequestBadCheck code payload check s

end Sys2Proof.Machine
end

