-- ==== Sys2Proof/Machine/Step.lean ====
section
/-! DEFINITION. One step: the command at the front of the queue, or one period of the clock when no command waits. -/

namespace Sys2Proof.Machine

/-- The state without its queue's front. -/
def State.putPending (s : State) (queue : List Instr) : State := { s with pending := queue }

/-- One step of the block. -/
def step (s : State) : Host.Outcome State Fault Refusal :=
  match s.pending with
  | c :: rest => exec c (s.putPending rest)
  | [] => .next s.tick

/-- The state with the command that a word spells put at the front of its queue; no word spells one
(notes/assumptions/2.md). -/
def State.withFetchWord (s : State) (nbits w : Nat) : State :=
  match decodeTableWord nbits w with
  | some c => s.putPending (c :: s.pending)
  | none => s

end Sys2Proof.Machine
end

