-- ==== Sys2Proof/Safety.lean ====
section
/-! DEFINITION. The terms in which claims speak: which parts of the state a command leaves alone, the invariants of a safe
run, and the requests with their codes. -/

namespace Sys2Proof

/-- A reset command (R201). -/
def Instr.isReset : Instr → Bool
  | .powerOn .. | .resetPin .. | .serviceBreak .. => true
  | _ => false

end Sys2Proof

namespace Sys2Proof.Machine

/-! Frames. -/

/-- The parts of the state: its fields, but for the queue of waiting commands. -/
inductive Part where
  | stationNo | config | svp | attention | lif | peers | own | tmu | awaitMclk | channels | groups | pulses | captures | tsv
  | hmt | scw | spl | units | outputs | freeNext
  deriving DecidableEq, Repr

/-- Two states have the same value of a part. -/
def Part.same (s t : State) : Part → Prop
  | .stationNo => t.stationNo = s.stationNo
  | .config => t.config = s.config
  | .svp => t.svp = s.svp
  | .attention => t.attention = s.attention
  | .lif => t.lif = s.lif
  | .peers => t.peers = s.peers
  | .own => t.own = s.own
  | .tmu => t.tmu = s.tmu
  | .awaitMclk => t.awaitMclk = s.awaitMclk
  | .channels => t.channels = s.channels
  | .groups => t.groups = s.groups
  | .pulses => t.pulses = s.pulses
  | .captures => t.captures = s.captures
  | .tsv => t.tsv = s.tsv
  | .hmt => t.hmt = s.hmt
  | .scw => t.scw = s.scw
  | .spl => t.spl = s.spl
  | .units => t.units = s.units
  | .outputs => t.outputs = s.outputs
  | .freeNext => t.freeNext = s.freeNext

/-- Every part but the listed ones, and the queue of waiting commands, is unchanged from s to t. -/
def State.onlyChanges (s t : State) (parts : List Part) : Prop :=
  t.pending = s.pending ∧ ∀ p : Part, p ∉ parts → p.same s t

/-- Two vectors agree at every place but one. -/
def sameElsewhere {α : Type} {n : Nat} (i : Fin n) (v w : Vector α n) : Prop := ∀ j : Fin n, j ≠ i → w[j] = v[j]

/-- q is a / b rounded to nearest with halves away from zero (5.7). -/
def roundsTo (a : Int) (b : Nat) (q : Int) : Prop :=
  (2 * (a - q * b)).natAbs ≤ b ∧ ((2 * (a - q * b)).natAbs = b → a.natAbs < q.natAbs * b)

/-! Requests. -/

/-- A request of the service port: its code and its row of R199. -/
structure RequestKind where
  code : Nat
  cls : RequestClass
  deriving DecidableEq, Repr

/-- The request that a command is, if it is a named request, with its payload (11.3, R199). -/
def requestOf : Instr → Option (RequestKind × List Byte)
  | .readStatus p => some (⟨0x01, .status⟩, p)
  | .readPeer p => some (⟨0x02, .read⟩, p)
  | .readTime p => some (⟨0x03, .read⟩, p)
  | .readSamples p => some (⟨0x04, .read⟩, p)
  | .readChannel p => some (⟨0x05, .read⟩, p)
  | .readCapture p => some (⟨0x06, .read⟩, p)
  | .readTurbine p => some (⟨0x07, .read⟩, p)
  | .readHeat p => some (⟨0x08, .read⟩, p)
  | .readScaling p => some (⟨0x09, .read⟩, p)
  | .readWindows p => some (⟨0x0A, .read⟩, p)
  | .readUnit p => some (⟨0x0B, .read⟩, p)
  | .readWatch p => some (⟨0x0C, .read⟩, p)
  | .startPump p => some (⟨0x20, .run⟩, p)
  | .stopPump p => some (⟨0x21, .run⟩, p)
  | .trip p _ => some (⟨0x22, .run⟩, p)
  | .resetTrip p => some (⟨0x23, .run⟩, p)
  | .ackScaling p => some (⟨0x24, .run⟩, p)
  | .captureBaseline p => some (⟨0x25, .run⟩, p)
  | .clearHeat p => some (⟨0x26, .run⟩, p)
  | .clearAttention p => some (⟨0x27, .clearAttention⟩, p)
  | .setStation p => some (⟨0x40, .configuration⟩, p)
  | .setChannel p => some (⟨0x41, .configuration⟩, p)
  | .setGroup p => some (⟨0x42, .configuration⟩, p)
  | .setCapture p => some (⟨0x43, .configuration⟩, p)
  | .setTurbine p => some (⟨0x44, .configuration⟩, p)
  | .setHeat p => some (⟨0x45, .configuration⟩, p)
  | .setScaling p => some (⟨0x46, .configuration⟩, p)
  | .setWindow p => some (⟨0x47, .configuration⟩, p)
  | .setWindowClear => some (⟨0x47, .configuration⟩, [])
  | .setUnit p => some (⟨0x48, .configuration⟩, p)
  | .setEdge p => some (⟨0x49, .configuration⟩, p)
  | .setWatchList p => some (⟨0x4A, .configuration⟩, p)
  | .startStation p => some (⟨0x4B, .configuration⟩, p)
  | _ => none

/-- The LENGTHs that a request code takes (11.3, R216). -/
def lengthsOf : Nat → List Nat
  | 0x02 | 0x05 | 0x06 | 0x0B => [1]
  | 0x04 | 0x27 => [6]
  | 0x0C => [2]
  | 0x20 | 0x21 => [1, 5]
  | 0x40 => [12]
  | 0x41 => [18]
  | 0x42 => [4]
  | 0x43 => [7]
  | 0x44 => [10]
  | 0x45 => [36]
  | 0x46 => [24]
  | 0x47 => [0, 7]
  | 0x48 => [14]
  | 0x49 => [8]
  | 0x4A => [0, 2, 4, 6, 8, 10, 12, 14, 16, 18, 20, 22, 24, 26, 28, 30, 32]
  | _ => [0]

/-- The port takes the next request: it is not replying and its receiver is not in DISCARD (R195, R198). -/
def State.takesRequests (s : State) : Prop := s.svp.reply = none ∧ s.svp.receiver ≠ .discard

/-- The service port at the moment a request has been taken and answered (R195, R197). -/
def State.answered (s : State) (code : Nat) (payload : List Byte) (r : Reply) : Svp :=
  { s.svp with
    receiver := .hunt
    buffer := BitVec.ofNat 8 code :: BitVec.ofNat 8 payload.length :: payload
    idle := .since s.tmu.localCount
    breakArmed := true
    breakFrom := s.tmu.localCount
    reply := some r }

/-- The port takes the next request, and the station admits reads (R199). -/
def State.admitsReads (s : State) : Prop :=
  s.takesRequests ∧ (s.svp.station = .config ∨ s.svp.station = .run)

/-- The port takes the next request, and the station admits run requests (R199). -/
def State.admitsRun (s : State) : Prop := s.takesRequests ∧ s.svp.station = .run

/-- The port takes the next request, and the station admits configuration requests (R199). -/
def State.admitsConfiguration (s : State) : Prop := s.takesRequests ∧ s.svp.station = .config

/-- A command is a request that is answered with a reply, and it changes nothing but the service port, which is left as the
request and the reply leave it. -/
def State.replies (s : State) (c : Instr) (code : Nat) (payload : List Byte) (r : Reply) : Prop :=
  ∃ t, exec c s = .next t ∧ t.svp = s.answered code payload r ∧ s.onlyChanges t [.svp]

/-- A command is a configuration request that is refused with RANGE unless its fields are good, and then takes them: it is
answered with success and changes the service port and the listed parts, in the way that `taken` says (11.3, R216). -/
def State.configures (s : State) (c : Instr) (code : Nat) (payload : List Byte) (good : Prop) (parts : List Part)
    (taken : State → Prop) : Prop :=
  (¬good → s.replies c code payload { status := .range, payload := [] })
    ∧ (good → ∃ t, exec c s = .next t ∧ t.svp = s.answered code payload { status := .success, payload := [] }
        ∧ s.onlyChanges t (.svp :: parts) ∧ taken t)

/-- A byte that names a channel, 0 to 7, or none, 0xFF (R216). -/
def namesChannel (b : Byte) : Prop := b.toNat < 8 ∨ b.toNat = 0xFF

/-- The channel that such a byte names. -/
def channelNamed (b : Byte) : Option ChannelNo := if h : b.toNat < 8 then some ⟨b.toNat, h⟩ else none

/-- The pulse source that a source byte below 16 names: its input in bits 0 to 2, falling in bit 3 (11.3). -/
def sourceNamed (b : Byte) : PulseSource := { input := ⟨b.toNat % 8, by omega⟩, falling := b.getLsbD 3 }

/-- A capture mode by its code (11.3). -/
def modeNamed (b : Byte) : CaptureMode :=
  match b.toNat with
  | 0 => .off
  | 1 => .speed
  | 2 => .totaliser
  | _ => .general

/-! Frames on the line. -/

/-- The check byte that completes a frame (R2). -/
def frameCheck (kind : Nat) (sender : StationNo) (payload : List Byte) : Byte := checkByte (lineBody kind sender payload)

/-- A whole frame of a defined kind and of its length, from another station, stands in the receive frame buffer and waits
for its check byte, which is not the one that the notice in flight ends with (R8 to R10, R24). -/
structure State.hears (s : State) (kind : Nat) (sender : StationNo) (payload : List Byte) : Prop where
  enabled : s.lineEnabled = true
  frame : s.lif.rx = .frame
  buffer : s.lif.buffer = lineBody kind sender payload
  foreign : s.endsOwnFrame (frameCheck kind sender payload) = false
  other : sender ≠ s.stationNo
  length : kindLength? kind = some payload.length

/-- The line interface when a frame's check byte has been taken without error; a notice in flight has read it back
(R4, R9, R24). -/
def State.frameTaken (s : State) (check : Byte) : Lif :=
  { s.lif with
    rx := .hunt, buffer := [], quiet := none, idle := .since s.tmu.localCount, inFlight := s.flightAfter (some check) }

/-! Pulse edges. -/

/-- The period's sample is this one, and it shows the edge that a source names: its input has changed since the sample before,
to low for a falling edge and to high for a rising one (R73). -/
def State.edgeComes (s : State) (source : PulseSource) (sample : BitVec 8) : Prop :=
  (s.pulses.now = none ∨ s.pulses.now = some sample)
    ∧ ∃ before, s.pulses.before = some before ∧ before.getLsbD source.input.val = source.falling
      ∧ sample.getLsbD source.input.val = !source.falling

/-- The line stamp of the edge that a source's input shows in this period: line time, or, once a unit has received the edge,
the line stamp it was received with (R73). -/
def State.lineStamp (s : State) (source : PulseSource) : LineTime :=
  match s.pulses.lineStamps[source.input] with
  | some stamp => stamp
  | none => s.tmu.lineTime

/-- The line stamps once a source has received the edge of its input. -/
def State.stampsWith (s : State) (source : PulseSource) : Vector (Option LineTime) 8 :=
  s.pulses.lineStamps.set source.input (some (s.lineStamp source))

/-! The supervised speed (chapter 5). -/

/-- The results of a window of a size after a new one has entered as the newest (R55, R95, R96). -/
def Window.after (w : Window) (size : Nat) (result : Bool) : List Bool :=
  (w.results ++ [result]).drop (w.results.length + 1 - size)

/-- The count over those results has reached the effective count (R56, R95, R96). -/
def Window.countReached (w : Window) (size count : Nat) (result : Bool) : Bool :=
  min count size ≤ (w.after size result).count true

/-- A value v of the supervised speed has been taken between s and t: it enters the overspeed window, and an overspeed event
latches a trip of that cause and speed, or is a further cause of a set latch (R94, R95, R97). -/
def State.takesSpeed (s t : State) (v : Nat) (cause : TripCause) : Prop :=
  let c := s.tsv.config
  let fast := decide (c.tripLimit < v)
  let reached := s.tsv.overWindow.countReached c.overWindow c.overCount fast
  let event := reached && s.tsv.overWindow.armed
  t.tsv.supervisedSpeed = v
    ∧ t.tsv.overWindow = { results := s.tsv.overWindow.after c.overWindow fast, armed := !reached }
    ∧ (event = false ∨ s.tsv.latch = true →
        t.tsv.latch = s.tsv.latch ∧ t.tsv.record = s.tsv.record
        ∧ t.tsv.furtherCauses =
            (if event then min 65535 (s.tsv.furtherCauses + 1) else s.tsv.furtherCauses)
        ∧ t.tsv.viewActive = s.tsv.viewActive ∧ t.lif = s.lif ∧ t.spl = s.spl ∧ t.units = s.units)
    ∧ (event = true → s.tsv.latch = false →
        t.tsv.latch = true ∧ t.tripOutput = true ∧ t.tsv.furtherCauses = 0
        ∧ t.tsv.record = some { time := s.tmu.lineTime, cause := cause, speed := v }
        ∧ t.isPending .trip = true ∧ t.tsv.viewActive = true
        ∧ ∃ e ∈ t.lif.queue, e.notice = .trip s.tmu.lineTime cause v)

/-! Stops (9.5). -/

/-- A unit has written a stop at a stop time between s and t: its queued entries, all of a start, are discarded, the stop
entries are written, those whose due times are reached are output at once, and the others wait (R179, R182). -/
def State.stopsUnit (s t : State) (n : UnitNo) (stop : LineTime) : Prop :=
  let u := s.units[n]
  let v := t.units[n]
  let written := (u.defsOf .stop).map fun d =>
    (u.defs[d].output, u.defs[d].high, stop + BitVec.ofNat 32 (u.cumulativeOffset d))
  let waiting := written.filter fun e => later e.2.2 s.tmu.lineTime
  let reached := written.filter fun e => !later e.2.2 s.tmu.lineTime
  sameElsewhere n s.units t.units
    ∧ (v.queue.map fun e => (e.output, e.high, e.due)).Perm waiting
    ∧ (∀ e ∈ v.queue, e.origin = .stop ∧ e.startNumber = u.startNumber)
    ∧ v.state = (if written ≠ [] ∧ waiting = [] then .idle else .stopping)
    ∧ v.discarded = u.discarded + BitVec.ofNat 16 u.queue.length
    ∧ v.written = u.written + BitVec.ofNat 16 written.length
    ∧ v.outputCount = u.outputCount + BitVec.ofNat 16 reached.length
    ∧ v.edgeMark = u.edgeMark
    ∧ (∀ o : OutputNo, o ∉ reached.map (·.1) → t.outputs[o] = s.outputs[o])
    ∧ ∀ e ∈ reached, (∀ d ∈ reached, d.1 = e.1 → d.2.1 = e.2.1) → t.outputs[e.1] = e.2.1

/-! Invariants. -/

/-- A unit at rest: IDLE with nothing queued (R194). -/
def SwUnit.atRest (u : SwUnit) : Prop := u.state = .idle ∧ u.queue = []

/-- A unit's queue holds what its state allows: nothing in IDLE and RUNNING, start entries in STARTING, stop entries in
STOPPING (9.4); every start entry belongs to the present start instance (R180); a unit whose trip flag is set is not
STARTING (R190). -/
structure SwUnit.sound (u : SwUnit) : Prop where
  idle : u.state = .idle → u.queue = []
  running : u.state = .running → u.queue = []
  starting : u.state = .starting → ∀ e ∈ u.queue, e.origin = .start
  stopping : u.state = .stopping → ∀ e ∈ u.queue, e.origin = .stop
  present : ∀ e ∈ u.queue, e.origin = .start → e.startNumber = u.startNumber
  tripped : u.tripFlag = true → u.state ≠ .starting

/-- A slot that holds an own entry: ANNOUNCED to STARTED (R152). -/
def SlotState.holdsEntry : SlotState → Bool
  | .announced | .settling _ | .firm | .started => true
  | .free | .waiting _ => false

/-- A slot whose start has not been handed over: WAITING, ANNOUNCED or SETTLING (8.3). -/
def SlotState.before : SlotState → Bool
  | .waiting _ | .announced | .settling _ => true
  | .free | .firm | .started => false

/-- Own slots, own entries and units fit together: a slot from ANNOUNCED to STARTED has exactly its one own entry, which
names its unit; the other slots have none; two slots in use serve different units; a unit whose start has not been handed
over is IDLE; and each unit is sound (R152, R153, R163, R178, R190). -/
structure PumpsAgree (s : State) : Prop where
  entry : ∀ k : SlotNo, (s.slotState k).holdsEntry = true →
    ∃ c, s.spl.claims.filter (s.isOwnEntry k) = [c] ∧ c.unit = s.spl.slots[k].unit
  none : ∀ k : SlotNo, (s.slotState k).holdsEntry = false → s.spl.claims.filter (s.isOwnEntry k) = []
  apart : s.slotState 0 ≠ .free → s.slotState 1 ≠ .free → s.spl.slots[(0 : SlotNo)].unit ≠ s.spl.slots[(1 : SlotNo)].unit
  idle : ∀ k : SlotNo, (s.slotState k).before = true → s.units[s.spl.slots[k].unit].state = .idle
  units : ∀ n : UnitNo, s.units[n].sound

/-- Outside RUN nothing is captured, metered, claimed, sent or switched, and every output is low (10.2, R30, R173). -/
structure RestOutsideRun (s : State) : Prop where
  outputs : s.svp.station ≠ .run → ∀ o : OutputNo, s.outputs[o] = false
  units : s.svp.station ≠ .run → ∀ n : UnitNo, s.units[n].atRest
  slots : s.svp.station ≠ .run → ∀ k : SlotNo, s.spl.slots[k].state = .free
  channels : s.svp.station ≠ .run → ∀ c : ChannelNo, s.channels[c].running = false
  captures : s.svp.station ≠ .run → ∀ u : CaptureNo, s.captures[u].running = false
  sets : s.svp.station ≠ .run → ∀ g : GroupNo, s.groups[g].openSet = none
  interval : s.svp.station ≠ .run → s.scw.interval = none
  flight : s.svp.station ≠ .run → s.lif.inFlight = none

/-- The counts of a unit agree with its queue: written − output − discarded is the number of entries held (R178). -/
def EdgeCountsAgree (s : State) : Prop :=
  ∀ n : UnitNo,
    s.units[n].written - s.units[n].outputCount - s.units[n].discarded = BitVec.ofNat 16 s.units[n].queue.length

/-- No queue holds more entries than its unit has enabled definitions (R178). -/
def QueuesFit (s : State) : Prop :=
  ∀ n : UnitNo, s.units[n].queue.length ≤ (defNumbers.filter fun d => s.units[n].defs[d].enabled).length

/-- The claim table holds at most one entry of each station and slot and at most two entries of each station; the station's
own entries are of its two slots and do not overlap each other (R147, R152). -/
structure ClaimTableSound (s : State) : Prop where
  distinct : (s.spl.claims.map fun c => (c.station, c.slot)).Nodup
  two : ∀ n : StationNo, s.claimsHeld n ≤ Config.claimsPerStation
  slots : ∀ c ∈ s.spl.claims, c.station = s.stationNo → c.slot.val < 2
  own : ∀ c ∈ s.spl.claims, ∀ d ∈ s.spl.claims,
    c.station = s.stationNo → d.station = s.stationNo → c.slot ≠ d.slot → c.overlaps d = false

/-- The trip view follows the latch and the peer rows, and the trip hold and every trip flag follow the view
(R103, R166, R190, R192); under the hold no own claim is ANNOUNCED, SETTLING or FIRM (R167). -/
structure TripViewAgrees (s : State) : Prop where
  view : s.tsv.viewActive = (s.tsv.latch || 0 < s.latchedPeers)
  hold : s.spl.tripHold = s.tsv.viewActive
  flags : ∀ n : UnitNo, s.units[n].tripFlag = s.tsv.viewActive
  held : s.spl.tripHold = true → ∀ k : SlotNo, (s.slotState k).unsettled = false ∧ s.slotState k ≠ .firm

/-- The scaling hold follows the own state and the heard and not silent rows; a row not heard shows CLEAR (R21, R166). -/
structure ScalingHoldAgrees (s : State) : Prop where
  hold : s.spl.scalingHold = s.scalingAlarm
  unheard : ∀ n : StationNo, n ≠ s.stationNo → s.peers[n].heard = false → s.peers[n].scaling = .clear

/-- The attention set holds at most one record of each cause, each with a raise count of 1 to 255 (R207). -/
structure AttentionDistinct (s : State) : Prop where
  distinct : (s.attention.map Pending.cause).Nodup
  raises : ∀ p ∈ s.attention, 1 ≤ p.raises ∧ p.raises ≤ 255

/-- The transmit queue holds at most one entry of each coalescing group, class 0 before class 1, each with a collision
count below 8 (R25 to R28). -/
structure QueueOrdered (s : State) : Prop where
  distinct : (s.lif.queue.map fun e => e.notice.group).Nodup
  classes : s.lif.queue.Pairwise fun e f => f.notice.classZero = true → e.notice.classZero = true
  collisions : ∀ e ∈ s.lif.queue, e.collisions < 8

/-- Each residue of the heat meter stays below one kilojoule (R115, R116). -/
def ResiduesBelow (s : State) : Prop := s.hmt.forwardResidue < 10 ^ 8 ∧ s.hmt.reverseResidue < 10 ^ 8

/-- A fixed window that Set Window's checks let in (R145, R146). -/
def FixedWindow.sound (w : FixedWindow) : Prop :=
  20 ≤ w.exponent ∧ w.exponent ≤ 31 ∧ 1 ≤ w.length ∧ w.offset + w.length ≤ 2 ^ (w.exponent - 10)

/-- Two windows of one period share no granule (R146). -/
def FixedWindow.apart (v w : FixedWindow) : Prop :=
  v.exponent = w.exponent → v.offset + v.length ≤ w.offset ∨ w.offset + w.length ≤ v.offset

/-- The fixed window table holds at most 8 sound windows, and windows of one period share no granule (R145, R146). -/
structure WindowTableSound (s : State) : Prop where
  places : s.spl.windows.length ≤ 8
  sound : ∀ w ∈ s.spl.windows, w.sound
  apart : s.spl.windows.Pairwise FixedWindow.apart

/-- The sets of a ring are numbered one after another, up to the group's next sequence number (R67). -/
def Group.numbered (g : Group) : Prop :=
  ∀ i, ∀ h : i < g.ring.length,
    g.ring[i].record.sequence + BitVec.ofNat 32 (g.ring.length - i) = g.nextSequence

/-- The part's bounded collections stay within their capacities, and a ring's sets are numbered without a
gap (R58, R67, R77, R82, R135). -/
structure StoresBounded (s : State) : Prop where
  guardHistory : ∀ c : ChannelNo, s.channels[c].guardHistory.length ≤ 8
  ring : ∀ g : GroupNo, s.groups[g].ring.length ≤ 64
  numbered : ∀ g : GroupNo, s.groups[g].numbered
  stamps : ∀ u : CaptureNo, s.captures[u].fifo.length ≤ 16
  records : ∀ u : CaptureNo, s.captures[u].history.length ≤ 4
  indices : s.scw.history.length ≤ 8

/-- An index is absent or lies in 0 to 2000 (R133). -/
def indexSound (i : Option Nat) : Prop := ∀ n, i = some n → n ≤ 2000

/-- A notice's fouling index lies in 0 to 2000 (R133). -/
def Notice.indexSound : Notice → Prop
  | .heat h => Machine.indexSound h.index
  | .scale _ _ index _ => Machine.indexSound index
  | .time | .claim .. | .release .. | .trip .. | .clear _ => True

/-- Every fouling index that the part holds or sends lies in 0 to 2000 (R133). -/
structure IndicesBounded (s : State) : Prop where
  history : ∀ r ∈ s.scw.history, indexSound r.index
  latest : ∀ e, s.scw.latest = some e → indexSound e.record.index
  held : ∀ h, s.scw.held = some h → h.index ≤ 2000
  own : ∀ h, s.own.heat = some h → indexSound h.index
  queued : ∀ e ∈ s.lif.queue, e.notice.indexSound
  flight : ∀ f, s.lif.inFlight = some f → f.notice.indexSound
  rows : ∀ n : StationNo, indexSound s.peers[n].lastIndex ∧ ∀ h, s.peers[n].heat = some h → indexSound h.index

/-- What the configuration requests set, and what Start Station fixes with it (R204, R206). -/
structure Configuration where
  stationNo : StationNo
  station : StationConfig
  channels : List ChannelConfig
  groups : List (Nat × Nat)
  captures : List CaptureConfig
  turbine : TurbineConfig
  effectiveTeeth : Nat
  heat : HeatConfig
  scaling : ScalingConfig
  windows : List FixedWindow
  units : List (UnitConfig × Vector EdgeDef 6)
  watchList : List WatchItem

/-- The configuration of a state; the baseline UA_c, which Capture Baseline may set in RUN, is read as 0 (R141, R204). -/
def State.configuration (s : State) : Configuration where
  stationNo := s.stationNo
  station := s.config
  channels := s.channels.toList.map (·.config)
  groups := s.groups.toList.map fun g => (g.periodMs, g.ringMark)
  captures := s.captures.toList.map (·.config)
  turbine := s.tsv.config
  effectiveTeeth := s.tsv.effectiveTeeth
  heat := s.hmt.config
  scaling := { s.scw.config with baseline := 0 }
  windows := s.spl.windows
  units := s.units.toList.map fun u => (u.config, u.defs)
  watchList := s.svp.watchList

end Sys2Proof.Machine
end

