-- ==== Sys2Proof/Certificates/Slice0/Obligations.lean ====
section
/-! DEFINITION. The statements for the provers, chapter by chapter of the spec. Each docstring names the rules and sections
that its statement comes from. -/

open Sys2Proof Sys2Proof.Machine

/-! The machine. -/

/-- The block's one step takes the command at the front of its queue and runs it with the queue's rest (the model's
queue of commands, notes/assumptions/1.md and 7.md). -/
def Obligations.StepRunsFrontCommand : Prop :=
  ∀ (s : State) (c : Instr) (rest : List Instr), s.pending = c :: rest → step s = exec c (s.putPending rest)

/-- On an empty queue, what is owed in this period then waits: the collision or the sending whole of a notice in flight that its
read-back has settled (R24, R25), and the edges of the period's sample that running units have not taken, one at each source
that names the input and the edge (R73). When nothing is owed, one period of 1/8 µs passes: the local count counts it, line
time counts every eighth (R32, R33), and the part's own timed events that are due then wait. That a step does this is the
model's choice, notes/assumptions/7.md, 20.md and 32.md; that the measures of the two lines and the quiet moment are held at
most 2^31 periods back is 22.md. -/
def Obligations.IdleStepPassesOnePeriod : Prop :=
  ∀ s : State, s.pending = [] →
    let count := s.tmu.localCount + 1
    let held := fun start : Count => if 2 ^ 31 ≤ (count - start).toNat then count - BitVec.ofNat 32 (2 ^ 31) else start
    let aged := fun m : IdleMeasure => match m with | .since start => .since (held start) | .after restart => .after (held restart)
    let ends := fun c : Instr => s.svp.station = .run ∧ ∃ f, s.lif.inFlight = some f
      ∧ (c = .collision ∧ f.collided = true
        ∨ c = .noticeSentWhole ∧ f.collided = false
            ∧ (lineFrame f.notice.kind s.stationNo f.payload).length ≤ f.readBack)
    let edge := fun c : Instr => ∃ (n : CaptureNo) (sample : BitVec 8),
      s.pulses.now = some sample ∧ s.captures[n].running = true
        ∧ ((c = .slaveEdge n ⟨sample, []⟩ ∧ n ∉ s.pulses.slaves
              ∧ ∃ source, s.captures[n].config.slave = some source ∧ s.edgeComes source sample)
          ∨ (c = .masterEdge n ⟨sample, []⟩ ∧ n ∉ s.pulses.masters ∧ s.edgeComes s.captures[n].config.master sample))
    let owed := fun c : Instr => ends c ∨ edge c
    ((∃ c, owed c) → ∃ t, step s = .next t ∧ (∀ c, c ∈ t.pending ↔ owed c) ∧ t.pending.Nodup
      ∧ ∀ p : Machine.Part, p.same s t)
    ∧ ((¬∃ c, owed c) → ∃ t, step s = .next t
        ∧ t.tmu = { s.tmu with
            localCount := count
            lineTime := if count.toNat % 8 = 0 then s.tmu.lineTime + 1 else s.tmu.lineTime }
        ∧ t.lif = { s.lif with idle := aged s.lif.idle, quiet := s.lif.quiet.map held }
        ∧ t.svp = { s.svp with idle := aged s.svp.idle, breakFrom := held s.svp.breakFrom }
        ∧ t.pulses = { before := if s.pulses.now = none then s.pulses.before else s.pulses.now
                       now := none, slaves := [], masters := [] }
        ∧ t.pending = t.dueEvents
        ∧ ∀ p : Machine.Part, p ∉ [.tmu, .lif, .svp, .pulses] → p.same s t)

/-! Resets and station states (10.2, 10.3, 10.5). -/

/-- Every reset brings every block to its reset state at once, with the straps read anew and the cause kept; a service break
whose measure is not armed is none, nor is one whose line can not yet have been low for 100 ms, 800,000 periods on the local
count, since it was last known to be high or since the last reset ended. The boot check ends 3 ms later and not before, and
decides between CONFIG, with the line interface enabled in WAIT_GAP, and FAULT, with BOOT_FAULT driving the attention output
(R4, R30, R31, R45, R72, R89, R108, R123, R144, R172, R194, R200 to R203). The model's choices in it: what a reset keeps of the
environment (notes/assumptions/4.md, 8.md and 26.md), from where the break is measured and that it is not armed after a service
break (13.md), the service idle time, the FREE slots' unit and withdrawals, and the other reset values the spec does not give
(36.md), and the 3 ms judged on the local count when the command comes (10.md). -/
def Obligations.ResetsAndBootCheck : Prop :=
  ∀ (s : State) (straps : StationNo) (high inProgress : Bool),
    (∀ c cause armed,
      (c = .powerOn straps high ∧ cause = .powerOn ∧ armed = high)
        ∨ (c = .resetPin straps high inProgress ∧ cause = (if inProgress then .powerOn else .resetPin) ∧ armed = high)
        ∨ (c = .serviceBreak straps high ∧ cause = .serviceBreak ∧ armed = false
            ∧ (s.svp.breakArmed = true ∨ high = true) ∧ 800000 ≤ (s.tmu.localCount - s.svp.breakFrom).toNat) →
      ∃ t, exec c s = .next t ∧ t.stationNo = straps ∧ t.pending = s.pending ∧ t.config = {}
        ∧ t.pulses = {}
        ∧ t.svp = { station := .boot, resetCause := cause, bootResult := .none, receiver := .hunt, buffer := [],
                    reply := none, errors := 0, idle := .after 0, breakArmed := armed, breakFrom := 0, watchList := [] }
        ∧ t.attention = [] ∧ t.attentionOutput = false
        ∧ t.lif.queue = [] ∧ t.lif.inFlight = none ∧ t.lif.buffer = [] ∧ t.lif.counters = {}
        ∧ (∀ n : StationNo, t.peers[n] = {}) ∧ t.own = {}
        ∧ t.tmu = { localCount := 0, lineTime := 0, joined := false, beaconTimer := none, joinTimer := none }
        ∧ t.mclkDriven = false
        ∧ (∀ n : ChannelNo, t.channels[n] = {}) ∧ (∀ g : GroupNo, t.groups[g] = {})
        ∧ (∀ u : CaptureNo, t.captures[u] = { config := { master := { input := ⟨u.val, by omega⟩ } } })
        ∧ t.tsv = {} ∧ t.tripOutput = false ∧ t.hmt = {} ∧ t.scw = {}
        ∧ t.spl = { windows := [], claims := [], slots := #v[{}, {}], tripHold := false, scalingHold := false }
        ∧ (∀ n : UnitNo, t.units[n] = {}) ∧ ∀ o : OutputNo, t.outputs[o] = false)
    ∧ (s.svp.breakArmed = false → exec (.serviceBreak straps false) s = .next s)
    ∧ ((s.tmu.localCount - s.svp.breakFrom).toNat < 800000 → exec (.serviceBreak straps high) s = .next s)
    ∧ (s.tmu.localCount.toNat < 24000 → exec (.bootCheckEnd high inProgress) s = .next s)
    ∧ (s.svp.station = .boot → 24000 ≤ s.tmu.localCount.toNat →
        (∃ t, exec (.bootCheckEnd true high) s = .next t
          ∧ t.svp = { s.svp with station := .config, bootResult := .passed }
          ∧ t.lif = { s.lif with
              rx := .waitGap, quiet := none
              idle := if high then .since s.tmu.localCount else .after s.tmu.localCount }
          ∧ t.mclkDriven = true ∧ s.onlyChanges t [.svp, .lif, .freeNext])
        ∧ ∃ t, exec (.bootCheckEnd false high) s = .next t
          ∧ t.svp = { s.svp with station := .fault, bootResult := .failed }
          ∧ t.isPending .bootFault = true ∧ t.attentionOutput = true ∧ t.mclkDriven = false
          ∧ s.onlyChanges t [.svp, .attention, .freeNext])

/-- The station state changes only by a reset, by the end of the boot check and by Start Station; RUN and FAULT are left by a
reset alone. From the entry to RUN until the next reset no command changes the configuration (10.2, R199, R201 to R206). -/
def Obligations.StationStateAndSealedConfiguration : Prop :=
  (∀ (c : Instr) (s t : State), exec c s = .next t → t.svp.station ≠ s.svp.station →
      (c.isReset = true ∧ t.svp.station = .boot)
        ∨ (∃ passed high, c = .bootCheckEnd passed high ∧ s.svp.station = .boot
            ∧ t.svp.station = if passed then .config else .fault)
        ∨ (∃ payload, c = .startStation payload ∧ s.svp.station = .config ∧ t.svp.station = .run))
  ∧ ∀ (c : Instr) (s t : State), s.svp.station = .run → c.isReset = false → exec c s = .next t →
      t.configuration = s.configuration

/-- No command but a reset moves the local count or clears the joined flag, and line time leaves its running advance only at
a heard TIME: by the adoption that joins the station, or by 1 to 2^31 − 1 µs (R32, R33, R38, R39, R41). -/
def Obligations.LineTimeMovesOnlyByAdoption : Prop :=
  ∀ (c : Instr) (s t : State), exec c s = .next t → c.isReset = false →
    t.tmu.localCount = s.tmu.localCount ∧ (s.tmu.joined = true → t.tmu.joined = true)
      ∧ (t.tmu.lineTime ≠ s.tmu.lineTime →
          (∃ check order, c = .frameReceived check order)
            ∧ ((s.tmu.joined = false ∧ t.tmu.joined = true)
              ∨ (s.tmu.joined = true ∧ (t.tmu.lineTime - s.tmu.lineTime).toNat < 2 ^ 31)))

/-! The service port (10.1, 10.2). -/

/-- Checks 1 to 5 of R197. For every named request, in their order: in BOOT it is answered NOT_READY; with a LENGTH it
does not take, BAD_LENGTH; and then the station state refuses it as the table of R199 gives. A request whose check byte
differs is answered BAD_CHECK in every station state, and a code that names no request is answered NOT_READY in BOOT and
UNKNOWN_REQUEST elsewhere. Nothing but the service port changes. -/
def Obligations.RequestsRefusedByTheirStation : Prop :=
  (∀ (c : Instr) (s : State) (k : RequestKind) (p : List Byte), requestOf c = some (k, p) → p.length ≤ 64 → s.takesRequests →
      (s.svp.station = .boot → s.replies c k.code p { status := .notReady, payload := [] })
      ∧ (s.svp.station ≠ .boot → p.length ∉ lengthsOf k.code →
          s.replies c k.code p { status := .badLength, payload := [] })
      ∧ (p.length ∈ lengthsOf k.code →
          (s.svp.station = .config → k.cls = .run → s.replies c k.code p { status := .notRunningStation, payload := [] })
          ∧ (s.svp.station = .run → k.cls = .configuration → s.replies c k.code p { status := .sealed, payload := [] })
          ∧ (s.svp.station = .fault → k.cls ≠ .status → s.replies c k.code p { status := .faulted, payload := [] })))
  ∧ ∀ (s : State) (code check : Byte) (p : List Byte), s.takesRequests → p.length ≤ 64 →
      (check ≠ checkByte (code :: BitVec.ofNat 8 p.length :: p) →
        s.replies (.requestBadCheck code p check) code.toNat p { status := .badCheck, payload := [] })
      ∧ (code.toNat ∉ knownRequestCodes →
          s.replies (.unknownRequest code p) code.toNat p
            { status := if s.svp.station = .boot then .notReady else .unknownRequest, payload := [] })

/-- A request that is refused, for whatever reason, changes no state of any block: only the service port changes, which
takes the request and holds the refusal as its reply (5.11, R197). -/
def Obligations.RefusedRequestChangesNoBlock : Prop :=
  ∀ (c : Instr) (s t : State) (k : RequestKind) (p : List Byte) (r : Reply), requestOf c = some (k, p) → s.takesRequests →
    exec c s = .next t → t.svp.reply = some r → r.status ≠ .success →
    t.svp = s.answered k.code p r ∧ s.onlyChanges t [.svp]

/-- The service receiver's own events: SYNC in HUNT, a LENGTH above 64, characters in error, the gap, a start bit while the
port is replying, and the reply's end; each with what it does in each receiver state and to the idle measure, which restarts
at each start bit (R195, R196, R198). A gap comes no earlier than 160,000 periods, 20 ms, after the idle measure's start, or,
where no command has told the start, after the measure's restart. The model's choices in it: the emptied buffer at a LENGTH
above 64, at a character in error and at a start bit while replying, where R195 empties it only at SYNC
(notes/assumptions/12.md), what the idle measure knows of its start (11.md), and the break measure, armed and started again by
each event that shows the line high, a stop-bit error among them unless a low level known before can have formed it (13.md, for
R200). -/
def Obligations.ServiceReceiverEvents : Prop :=
  ∀ (s : State) (stopBit : Bool) (length : Byte), 64 < length.toNat →
    let now := s.tmu.localCount
    let shown := { s.svp with idle := .since now, breakArmed := true, breakFrom := now }
    let stillLow := ∃ restart, s.svp.idle = .after restart ∧ (now - restart).toNat ≤ 1528
    let broken := { s.svp with
      idle := .after now, breakArmed := s.svp.breakArmed || decide ¬stillLow
      breakFrom := if stillLow ∨ (now - s.svp.breakFrom).toNat ≤ 1528 then s.svp.breakFrom else now - 1528 }
    let inError := if stopBit then broken else shown
    (s.svp.reply = none →
      (s.svp.receiver = .hunt →
        (∃ t, exec .requestSyncTaken s = .next t ∧ s.onlyChanges t [.svp]
          ∧ t.svp = { shown with receiver := .request, buffer := [] })
        ∧ ∃ t, exec (.serviceCharacterError stopBit) s = .next t ∧ s.onlyChanges t [.svp]
          ∧ t.svp = { inError with errors := s.svp.errors + 1 })
      ∧ (s.svp.receiver = .request →
        (∃ t, exec (.requestTooLong length) s = .next t ∧ s.onlyChanges t [.svp]
          ∧ t.svp = { shown with errors := s.svp.errors + 1, receiver := .discard, buffer := [] })
        ∧ ∃ t, exec (.serviceCharacterError stopBit) s = .next t ∧ s.onlyChanges t [.svp]
          ∧ t.svp = { inError with errors := s.svp.errors + 1, receiver := .discard, buffer := [] })
      ∧ (s.svp.receiver = .discard → ∃ t, exec (.serviceCharacterError stopBit) s = .next t ∧ s.onlyChanges t [.svp]
          ∧ t.svp = inError))
    ∧ (∀ (start : Count) (known : Bool), s.svp.idle = (if known then .since start else .after start) →
        (160000 ≤ (now - start).toNat → ∃ t, exec .serviceGap s = .next t ∧ s.onlyChanges t [.svp]
          ∧ t.svp = { shown with
              receiver := .hunt
              idle := .since (if known then start else now - 160000)
              errors := if s.svp.receiver = .request then s.svp.errors + 1 else s.svp.errors
              buffer := if s.svp.receiver = .request then [] else s.svp.buffer })
        ∧ ((now - start).toNat < 160000 → exec .serviceGap s = .next s))
    ∧ (∀ r, s.svp.reply = some r →
        let restarted := { s.svp with idle := .after now, breakArmed := true, breakFrom := now }
        (s.svp.receiver ≠ .discard → ∃ t, exec .startBitWhileReplying s = .next t ∧ s.onlyChanges t [.svp]
          ∧ t.svp = { restarted with errors := s.svp.errors + 1, receiver := .discard, buffer := [] })
        ∧ (s.svp.receiver = .discard → ∃ t, exec .startBitWhileReplying s = .next t ∧ s.onlyChanges t [.svp]
            ∧ t.svp = restarted)
        ∧ ∃ t, exec .replyComplete s = .next t ∧ s.onlyChanges t [.svp] ∧ t.svp = { s.svp with reply := none })

/-- A byte's character: a low start bit, eight data bits least significant first, even parity and a high stop bit; the eleven
bits give the byte back, and with any one of them but the start bit sampled wrong they are in error (R1, R5). Every line frame
and every service frame ends in a check byte of (0x5C + (255 − (s mod 256))) mod 256 over the sum s of the bytes between SYNC
and it (R2): in the frames the part sends, in the line frames it judges, whose check errors count (R9), and in the requests,
which it answers BAD_CHECK on another byte (R197). That REQUEST_BAD_CHECK with the right byte has no effect is the model's
choice, notes/assumptions/3.md. -/
def Obligations.CheckByteEndsEveryFrame : Prop :=
  (∀ b : Byte,
    let bits := characterBits b
    bits.length = 11 ∧ bits[0]? = some false ∧ bits[10]? = some true ∧ ((bits.drop 1).take 9).count true % 2 = 0
    ∧ (∀ i, i < 8 → bits[i + 1]? = some (b.getLsbD i))
    ∧ characterOf bits = some b
    ∧ ∀ i, 1 ≤ i → i ≤ 10 → characterOf (bits.modify i (!·)) = none)
  ∧ ∀ (bytes : List Byte) (check : Byte),
    check.toNat = (0x5C + (255 - (bytes.map (·.toNat)).sum % 256)) % 256 →
    (∀ kind sender p, lineBody kind sender p = bytes → lineFrame kind sender p = 0xB5 :: (bytes ++ [check]))
    ∧ (∀ r : Reply, bytesOf 1 r.status.code ++ bytesOf 2 r.payload.length ++ r.payload = bytes →
        r.frame = 0xC3 :: (bytes ++ [check]))
    ∧ (∀ (s t : State) (taken : Byte) (order : List Dependant), s.lineEnabled = true → s.lif.expectsCheck = true →
        s.lif.buffer = bytes → exec (.frameReceived taken order) s = .next t →
        (t.lif.counters.checkError = s.lif.counters.checkError + 1 ↔ taken ≠ check))
    ∧ (∀ (s : State) (code taken : Byte) (p : List Byte), s.takesRequests → p.length ≤ 64 →
        code :: BitVec.ofNat 8 p.length :: p = bytes →
        (taken = check → exec (.requestBadCheck code p taken) s = .next s)
        ∧ (taken ≠ check →
            s.replies (.requestBadCheck code p taken) code.toNat p { status := .badCheck, payload := [] }))

/-- Every read but Read Samples answers with its payload and changes nothing; a subject out of range is refused. Read Watch
carries n values from position p on, wrapping at the end of the list (R71, R88, R107, R121, R143, R171, R193, R199,
R211 to R214). The bytes of replies that no table of 11.5 lays out are the model's reading of R217, notes/assumptions/9.md and
38.md, and the order of the attention set in the status reply is 17.md. -/
def Obligations.ReadsAnswerWithoutChange : Prop :=
  ∀ s : State,
    (s.takesRequests → s.svp.station ≠ .boot → s.replies (.readStatus []) 0x01 [] (success s.statusPayload))
    ∧ (s.admitsReads →
        s.replies (.readTime []) 0x03 [] (success s.timeReply)
        ∧ s.replies (.readTurbine []) 0x07 [] (success s.turbinePayload)
        ∧ s.replies (.readHeat []) 0x08 [] (success s.hmt.payload)
        ∧ s.replies (.readScaling []) 0x09 [] (success s.scw.payload)
        ∧ s.replies (.readWindows []) 0x0A [] (success s.windowsPayload)
        ∧ (∀ n : StationNo, s.replies (.readPeer [BitVec.ofNat 8 n.val]) 0x02 [BitVec.ofNat 8 n.val] (success (s.peerPayload n)))
        ∧ (∀ n : ChannelNo,
            s.replies (.readChannel [BitVec.ofNat 8 n.val]) 0x05 [BitVec.ofNat 8 n.val] (success s.channels[n].payload))
        ∧ (∀ n : CaptureNo,
            s.replies (.readCapture [BitVec.ofNat 8 n.val]) 0x06 [BitVec.ofNat 8 n.val] (success s.captures[n].payload))
        ∧ (∀ n : UnitNo, s.replies (.readUnit [BitVec.ofNat 8 n.val]) 0x0B [BitVec.ofNat 8 n.val] (success (s.unitPayload n)))
        ∧ (∀ b : Byte, 16 ≤ b.toNat → s.replies (.readPeer [b]) 0x02 [b] { status := .range, payload := [] })
        ∧ (∀ b : Byte, 8 ≤ b.toNat → s.replies (.readChannel [b]) 0x05 [b] { status := .range, payload := [] })
        ∧ (∀ b : Byte, 4 ≤ b.toNat → s.replies (.readCapture [b]) 0x06 [b] { status := .range, payload := [] }
            ∧ s.replies (.readUnit [b]) 0x0B [b] { status := .range, payload := [] })
        ∧ ∀ p n : Byte,
            let m := s.svp.watchList.length
            let value := fun i => s.watchRecord (s.svp.watchList.getD ((p.toNat + i) % m) .lineTime)
            (1 ≤ n.toNat ∧ n.toNat ≤ 16 →
              (m = 0 → s.replies (.readWatch [p, n]) 0x0C [p, n] (success [0]))
              ∧ (p.toNat < m →
                  s.replies (.readWatch [p, n]) 0x0C [p, n] (success (n :: ((List.range n.toNat).map value).flatten)))
              ∧ (0 < m → m ≤ p.toNat →
                  s.replies (.readWatch [p, n]) 0x0C [p, n] { status := .range, payload := [] }))
            ∧ (n.toNat = 0 ∨ 16 < n.toNat →
                s.replies (.readWatch [p, n]) 0x0C [p, n] { status := .range, payload := [] }))

/-- The records that chapter 11 lays out hold every field at the offset of its table: the status header with its queue entries
and pending causes, the peer row with its HEAT summary, a sample set with its readings, a capture record, a claim entry, an
edge queue entry and an index history record; an absent fouling index is 0xFFFF (11.5, R215). The order in which the pending
causes stand is the model's choice, notes/assumptions/17.md. -/
def Obligations.RecordsLaidOutAsTabled : Prop :=
  (∀ s : State,
    let p := s.statusPayload
    let q := s.lif.queue.length
    let a := s.attention.length
    let c := s.lif.counters
    let kind := fun n : Notice =>
      match n with
      | .time => 1 | .claim .. => 2 | .release .. => 3 | .trip .. => 4 | .clear _ => 5 | .heat _ => 6 | .scale .. => 7
    let slot := fun n : Notice => match n with | .claim k .. | .release k .. => k.val | _ => 0
    q < 256 → a < 256 → (∀ e ∈ s.lif.queue, e.collisions < 16) → (∀ x ∈ s.attention, x.raises < 256) →
      p.length = 44 + 2 * q + 8 * a
      ∧ (s.svp.station = .config → fieldNat p 0 1 = 1) ∧ (s.svp.station = .run → fieldNat p 0 1 = 2)
      ∧ (s.svp.station = .fault → fieldNat p 0 1 = 3)
      ∧ fieldNat p 1 1 = (match s.svp.resetCause with | .powerOn => 1 | .resetPin => 2 | .serviceBreak => 3)
      ∧ fieldNat p 2 1 = (match s.svp.bootResult with | .none => 0 | .passed => 1 | .failed => 2)
      ∧ fieldNat p 3 1 = s.stationNo.val
      ∧ fieldNat p 4 1 = s.config.roles.well.toNat + 2 * s.config.roles.turbine.toNat + 4 * s.config.roles.exchange.toNat
      ∧ fieldNat p 5 4 = s.tmu.lineTime.toNat ∧ fieldNat p 9 4 = s.tmu.localCount.toNat
      ∧ fieldNat p 13 1 = s.tmu.joined.toNat
      ∧ (List.range 10).map (fun i => fieldNat p (14 + 2 * i) 2) =
          [c.characterError, c.gapAbort, c.longFrame, c.checkError, c.unknownKind, c.badLength, c.validFrame, c.frameSent,
            c.collision, c.jammed].map BitVec.toNat
      ∧ fieldNat p 34 2 = s.svp.errors.toNat
      ∧ fieldNat p 36 1 = q
      ∧ (List.range q).map (fun i => (fieldNat p (37 + 2 * i) 1, fieldNat p (38 + 2 * i) 1)) =
          s.lif.queue.map (fun e => (kind e.notice, slot e.notice + 16 * e.collisions))
      ∧ fieldNat p (37 + 2 * q) 1 = (match s.lif.inFlight with | none => 0 | some f => kind f.notice)
      ∧ fieldNat p (38 + 2 * q) 4 = s.config.enableMask.toNat
      ∧ fieldNat p (42 + 2 * q) 1 = s.attentionOutput.toNat + 2 * s.tsv.latch.toNat + 4 * s.tsv.viewActive.toNat
      ∧ fieldNat p (43 + 2 * q) 1 = a
      ∧ (List.range a).map (fun i =>
          let at_ := 44 + 2 * q + 8 * i
          (fieldNat p at_ 1, fieldNat p (at_ + 1) 1, fieldNat p (at_ + 2) 4, fieldNat p (at_ + 6) 1, fieldNat p (at_ + 7) 1)) =
          s.attention.map (fun x => (x.cause.kind, x.cause.subject.getD 0xFF, x.first.toNat, x.raises,
            match x.reason with | some .jammed => 1 | some .contended => 2 | none => 0)))
  ∧ (∀ (s : State) (n : StationNo),
      let p := s.peerPayload n
      let r := s.row n
      let state := match r.scaling with | .clear => 0 | .watch => 1 | .alarm => 2
      let silence :=
        if n ≠ s.stationNo ∧ s.peers[n].heard = true then
          match s.peers[n].silence with
          | .stopped => 0
          | .running start => min (2 ^ 31) (s.tmu.localCount - start).toNat
          | .held => 2 ^ 31
        else 0
      p.length = 38
      ∧ bit (fieldNat p 0 1) 0 = r.heard ∧ bit (fieldNat p 0 1) 1 = r.joined ∧ bit (fieldNat p 0 1) 2 = r.silent
      ∧ bit (fieldNat p 0 1) 3 = r.tripLatched ∧ bit (fieldNat p 0 1) 4 = r.heat.isSome
      ∧ bit (fieldNat p 0 1) 5 = r.lastIndex.isSome
      ∧ fieldNat p 1 1 = r.roles.well.toNat + 2 * r.roles.turbine.toNat + 4 * r.roles.exchange.toNat
      ∧ fieldNat p 2 1 = r.beaconCode % 2 ^ 8
      ∧ fieldNat p 3 4 = r.lastHeard.toNat ∧ fieldNat p 7 1 = state + 8 * r.acknowledged.toNat
      ∧ fieldNat p 8 4 = r.scalingChange.toNat ∧ fieldNat p 12 1 = r.activeUnits % 2 ^ 8
      ∧ fieldNat p 13 2 = r.lastIndex.getD 0xFFFF % 2 ^ 16
      ∧ (r.heat = none → fieldNat p 15 4 = 0 ∧ fieldNat p 19 4 = 0 ∧ fieldNat p 23 4 = 0 ∧ fieldNat p 27 2 = 0xFFFF)
      ∧ (∀ h, r.heat = some h → fieldNat p 15 4 = h.intervalEnd.toNat ∧ fieldNat p 19 4 = h.kilojoules % 2 ^ 32
          ∧ fieldNat p 23 4 = h.ua.getD 0 % 2 ^ 32 ∧ fieldNat p 27 2 = h.index.getD 0xFFFF % 2 ^ 16)
      ∧ fieldNat p 29 2 = r.strayCount.toNat
      ∧ fieldNat p 31 1 = (s.spl.claims.filter (·.station = n)).length % 2 ^ 8
      ∧ fieldNat p 32 4 = silence / 8000 ∧ fieldNat p 36 2 = n.val)
  ∧ (∀ r : SetRecord, r.record.length = 10 + 5 * r.readings.length ∧ fieldNat r.record 0 4 = r.sequence.toNat
      ∧ fieldNat r.record 4 4 = r.endTime.toNat
      ∧ fieldNat r.record 8 1 = r.short.toNat + 2 * r.empty.toNat ∧ fieldNat r.record 9 1 = r.readings.length % 2 ^ 8
      ∧ (List.range r.readings.length).map (fun i =>
          (fieldNat r.record (10 + 5 * i) 1, BitVec.ofNat 32 (fieldNat r.record (11 + 5 * i) 4))) =
          r.readings.map (fun x => (x.value.isSome.toNat + 2 * x.saturated.toNat + 16 * x.channel.val,
            BitVec.ofInt 32 (x.value.getD 0))))
  ∧ (∀ r : CaptureRecord, r.record.length = 17 ∧ fieldNat r.record 0 4 = r.lineTime.toNat
      ∧ fieldNat r.record 4 4 = r.localCount.toNat ∧ fieldNat r.record 8 2 = r.slaveEdges % 2 ^ 16
      ∧ fieldNat r.record 10 2 = r.masterCount.toNat
      ∧ fieldNat r.record 12 1 = r.lead.isSome.toNat ∧ fieldNat r.record 13 4 = (r.lead.getD 0).toNat)
  ∧ (∀ (s : State) (c : Claim),
      let p := s.claimRecord c
      p.length = 8 ∧ fieldNat p 0 1 = c.station.val + 16 * c.slot.val
      ∧ fieldNat p 1 1 % 16 = c.unit.val + 4 * c.firm.toNat
      ∧ ((∀ k, s.isOwnEntry k c = false) → fieldNat p 1 1 / 16 = 0)
      ∧ (∀ k, s.isOwnEntry k c = true → fieldNat p 1 1 / 16 =
          match s.slotState k with
          | .announced => 1 | .settling _ => 2 | .firm => 3 | .started => 4 | .free | .waiting _ => 0)
      ∧ fieldNat p 2 4 = c.start.toNat ∧ fieldNat p 6 2 = c.length % 2 ^ 16)
  ∧ (∀ e : Edge, e.record.length = 9 ∧ fieldNat e.record 0 2 = e.sequence.toNat
      ∧ fieldNat e.record 2 1 = e.output.val + 8 * e.high.toNat + (if e.origin = .stop then 16 else 0)
      ∧ fieldNat e.record 3 4 = e.due.toNat ∧ fieldNat e.record 7 2 = e.startNumber.toNat)
  ∧ (∀ r : IndexRecord, r.record.length = 15 ∧ fieldNat r.record 0 4 = r.endTime.toNat
      ∧ fieldNat r.record 4 1 = r.watch.toNat + 2 * r.alarm.toNat + 4 * r.ua.isSome.toNat + 8 * r.pressure.isSome.toNat
      ∧ fieldNat r.record 5 2 = r.index.getD 0xFFFF % 2 ^ 16 ∧ fieldNat r.record 7 4 = r.ua.getD 0 % 2 ^ 32
      ∧ BitVec.ofNat 32 (fieldNat r.record 11 4) = BitVec.ofInt 32 (r.pressure.getD 0))

/-- Read Samples: the sets it carries by the table of R70, for a ring numbered as R67 gives. The sets carried lose their
unread mark, a reply with at least one set clears the overrun mark, and a reply with none changes nothing (R68, R70). -/
def Obligations.ReadSamplesCarriesItsSets : Prop :=
  ∀ (s : State) (g : GroupNo) (first : BitVec 32) (n : Byte), s.admitsReads →
    let x := s.groups[g]
    let p := BitVec.ofNat 8 g.val :: bytesOf 4 first.toNat ++ [n]
    let unchanged := s.replies (.readSamples p) 0x04 p (success (samplesReply x false []))
    let carries := fun start gap =>
      let sets := (x.ring.drop start).take n.toNat
      ∃ t, exec (.readSamples p) s = .next t ∧ t.svp = s.answered 0x04 p (success (samplesReply x gap sets))
        ∧ t.groups[g] = { x with
            overrunMark := false
            ring := x.ring.take start ++ sets.map (fun r => { r with unread := false }) ++ x.ring.drop (start + n.toNat) }
        ∧ sameElsewhere g s.groups t.groups ∧ s.onlyChanges t [.svp, .groups]
    (1 ≤ n.toNat ∧ n.toNat ≤ 8 →
      (x.ring = [] → unchanged)
      ∧ ∀ oldest rest, x.ring = oldest :: rest → x.numbered → x.ring.length ≤ 64 →
          let ahead := (first - oldest.record.sequence).toNat
          (ahead < x.ring.length → carries ahead false)
          ∧ (2 ^ 31 < ahead → carries 0 true)
          ∧ (x.ring.length ≤ ahead → ahead ≤ 2 ^ 31 → unchanged))
    ∧ (n.toNat = 0 ∨ 8 < n.toNat → s.replies (.readSamples p) 0x04 p { status := .range, payload := [] })

/-! The attention set (10.6). -/

/-- A cause that is raised while none of its kind and subject is pending enters a record with a count of 1; a pending one
counts it, stopping at 255, keeps its first line time and takes the reason of this raise. The output follows at once
(R207, R208). That a new record stands last in the set is the model's choice, notes/assumptions/17.md. -/
def Obligations.RaisedCauseIsRecorded : Prop :=
  ∀ (s : State) (cause : Cause) (reason : Option ClaimFailure) (t : State),
    ((t = s.raise cause ∧ reason = none)
      ∨ ∃ slot why, t = s.raiseClaimFailed slot why ∧ cause = .claimFailed slot ∧ reason = some why) →
    ((∀ p ∈ s.attention, p.cause ≠ cause) →
      t.attention = s.attention ++ [{ cause := cause, first := s.tmu.lineTime, raises := 1, reason := reason }])
    ∧ (∀ before p after, s.attention = before ++ p :: after → p.cause = cause → (∀ q ∈ before, q.cause ≠ cause) →
        t.attention = before ++ { p with raises := min 255 (p.raises + 1), reason := reason } :: after)
    ∧ t.attentionOutput = (s.attentionOutput || cause = .bootFault || s.config.enableMask.getLsbD cause.kind)
    ∧ s.onlyChanges t [.attention]

/-- Clear Attention: every pending cause whose kind, and whose subject if it has one, is named leaves the set, with its
SATURATION, GUARD_LIMIT or WHEEL_FAULT flag; the others stay. The reply carries the set after the clear; a kind mask that
names BOOT_FAULT or no kind is refused (R209). That the set keeps the order of entry, in which the reply carries it, is the
model's choice, notes/assumptions/17.md. -/
def Obligations.ClearAttentionClearsTheNamed : Prop :=
  ∀ (s : State) (kinds subjects : Nat), s.admitsReads → kinds < 2 ^ 32 → subjects < 2 ^ 16 →
    let p := bytesOf 4 kinds ++ bytesOf 2 subjects
    let named := fun c : Cause => kinds.testBit c.kind && c.subject.all (subjects.testBit ·)
    let cleared := fun c : Cause => named c && s.isPending c
    (kinds < 2 ^ 21 → ∃ t, exec (.clearAttention p) s = .next t
      ∧ t.svp = s.answered 0x27 p (success t.attentionPayload)
      ∧ t.attention = s.attention.filter (fun x => !named x.cause)
      ∧ (∀ c : ChannelNo, t.channels[c] = { s.channels[c] with
          saturationFlag := s.channels[c].saturationFlag && !cleared (.saturation c)
          guardLimitFlag := s.channels[c].guardLimitFlag && !cleared (.guardLimit c) })
      ∧ t.tsv = { s.tsv with wheelFaultFlag := s.tsv.wheelFaultFlag && !cleared .wheelFault }
      ∧ s.onlyChanges t [.svp, .attention, .channels, .tsv])
    ∧ (2 ^ 21 ≤ kinds → s.replies (.clearAttention p) 0x27 p { status := .range, payload := [] })

/-! The station line (chapter 1). -/

/-- What the receiver does with characters and with the line's idle time, in each of its states: SYNC and the characters of
a frame, characters in error, a LENGTH above 24, the gap and the quiet moment (R4, R5, R7, R8). Every character taken is read
back by a notice in flight: it is good when it is free of error and is the frame's next byte, and a collision otherwise, after
which, or after the check byte, no more characters are sent (R24, R25). The model's choices in it: a dropped frame empties the
buffer, where R7 empties it only at SYNC (notes/assumptions/25.md), and what the idle measure knows of its start (11.md). -/
def Obligations.LineReceiverEvents : Prop :=
  ∀ (s : State) (byte : Byte) (stopBit : Bool) (edge : LineTime), s.lineEnabled = true →
    let now := s.tmu.localCount
    let readBack := fun character : Option Byte => s.lif.inFlight.map fun f =>
      let frame := lineFrame f.notice.kind s.stationNo f.payload
      if f.collided = true ∨ frame.length ≤ f.readBack then f
      else if ∃ b, character = some b ∧ frame[f.readBack]? = some b then { f with readBack := f.readBack + 1 }
      else { f with collided := true }
    let heard := { s.lif with quiet := none, idle := .since now, inFlight := readBack (some byte) }
    (s.lif.rx = .hunt → ∃ t, exec (.syncTaken byte edge) s = .next t ∧ s.onlyChanges t [.lif]
      ∧ t.lif = if byte = 0xB5 then { heard with rx := .frame, buffer := [], syncTime := edge } else heard)
    ∧ (s.lif.rx = .waitGap → ∃ t, exec (.syncTaken byte edge) s = .next t ∧ s.onlyChanges t [.lif] ∧ t.lif = heard)
    ∧ (s.lif.rx = .frame → s.lif.expectsCheck = false → (s.lif.buffer.length = 1 → byte.toNat ≤ 24) →
        ∃ t, exec (.syncTaken byte edge) s = .next t ∧ s.onlyChanges t [.lif]
          ∧ t.lif = { heard with buffer := s.lif.buffer ++ [byte] })
    ∧ (s.lif.rx = .frame → s.lif.buffer.length = 1 → 24 < byte.toNat →
        ∃ t, exec (.longFrame byte) s = .next t ∧ s.onlyChanges t [.lif]
          ∧ t.lif = { heard with
              rx := .waitGap, buffer := []
              counters := { s.lif.counters with longFrame := s.lif.counters.longFrame + 1 } })
    ∧ (∃ t, exec (.characterError stopBit) s = .next t ∧ s.onlyChanges t [.lif]
        ∧ t.lif.counters = { s.lif.counters with characterError := s.lif.counters.characterError + 1 }
        ∧ t.lif.quiet = none ∧ t.lif.idle = (if stopBit then .after now else .since now)
        ∧ t.lif.rx = (if s.lif.rx = .frame then .waitGap else s.lif.rx)
        ∧ t.lif.buffer = (if s.lif.rx = .frame then [] else s.lif.buffer)
        ∧ t.lif.queue = s.lif.queue ∧ t.lif.inFlight = readBack none)
    ∧ ∀ (start : Count) (known : Bool), s.lif.idle = (if known then .since start else .after start) →
        (1408 < (now - start).toNat → ∃ t, exec .gap s = .next t ∧ s.onlyChanges t [.lif]
          ∧ t.lif = { s.lif with
              rx := .hunt
              idle := .since (if known then start else now - 1409)
              buffer := if s.lif.rx = .hunt then s.lif.buffer else []
              counters := { s.lif.counters with
                gapAbort := if s.lif.rx = .frame then s.lif.counters.gapAbort + 1 else s.lif.counters.gapAbort } })
        ∧ ((now - start).toNat ≤ 1408 → exec .gap s = .next s)
        ∧ (s.lif.quiet = none → 2816 ≤ (now - start).toNat →
            let from_ := if known then start else now - 2816
            ∃ t, exec .quietMoment s = .next t ∧ s.onlyChanges t [.lif]
              ∧ t.lif = { s.lif with idle := .since from_, quiet := some (from_ + 2816) })
        ∧ ((now - start).toNat < 2816 → exec .quietMoment s = .next s)

/-- The checks of a complete frame in their order: check byte, own frame, kind, own number, LENGTH; and otherwise a notice
heard, which counts and makes the sender's row heard at the line time of completion. The frame is the station's own when its
check byte is the last character of the notice in flight, read back good after all the others (R24). The receiver is in HUNT
after each (R9, R10, R12). The model's choices in it: a completed frame leaves the buffer empty (notes/assumptions/25.md), and
the check byte itself tells the own frame, NOTICE_SENT_WHOLE coming after it (32.md). -/
def Obligations.FrameReceivedIsChecked : Prop :=
  ∀ (s : State) (check head length : Byte) (p : List Byte) (order : List Dependant),
    s.lineEnabled = true → s.lif.rx = .frame → s.lif.buffer = head :: length :: p → length.toNat ≤ p.length →
    let good := checkByte s.lif.buffer
    let kind := head.toNat / 16
    let own := ∃ f, s.lif.inFlight = some f ∧ f.collided = false
      ∧ let frame := lineFrame f.notice.kind s.stationNo f.payload
        frame[f.readBack]? = some check ∧ f.readBack + 1 = frame.length
    let counted := fun c => { s.frameTaken check with counters := c }
    let c := s.lif.counters
    (check ≠ good → ∃ t, exec (.frameReceived check order) s = .next t ∧ s.onlyChanges t [.lif]
      ∧ t.lif = counted { c with checkError := c.checkError + 1 })
    ∧ (check = good → own → ∃ t, exec (.frameReceived check order) s = .next t ∧ s.onlyChanges t [.lif]
        ∧ t.lif = s.frameTaken check)
    ∧ (check = good → ¬own →
        (kind = 0 ∨ 8 ≤ kind → ∃ t, exec (.frameReceived check order) s = .next t ∧ s.onlyChanges t [.lif]
          ∧ t.lif = counted { c with unknownKind := c.unknownKind + 1 })
        ∧ (1 ≤ kind → kind ≤ 7 →
            (head.toNat % 16 = s.stationNo.val → ∃ t, exec (.frameReceived check order) s = .next t
              ∧ s.onlyChanges t [.lif, .attention] ∧ t.lif = counted { c with validFrame := c.validFrame + 1 }
              ∧ t.isPending .duplicateStation = true)
            ∧ ∀ sender : StationNo, head.toNat % 16 = sender.val → sender ≠ s.stationNo →
                (kindLength? kind ≠ some p.length → ∃ t, exec (.frameReceived check order) s = .next t
                  ∧ s.onlyChanges t [.lif] ∧ t.lif = counted { c with badLength := c.badLength + 1 })
                ∧ (kindLength? kind = some p.length → ∃ t, exec (.frameReceived check order) s = .next t
                    ∧ t.lif.counters = { c with validFrame := c.validFrame + 1 } ∧ t.lif.rx = .hunt
                    ∧ t.lif.inFlight = s.flightAfter (some check)
                    ∧ t.peers[sender].heard = true ∧ t.peers[sender].lastHeard = s.tmu.lineTime
                    ∧ t.peers[sender].silence = .running s.tmu.localCount ∧ t.peers[sender].silent = false
                    ∧ sameElsewhere sender s.peers t.peers)))

/-- The fields that each kind of notice heard sets in the sender's row, with the values outside the stated ranges taken as
the rules give, and the last peer trip and last peer clear (R14, R17 to R20, R102). From a trip view that agreed before, the
view follows the rows: an onset by TRIP records its trip line time when that is 0 to 1 s late, and otherwise, as by TIME, the
line time of completion, with the sender and how it was heard, raises PEER_TRIP, and reaches the planner and every unit; a
release, by CLEAR or TIME, keeps the onset and reaches them too; and an unchanged view does nothing (R102 to R105). -/
def Obligations.HeardNoticeWritesTheRow : Prop :=
  ∀ (s : State) (kind : Nat) (n : StationNo) (p : List Byte) (order : List Dependant), s.hears kind n p →
    ∃ t, exec (.frameReceived (frameCheck kind n p) order) s = .next t
      ∧ let old := s.peers[n]
        let row := t.peers[n]
        let index := fun i : Nat => if i = 0xFFFF then none else some (min 2000 i)
        (kind = 1 →
          let flags := fieldNat p 4 1
          let status := fieldNat p 5 1
          let code := fieldNat p 6 1 % 16
          row.joined = flags.testBit 7
          ∧ row.roles = { well := flags.testBit 0, turbine := flags.testBit 1, exchange := flags.testBit 2 }
          ∧ row.tripLatched = status.testBit 0
          ∧ row.scaling = (match status / 2 % 4 with | 0 => .clear | 1 => .watch | _ => .alarm)
          ∧ row.acknowledged = status.testBit 3 ∧ row.activeUnits = min 4 (status / 16 % 8)
          ∧ row.beaconCode = (if code = 0 then 1 else min 10 code)
          ∧ row.scalingChange = old.scalingChange ∧ row.lastIndex = old.lastIndex ∧ row.heat = old.heat)
        ∧ (kind = 2 ∨ kind = 3 → row = { old with
            heard := true, lastHeard := s.tmu.lineTime, silence := .running s.tmu.localCount, silent := false })
        ∧ (kind = 4 → row.tripLatched = true ∧ t.tsv.lastPeerTrip = some
            { sender := n, time := BitVec.ofNat 32 (fieldNat p 0 4), cause := BitVec.ofNat 8 (fieldNat p 4 1),
              speed := fieldNat p 5 2 })
        ∧ (kind = 5 → row.tripLatched = false
            ∧ t.tsv.lastPeerClear = some { sender := n, time := BitVec.ofNat 32 (fieldNat p 0 4) })
        ∧ (kind = 6 →
            let i := index (fieldNat p 12 2)
            row.lastIndex = i
            ∧ row.heat = some
              { intervalEnd := BitVec.ofNat 32 (fieldNat p 0 4), kilojoules := fieldNat p 4 4,
                ua := if i.isSome then some (fieldNat p 8 4) else none, index := i }
            ∧ s.onlyChanges t [.lif, .peers, .spl, .freeNext])
        ∧ (kind = 7 →
            let code := fieldNat p 0 1
            row.scaling = (match code % 4 with | 0 => .clear | 1 => .watch | _ => .alarm)
            ∧ row.acknowledged = code.testBit 3 ∧ row.lastIndex = index (fieldNat p 1 2)
            ∧ row.scalingChange = BitVec.ofNat 32 (fieldNat p 3 4) ∧ row.tripLatched = old.tripLatched)
        ∧ (TripViewAgrees s →
            let tripTime := BitVec.ofNat 32 (fieldNat p 0 4)
            let time :=
              if kind = 4 ∧ (s.tmu.lineTime - tripTime).toNat ≤ 1000000 then tripTime else s.tmu.lineTime
            (t.tsv.viewActive = true ↔
              s.tsv.latch = true ∨ ∃ m : StationNo, m ≠ s.stationNo ∧ t.peers[m].tripLatched = true)
            ∧ (s.tsv.viewActive = false → t.tsv.viewActive = true →
                t.tsv.onset =
                  some { time := time, source := if kind = 4 then .peerByTrip n else .peerByTime n }
                ∧ t.isPending (.peerTrip n) = true ∧ t.spl.tripHold = true
                ∧ ∀ u : UnitNo, t.units[u].tripFlag = true ∧ t.units[u].lastOnset.map (·.time) = some time)
            ∧ (s.tsv.viewActive = true ∨ t.tsv.viewActive = false →
                t.tsv.onset = s.tsv.onset ∧ (∀ m, t.isPending (.peerTrip m) = s.isPending (.peerTrip m))
                ∧ t.spl.tripHold = t.tsv.viewActive ∧ ∀ u : UnitNo, t.units[u].tripFlag = t.tsv.viewActive))

/-- The head of the transmit queue is started in RUN on a quiet line once its access wait has passed since the quiet moment,
and not before; its payload is filled at that edge, a TIME's from the state then (R13, R23, R24, R30). -/
def Obligations.NoticeStartFollowsItsWait : Prop :=
  ∀ (s : State) (e : QueueEntry) (rest : List QueueEntry) (quiet : Count), s.lif.queue = e :: rest → s.lif.quiet = some quiet →
    s.svp.station = .run → s.lif.inFlight = none →
    let slots :=
      if 0 < e.collisions then 17 + s.stationNo.val
      else match e.notice with
        | .trip .. | .clear _ => 0
        | _ => 1 + s.stationNo.val
    (704 * slots ≤ (s.tmu.localCount - quiet).toNat →
      ∃ t, exec .noticeStart s = .next t ∧ s.onlyChanges t [.lif]
        ∧ t.lif = { s.lif with
            queue := rest, quiet := none, idle := .after s.tmu.localCount
            inFlight := some
              { notice := e.notice, collisions := e.collisions, payload := s.noticePayload e.notice
                readBack := 0, collided := false } }
        ∧ (e.notice = .time → s.noticePayload e.notice =
            bytesOf 4 s.tmu.lineTime.toNat ++
              [BitVec.ofNat 8 (s.config.roles.well.toNat + 2 * s.config.roles.turbine.toNat
                + 4 * s.config.roles.exchange.toNat + 128 * s.tmu.joined.toNat),
               BitVec.ofNat 8 (s.tsv.latch.toNat + 2 * (match s.scw.state with | .clear => 0 | .watch => 1 | .alarm => 2)
                + 8 * s.scw.acknowledged.toNat + 16 * (s.units.toList.filter (·.state ≠ .idle)).length),
               BitVec.ofNat 8 s.config.beaconCode]))
    ∧ ((s.tmu.localCount - quiet).toNat < 704 * slots → exec .noticeStart s = .next s)

/-- The notice in flight ends by being sent whole, once the last byte of its frame has been read back good and not before; or,
once a character was not read back good and not otherwise, by a collision after which it returns to the queue with its count, or
at its eighth collision by being discarded with LINE_JAMMED. The start planner is told of a CLAIM (R24, R25, R29, R158, R159).
That the command follows the character that settles it is the model's choice, notes/assumptions/31.md and 32.md. -/
def Obligations.NoticeInFlightEnds : Prop :=
  ∀ (s : State) (f : InFlight), s.lif.inFlight = some f → s.svp.station = .run →
    let c := s.lif.counters
    let sameGroup := s.lif.queue.filter fun e => e.notice.group = f.notice.group
    let others := s.lif.queue.filter fun e => e.notice.group ≠ f.notice.group
    let first := fun e : QueueEntry =>
      if e.notice.classZero then e :: others
      else others.filter (·.notice.classZero) ++ e :: others.filter (!·.notice.classZero)
    let length := (lineFrame f.notice.kind s.stationNo f.payload).length
    (f.collided = true ∨ f.readBack < length → exec .noticeSentWhole s = .next s)
    ∧ (f.collided = false → exec .collision s = .next s)
    ∧ (f.collided = false → length ≤ f.readBack → ∃ t, exec .noticeSentWhole s = .next t
      ∧ t.lif = { s.lif with inFlight := none, counters := { c with frameSent := c.frameSent + 1 } }
      ∧ t.own = { s.own with lastHeard := s.tmu.lineTime }
      ∧ (f.notice.isClaim = false → s.onlyChanges t [.lif, .own])
      ∧ ∀ slot unit start length firm, f.notice = .claim slot unit start length firm →
          s.onlyChanges t [.lif, .own, .spl]
          ∧ (s.slotState slot = .announced → (∃ own, s.ownEntry? slot = some own ∧ own.start = start ∧ own.length = length) →
              t.slotState slot = .settling s.tmu.localCount ∧ t.spl.claims = s.spl.claims
                ∧ sameElsewhere slot s.spl.slots t.spl.slots)
          ∧ (s.slotState slot ≠ .announced → t.spl = s.spl))
    ∧ (f.collided = true → f.collisions + 1 < 8 → sameGroup.length ≤ 1 →
        ∃ t, exec .collision s = .next t ∧ s.onlyChanges t [.lif]
          ∧ t.lif.inFlight = none ∧ t.lif.counters = { c with collision := c.collision + 1 }
          ∧ (sameGroup = [] → t.lif.queue = first { notice := f.notice, collisions := f.collisions + 1 })
          ∧ ∀ e, sameGroup = [e] →
              t.lif.queue = if f.notice.isClaim && e.notice.isRelease then others
                else first { e with collisions := f.collisions + 1 })
    ∧ (f.collided = true → 8 ≤ f.collisions + 1 →
        ∃ t, exec .collision s = .next t ∧ s.onlyChanges t [.attention, .lif, .spl]
          ∧ t.lif.inFlight = none ∧ t.isPending .lineJammed = true
          ∧ t.lif.counters = { c with collision := c.collision + 1, jammed := c.jammed + 1 }
          ∧ (f.notice.isClaim = false → t.lif.queue = s.lif.queue ∧ t.spl = s.spl)
          ∧ ∀ slot unit start length firm, f.notice = .claim slot unit start length firm → s.slotState slot = .announced →
              (∃ own, s.ownEntry? slot = some own ∧ own.start = start ∧ own.length = length) →
              t.slotState slot = .free ∧ t.isPending (.claimFailed slot) = true
                ∧ t.spl.claims.filter (s.isOwnEntry slot) = [])

/-- What queuing a notice does to the transmit queue: with no entry of its coalescing group it is placed last among its
class; over such an entry it takes that entry's place and collision count; a RELEASE over its slot's queued CLAIM removes
the CLAIM and is not queued (R26 to R28). -/
def Obligations.QueuedNoticeIsCoalesced : Prop :=
  ∀ (s : State) (n : Notice),
    let t := s.queueNotice n
    s.onlyChanges t [.lif] ∧ t.lif = { s.lif with queue := t.lif.queue }
    ∧ ((∀ e ∈ s.lif.queue, e.notice.group ≠ n.group) →
        t.lif.queue = if n.classZero
          then s.lif.queue.filter (·.notice.classZero) ++ { notice := n, collisions := 0 } ::
            s.lif.queue.filter (!·.notice.classZero)
          else s.lif.queue ++ [{ notice := n, collisions := 0 }])
    ∧ ∀ before e after, s.lif.queue = before ++ e :: after → e.notice.group = n.group →
        (∀ x ∈ before ++ after, x.notice.group ≠ n.group) →
        t.lif.queue = if n.isRelease && e.notice.isClaim then before ++ after
          else before ++ { e with notice := n } :: after

/-- The timers of the line and of the time unit: a heard row falls silent after four own beacon periods with PEER_SILENT, a
silent row's timer stops at 2^31 periods, each beacon queues TIME and restarts its timer from the expiry count, and the
join timer's expiry joins the station (R22, R36, R42). -/
def Obligations.LineTimersExpire : Prop :=
  ∀ s : State,
    let period := 800000 * s.config.beaconCode
    (∀ (n : StationNo) (start : Count), s.lineEnabled = true → n ≠ s.stationNo →
      s.peers[n].silence = .running start →
        (s.peers[n].heard = true → s.peers[n].silent = false → 4 * period ≤ (s.tmu.localCount - start).toNat →
          ∃ t, exec (.peerSilence n) s = .next t ∧ t.peers[n] = { s.peers[n] with silent := true }
            ∧ sameElsewhere n s.peers t.peers ∧ t.isPending (.peerSilent n) = true
            ∧ s.onlyChanges t [.attention, .lif, .peers, .spl, .freeNext])
        ∧ ((s.tmu.localCount - start).toNat < 4 * period → exec (.peerSilence n) s = .next s)
        ∧ (s.peers[n].silent = true → 2 ^ 31 ≤ (s.tmu.localCount - start).toNat →
            ∃ t, exec (.silenceTimerStop n) s = .next t ∧ t.peers[n] = { s.peers[n] with silence := .held }
              ∧ sameElsewhere n s.peers t.peers ∧ s.onlyChanges t [.peers]))
    ∧ (s.svp.station = .run →
        (∀ start, s.tmu.beaconTimer = some start → period ≤ (s.tmu.localCount - start).toNat →
          ∃ t, exec .beacon s = .next t ∧ s.onlyChanges t [.lif, .tmu, .spl]
            ∧ t.tmu = { s.tmu with beaconTimer := some (start + BitVec.ofNat 32 period) }
            ∧ ∃ e ∈ t.lif.queue, e.notice = .time)
        ∧ ∀ start, s.tmu.joinTimer = some start → s.tmu.joined = false → 3 * period ≤ (s.tmu.localCount - start).toNat →
            ∃ t, exec .joinTimerExpiry s = .next t ∧ s.onlyChanges t [.tmu]
              ∧ t.tmu = { s.tmu with joined := true, joinTimer := none })

/-! Line time (chapter 2). -/

/-- A heard TIME at the time unit: an unjoined sender's time is ignored; an unjoined station adopts a joined sender's time
whatever the difference; a joined station steps to a later time; and it keeps its own against an earlier one, which it
counts as a stray beyond the limit (R37 to R40). -/
def Obligations.HeardTimeIsAdopted : Prop :=
  ∀ (s : State) (n : StationNo) (p : List Byte) (order : List Dependant), s.hears 1 n p →
    let advance := BitVec.ofNat 32 (fieldNat p 0 4) - s.lif.syncTime
    let d := advance.toInt
    let senderJoined := (fieldNat p 4 1).testBit 7
    ∃ t, exec (.frameReceived (frameCheck 1 n p) order) s = .next t
      ∧ (senderJoined = false → t.tmu = s.tmu ∧ t.peers[n].strayCount = s.peers[n].strayCount)
      ∧ (senderJoined = true → s.tmu.joined = false →
          t.tmu = { s.tmu with lineTime := s.tmu.lineTime + advance, joined := true, joinTimer := none }
          ∧ (1000 * s.config.largeStepMs < d.natAbs → t.isPending .largeStep = true))
      ∧ (senderJoined = true → s.tmu.joined = true → 1 ≤ d →
          t.tmu = { s.tmu with lineTime := s.tmu.lineTime + advance }
          ∧ (1000 * s.config.largeStepMs < d.natAbs → t.isPending .largeStep = true))
      ∧ (senderJoined = true → s.tmu.joined = true → d ≤ 0 →
          t.tmu = s.tmu
          ∧ (1000 * s.config.strayMs < d.natAbs →
              t.peers[n].strayCount = s.peers[n].strayCount + 1 ∧ t.isPending (.strayPeer n) = true)
          ∧ (d.natAbs ≤ 1000 * s.config.strayMs → t.peers[n].strayCount = s.peers[n].strayCount))

/-- A time step in CONFIG reaches the claim table alone: the entries whose end has been reached at "after" expire, nothing
is planned, and no other block changes (R170). -/
def Obligations.StepInConfigReachesClaimsAlone : Prop :=
  ∀ (s : State) (e : StepEvent) (order : List Dependant), s.svp.station = .config → RestOutsideRun s → PumpsAgree s →
    s.onlyChanges (s.deliverSteps e order) [.spl]
    ∧ (s.deliverSteps e order).spl =
        { s.spl with claims := s.spl.claims.filter fun c => later c.endTime s.tmu.lineTime }

/-! Measurement channels (chapter 3). -/

/-- The weights of the sinc filters: (1 + z + … + z^(D−1))^n has n(D − 1) + 1 coefficients, which add up to
D^n, so that a raw output lies between −D^n and D^n and reaches each bound on equal inputs (R48, R52). -/
def Obligations.SincFilterBounds : Prop :=
  ∀ (n D : Nat), 1 ≤ D →
    (sincCoefficients n D).length = n * (D - 1) + 1
    ∧ (sincCoefficients n D).sum = D ^ n
    ∧ (∀ inputs, (weightedSum (sincCoefficients n D) inputs).natAbs ≤ D ^ n)
    ∧ weightedSum (sincCoefficients n D) (List.replicate (n * (D - 1) + 1) true) = D ^ n
    ∧ weightedSum (sincCoefficients n D) (List.replicate (n * (D - 1) + 1) false) = -(D ^ n : Nat)

/-- A main output of a running channel, at the D-th counted edge since the last one, each bit sampled being one input to both
filters: the first two are discarded; each later one is normalised, rounded half away from zero and clamped, becomes the last
main output with its reading, enters its group's open set, and when it stands at full scale sets the SATURATION flag and
raises the cause (R46 to R51, R54, R61). That the command brings the bits of the edges since the channel's last output, and
has no effect at another edge, is the model's choice, notes/assumptions/19.md. -/
def Obligations.MainOutputIsTaken : Prop :=
  ∀ (s : State) (c : ChannelNo) (bits : List Bool),
    let x := s.channels[c]
    let D := 2 ^ x.config.k
    let inputs := (bits.reverse ++ x.inputs).take (3 * D - 2)
    let y := { x with inputs := inputs, mainEdges := 0, guardEdges := x.guardEdges + bits.length }
    let due := x.mainEdges + bits.length = D ∧ x.guardEdges + bits.length ≤ 2 ^ x.config.j
    (x.running = false ∨ ¬due → exec (.mainOutput c bits) s = .next s)
    ∧ (x.running = true → due → 5 ≤ x.config.k → x.config.k ≤ 8 →
      (x.mainDiscarded < 2 → ∃ t, exec (.mainOutput c bits) s = .next t ∧ s.onlyChanges t [.channels]
        ∧ sameElsewhere c s.channels t.channels
        ∧ t.channels[c] = { y with mainDiscarded := x.mainDiscarded + 1 })
      ∧ (2 ≤ x.mainDiscarded →
          ∃ (t : State) (v reading : Int), exec (.mainOutput c bits) s = .next t
            ∧ s.onlyChanges t [.attention, .channels, .groups]
            ∧ let r := weightedSum (sincCoefficients 3 D) inputs
              let divisor : Nat := 2 ^ (3 * x.config.k - 15)
              let saturated := r.natAbs = D ^ 3
              (∃ q, roundsTo r divisor q ∧ v = max (-32768) (min 32767 q))
              ∧ (∃ q, roundsTo (v * x.config.span) 32768 q
                  ∧ reading = max (-(2 ^ 31)) (min (2 ^ 31 - 1) (x.config.offset + q)))
              ∧ sameElsewhere c s.channels t.channels
              ∧ t.channels[c] = { y with
                  lastMain := some { value := v, reading := reading }
                  saturationFlag := x.saturationFlag || saturated }
              ∧ (saturated → t.isPending (.saturation c) = true) ∧ (¬saturated → t.attention = s.attention)
              ∧ (x.config.group = none → t.groups = s.groups)
              ∧ ∀ g o, x.config.group = some g → s.groups[g].openSet = some o →
                  sameElsewhere g s.groups t.groups
                  ∧ t.groups[g] = { s.groups[g] with openSet := some { o with
                      members := o.members.map fun m =>
                        if m.channel = c then
                          { m with sum := m.sum + v, count := m.count + 1, saturated := m.saturated || saturated }
                        else m } }))

/-- A guard output of a running channel, at the D_g-th counted edge since the last one: the first is discarded; each later
one enters the guard history and, as an excursion or not, the guard window, and is saturated at full scale. The guard limit
event comes when the count first reaches the effective count while armed: it sets the flag, raises the cause and stops a
bound unit (R46, R47, R52, R53, R55 to R58, R184). That the command brings the bits of the edges since the channel's last
output, and has no effect at another edge, is the model's choice, notes/assumptions/19.md. -/
def Obligations.GuardOutputIsTaken : Prop :=
  ∀ (s : State) (c : ChannelNo) (bits : List Bool),
    let x := s.channels[c]
    let D := 2 ^ x.config.j
    let inputs := (bits.reverse ++ x.inputs).take (3 * 2 ^ x.config.k - 2)
    let y := { x with inputs := inputs, mainEdges := x.mainEdges + bits.length, guardEdges := 0 }
    let due := x.guardEdges + bits.length = D ∧ x.mainEdges + bits.length ≤ 2 ^ x.config.k
    (x.running = false ∨ ¬due → exec (.guardOutput c bits) s = .next s)
    ∧ (x.running = true → due → 3 ≤ x.config.j → x.config.j ≤ 5 → 5 ≤ x.config.k → 1 ≤ x.config.window →
      (x.guardDiscarded < 1 → ∃ t, exec (.guardOutput c bits) s = .next t ∧ s.onlyChanges t [.channels]
        ∧ sameElsewhere c s.channels t.channels
        ∧ t.channels[c] = { y with guardDiscarded := x.guardDiscarded + 1 })
      ∧ (1 ≤ x.guardDiscarded → ∃ t, exec (.guardOutput c bits) s = .next t
        ∧ let r := weightedSum (sincCoefficients 2 D) inputs
          let v := min 32767 (r * 2 ^ (15 - 2 * x.config.j))
          let saturated := r.natAbs = D ^ 2
          let excursion : Bool := v < x.config.lowLimit || x.config.highLimit < v
          let all := x.guardWindow.results ++ [excursion]
          let results := all.drop (all.length - x.config.window)
          let reached : Bool := min x.config.count x.config.window ≤ results.count true
          let event := reached && x.guardWindow.armed
          sameElsewhere c s.channels t.channels
          ∧ t.channels[c] = { y with
              lastGuard := some v
              guardHistory := (x.guardHistory ++ [v]).drop (x.guardHistory.length + 1 - 8)
              guardWindow := { results := results, armed := !reached }
              saturationFlag := x.saturationFlag || saturated
              guardLimitFlag := x.guardLimitFlag || event }
          ∧ (saturated → t.isPending (.saturation c) = true)
          ∧ (event = false → ¬saturated → t.attention = s.attention)
          ∧ (event = true → t.isPending (.guardLimit c) = true)
          ∧ ((event = false ∨ x.config.bound = none) → s.onlyChanges t [.attention, .channels])
          ∧ ∀ u, event = true → x.config.bound = some u →
              s.onlyChanges t [.attention, .lif, .channels, .spl, .units, .outputs, .freeNext]
              ∧ sameElsewhere u s.units t.units
              ∧ (s.units[u].state = .starting ∨ s.units[u].state = .running →
                  t.units[u].state = .stopping ∨ t.units[u].state = .idle)
              ∧ (s.units[u].state = .idle ∨ s.units[u].state = .stopping → t.units[u] = s.units[u] ∧ t.outputs = s.outputs)))

/-- The close of a group's open set: at its boundary, with the next set full, or at a time step whose span holds the next
boundary or a later one or which goes backward, short, with the next set short. The record enters the ring with the next
sequence number, the oldest set leaves a full ring (a loss if it is unread, reported once a run), the ring mark counts, the
members take their latest set values, and the open interval of an active scaling watch adds each of its channels' readings
that are present and not saturated (R61 to R69, R126). A step that passes no boundary leaves the group as it is; that this,
and what counts as passed, holds too when the next boundary had been reached before the step is the model's reading,
notes/assumptions/33.md. -/
def Obligations.SetsCloseAtBoundariesAndSteps : Prop :=
  ∀ (s : State) (g : GroupNo) (o : OpenSet), s.groups[g].openSet = some o → (o.members.map (·.channel)).Nodup →
    let x := s.groups[g]
    let closes := fun (t : State) (endTime : LineTime) (short nextShort : Bool) =>
      let record : SetRecord :=
        { sequence := x.nextSequence, endTime := endTime, short := short, empty := o.members.all (·.count = 0)
          readings := o.members.map fun m =>
            { channel := m.channel, saturated := m.saturated
              value := if m.count = 0 then none
                else some (s.channels[m.channel].config.reading (m.sum.tdiv m.count)) } }
      let full := 64 ≤ x.ring.length
      let loss := full ∧ ∃ oldest, x.ring.head? = some oldest ∧ oldest.unread = true
      let y := t.groups[g]
      s.onlyChanges t [.attention, .channels, .groups, .scw]
      ∧ sameElsewhere g s.groups t.groups
      ∧ y.ring = (if full then x.ring.tail else x.ring) ++ [{ record := record, unread := true }]
      ∧ y.nextSequence = x.nextSequence + 1 ∧ y.periodMs = x.periodMs ∧ y.ringMark = x.ringMark
      ∧ (loss → y.overrunMark = true ∧ (x.overrunMark = false →
          y.overrunCount = x.overrunCount + 1 ∧ t.isPending (.ringOverrun g) = true))
      ∧ (¬loss ∨ x.overrunMark = true → y.overrunCount = x.overrunCount ∧ y.overrunMark = x.overrunMark)
      ∧ (x.ringMark = 0 → y.markCounter = x.markCounter)
      ∧ (0 < x.ringMark → x.markCounter + 1 < x.ringMark → y.markCounter = x.markCounter + 1)
      ∧ (0 < x.ringMark → x.ringMark ≤ x.markCounter + 1 → y.markCounter = 0 ∧ t.isPending (.ringMark g) = true)
      ∧ y.openSet = some
          { members := (s.members g).map fun c => { channel := c, sum := 0, count := 0, saturated := false }
            short := nextShort
            nextBoundary :=
              let next := (endTime.toNat / (1000 * x.periodMs) + 1) * (1000 * x.periodMs)
              if next < 2 ^ 32 then BitVec.ofNat 32 next else 0 }
      ∧ (∀ r ∈ record.readings, t.channels[r.channel] =
          { s.channels[r.channel] with latest := r.value, latestSaturated := r.saturated })
      ∧ (∀ c, c ∉ o.members.map (·.channel) → t.channels[c] = s.channels[c])
      ∧ (s.scw.active = false ∨ s.scw.interval = none → t.scw = s.scw)
      ∧ ∀ i, s.scw.active = true → s.scw.interval = some i →
          let added := fun (a : Accumulator) (channel : Option ChannelNo) =>
            match channel.bind fun c => record.readings.find? (·.channel = c) with
            | some { channel := _, value := some v, saturated := false } => { sum := a.sum + v, count := a.count + 1 }
            | _ => a
          t.scw = { s.scw with interval := some { i with
            hotIn := added i.hotIn s.scw.config.hotIn, hotOut := added i.hotOut s.scw.config.hotOut
            coldIn := added i.coldIn s.hmt.config.ret, coldOut := added i.coldOut s.hmt.config.supply
            pressure := added i.pressure s.scw.config.pressure } }
    (s.svp.station = .run → later o.nextBoundary s.tmu.lineTime = false →
      ∃ t, exec (.setBoundary g) s = .next t ∧ closes t o.nextBoundary o.short false)
    ∧ (s.svp.station = .run → later o.nextBoundary s.tmu.lineTime = true → exec (.setBoundary g) s = .next s)
    ∧ ∀ e : StepEvent,
        let crossed := e.backward = true ∨ e.inSpan o.nextBoundary = true
          ∨ ∃ m : Nat, m * (1000 * x.periodMs) < 2 ^ 32
            ∧ e.inSpan (BitVec.ofNat 32 (m * (1000 * x.periodMs))) = true
        (crossed → closes (s.groupStep g e) s.tmu.lineTime true true) ∧ (¬crossed → s.groupStep g e = s)

/-! Pulse capture (chapter 4) and the speeds of chapter 5. -/

/-- A slave edge, which the period's sample shows at the input and in the direction of a running unit's slave source, at most
once a period: its local stamp enters the FIFO of 16, and it is counted; the edge keeps the line stamp it has for the other
sources that name it. A SPEED unit's stamp gives a tooth period from the tooth
reference, and the tooth speed of it is the supervised speed, which may cause an overspeed event and a trip with
OVERSPEED_TOOTH (R73 to R77, R92, R94, R95, R97). A sample that shows no such edge is only noted. The model's choices: that
the command tells the sample, and that one that disagrees with it has no effect (notes/assumptions/20.md), and that a tooth
period of 0 gives 65535 (21.md). -/
def Obligations.SlaveEdgeIsTaken : Prop :=
  ∀ (s : State) (n : CaptureNo) (sample : BitVec 8) (order : List Dependant),
    let u := s.captures[n]
    let stamp := s.tmu.localCount
    let comes := fun source : PulseSource => u.config.slave = some source ∧ s.edgeComes source sample
    ((∃ told, s.pulses.now = some told ∧ told ≠ sample) → exec (.slaveEdge n ⟨sample, order⟩) s = .next s)
    ∧ (s.pulses.now = none ∨ s.pulses.now = some sample → u.running = false ∨ (¬∃ source, comes source) ∨ n ∈ s.pulses.slaves →
        ∃ t, exec (.slaveEdge n ⟨sample, order⟩) s = .next t ∧ s.onlyChanges t [.pulses]
          ∧ t.pulses = { s.pulses with now := some sample })
    ∧ (∀ source, u.running = true → comes source → n ∉ s.pulses.slaves →
      ∃ t, exec (.slaveEdge n ⟨sample, order⟩) s = .next t
        ∧ t.pulses = { s.pulses with
            now := some sample, lineStamps := s.stampsWith source, slaves := s.pulses.slaves ++ [n] }
        ∧ sameElsewhere n s.captures t.captures
        ∧ t.captures[n] = { u with
            fifo := (u.fifo ++ [stamp]).drop (u.fifo.length + 1 - 16)
            slaveCount := u.slaveCount + 1
            betweenCount := min 65535 (u.betweenCount + 1)
            firstSlave := u.firstSlave && u.config.mode ≠ .speed }
        ∧ (u.config.mode ≠ .speed ∨ s.tsv.effectiveTeeth = 0 → s.onlyChanges t [.pulses, .captures])
        ∧ (u.config.mode = .speed → 0 < s.tsv.effectiveTeeth →
            t.tsv.toothReference = some stamp ∧ t.tsv.revolutionReference = s.tsv.revolutionReference
            ∧ (u.firstSlave = true ∨ s.tsv.toothReference = none →
                t.tsv = { s.tsv with toothReference := some stamp } ∧ s.onlyChanges t [.pulses, .captures, .tsv])
            ∧ ∀ r, u.firstSlave = false → s.tsv.toothReference = some r →
                let p := (stamp - r).toNat
                let v := if 2 ^ 31 ≤ p then 0
                  else if p = 0 then 65535
                  else min 65535 (4800000000 / (p * s.tsv.effectiveTeeth))
                t.tsv.toothSpeed = v ∧ s.takesSpeed t v .overspeedTooth
                ∧ s.onlyChanges t
                    [.attention, .lif, .pulses, .captures, .tsv, .spl, .units, .outputs, .freeNext]))

/-- A master edge, which the period's sample shows at the input and in the direction of a running unit's master source, at most
once a period: counted, and but for one that finds the taken flag of its poll period set it forms a capture record, which
enters the history of 4. A GENERAL unit hands nothing on; a SPEED unit's record measures the revolution, restarts the stall
timer and ends a stall. With T_e of 0 the revolution speed is the supervised speed, which may cause a trip with OVERSPEED_REV;
with teeth the record enters the wheel window, whose event sets WHEEL_FAULT, and one with no slave edges gives a supervised
speed of 0. The record carries the edge's two stamps; its line stamp is the one of the edge's first reception in the period,
which no command but a reset changes, so that every source that names the edge gets the same. A poll period's expiry clears the
taken flag and restarts the timer from its expiry count (R73, R75, R78 to R84, R91, R92, R95 to R97). A sample that shows no
such edge is only noted. The model's choices: that the command tells the sample, and that one that disagrees with it has no
effect (notes/assumptions/20.md), and that a period of 0 gives 65535 (21.md). -/
def Obligations.MasterEdgeIsTaken : Prop :=
  ∀ (s : State) (n : CaptureNo) (sample : BitVec 8) (order : List Dependant),
    let u := s.captures[n]
    let stamp := s.tmu.localCount
    let polls := u.config.mode = .general ∧ u.config.poll = true
    let record : CaptureRecord :=
      { lineTime := s.lineStamp u.config.master, localCount := stamp, slaveEdges := u.betweenCount, masterCount := u.masterCount + 1
        lead := if u.config.slave.isSome then (u.fifo.reverse[u.config.lead]?).map (stamp - ·) else none }
    let comes := s.edgeComes u.config.master sample
    let pulses := { s.pulses with
      now := some sample, lineStamps := s.stampsWith u.config.master, masters := s.pulses.masters ++ [n] }
    ((∃ told, s.pulses.now = some told ∧ told ≠ sample) → exec (.masterEdge n ⟨sample, order⟩) s = .next s)
    ∧ (s.pulses.now = none ∨ s.pulses.now = some sample → u.running = false ∨ ¬comes ∨ n ∈ s.pulses.masters →
        ∃ t, exec (.masterEdge n ⟨sample, order⟩) s = .next t ∧ s.onlyChanges t [.pulses]
          ∧ t.pulses = { s.pulses with now := some sample })
    ∧ (u.running = true → comes → n ∉ s.pulses.masters → polls → u.taken = true →
        ∃ t, exec (.masterEdge n ⟨sample, order⟩) s = .next t ∧ s.onlyChanges t [.pulses, .captures] ∧ t.pulses = pulses
          ∧ sameElsewhere n s.captures t.captures ∧ t.captures[n] = { u with masterCount := u.masterCount + 1 })
    ∧ (u.running = true → comes → n ∉ s.pulses.masters → ¬(polls ∧ u.taken = true) →
        ∃ t, exec (.masterEdge n ⟨sample, order⟩) s = .next t ∧ t.pulses = pulses
        ∧ sameElsewhere n s.captures t.captures
        ∧ t.captures[n] = { u with
            masterCount := u.masterCount + 1, recordCount := u.recordCount + 1, betweenCount := 0
            history := (u.history ++ [record]).drop (u.history.length + 1 - 4)
            firstMaster := false, taken := u.taken || decide polls }
        ∧ (u.config.mode = .general → s.onlyChanges t [.pulses, .captures])
        ∧ (u.config.mode = .speed →
            let teeth := s.tsv.effectiveTeeth
            let c := s.tsv.config
            let wheel := s.tsv.wheelWindow
            let missed := decide (u.betweenCount ≠ teeth)
            let reached := wheel.countReached c.wheelWindow c.wheelCount missed
            s.onlyChanges t [.attention, .lif, .pulses, .captures, .tsv, .spl, .units, .outputs, .freeNext]
            ∧ t.tsv.revolutionReference = some stamp ∧ t.tsv.stallTimer = some stamp ∧ t.tsv.stalled = false
            ∧ (∀ r, u.firstMaster = false → s.tsv.revolutionReference = some r →
                let p := (stamp - r).toNat
                let v := if 2 ^ 31 ≤ p then 0 else if p = 0 then 65535 else min 65535 (4800000000 / p)
                t.tsv.revolutionSpeed = v ∧ (teeth = 0 → s.takesSpeed t v .overspeedRev))
            ∧ (u.firstMaster = true ∨ s.tsv.revolutionReference = none → t.tsv.revolutionSpeed = s.tsv.revolutionSpeed
                ∧ (teeth = 0 → t.tsv.overWindow = s.tsv.overWindow ∧ t.tsv.latch = s.tsv.latch))
            ∧ (0 < teeth → u.firstMaster = false →
                t.tsv.wheelWindow = { results := wheel.after c.wheelWindow missed, armed := !reached }
                ∧ t.tsv.wheelFaultFlag = (s.tsv.wheelFaultFlag || (reached && wheel.armed))
                ∧ (reached = true → wheel.armed = true → t.isPending .wheelFault = true)
                ∧ (u.betweenCount = 0 → t.tsv.toothSpeed = 0 ∧ s.takesSpeed t 0 .overspeedTooth)
                ∧ (0 < u.betweenCount → t.tsv.toothSpeed = s.tsv.toothSpeed ∧ t.tsv.overWindow = s.tsv.overWindow
                    ∧ t.tsv.latch = s.tsv.latch ∧ t.tsv.supervisedSpeed = s.tsv.supervisedSpeed))
            ∧ (teeth = 0 ∨ u.firstMaster = true → t.tsv.wheelWindow = s.tsv.wheelWindow
                ∧ t.tsv.wheelFaultFlag = s.tsv.wheelFaultFlag)))
    ∧ (∀ (c : Instr) (t : State) (input : Fin 8) (x : LineTime), c.isReset = false → exec c s = .next t →
        s.pulses.lineStamps[input] = some x → t.pulses.lineStamps[input] = some x)
    ∧ ∀ start, u.running = true → polls → u.pollTimer = some start → 8000 * u.config.pollMs ≤ (stamp - start).toNat →
        ∃ t, exec (.pollTimerExpiry n) s = .next t ∧ s.onlyChanges t [.captures] ∧ sameElsewhere n s.captures t.captures
          ∧ t.captures[n] = { u with
              taken := false, pollTimer := some (start + BitVec.ofNat 32 (8000 * u.config.pollMs)) }

/-! Turbine supervision and trip (chapter 5). -/

/-- The two timed events of the supervisor: a reference 2^31 periods old becomes absent, and nothing else changes; a stall
sets the flag, takes both speeds and the supervised speed to 0, a value that enters the overspeed window, raises STALL and
stops the timer (R93 to R95, R97). -/
def Obligations.SupervisorTimersExpire : Prop :=
  ∀ s : State, s.svp.station = .run →
    (∀ start, s.tsv.revolutionReference = some start → 2 ^ 31 ≤ (s.tmu.localCount - start).toNat →
      ∃ t, exec (.referenceAgeing .revolution) s = .next t ∧ s.onlyChanges t [.tsv]
        ∧ t.tsv = { s.tsv with revolutionReference := none })
    ∧ (∀ start, s.tsv.toothReference = some start → 2 ^ 31 ≤ (s.tmu.localCount - start).toNat →
        ∃ t, exec (.referenceAgeing .tooth) s = .next t ∧ s.onlyChanges t [.tsv]
          ∧ t.tsv = { s.tsv with toothReference := none })
    ∧ ∀ start, s.tsv.stallTimer = some start →
        (800000 * s.tsv.config.stallSteps ≤ (s.tmu.localCount - start).toNat →
          ∃ t, exec .stall s = .next t ∧ s.onlyChanges t [.attention, .lif, .tsv, .spl, .units, .outputs, .freeNext]
            ∧ t.tsv.stalled = true ∧ t.tsv.stallTimer = none ∧ t.tsv.revolutionSpeed = 0 ∧ t.tsv.toothSpeed = 0
            ∧ s.takesSpeed t 0 (if s.tsv.effectiveTeeth = 0 then .overspeedRev else .overspeedTooth)
            ∧ t.isPending .stall = true
            ∧ t.tsv.revolutionReference = s.tsv.revolutionReference ∧ t.tsv.toothReference = s.tsv.toothReference)
        ∧ ((s.tmu.localCount - start).toNat < 800000 * s.tsv.config.stallSteps → exec .stall s = .next s)

/-- Trip latches a trip with the supervised speed when the latch is clear, and is a further cause when it is set; Reset Trip
is refused with the latch clear or the speed at the reset limit, and otherwise clears the latch, queues CLEAR and keeps the
record. After each the trip view is ACTIVE exactly when the latch or a peer row is set, and an onset of the own latch is
recorded with the record's time (R97 to R100, R103, R104). The bytes of Trip's reply are the model's reading of R217,
notes/assumptions/9.md. -/
def Obligations.TripAndResetTrip : Prop :=
  ∀ (s : State) (order : List Dependant), s.admitsRun →
    let now := s.tmu.lineTime
    let parts : List Machine.Part := [.svp, .attention, .lif, .tsv, .spl, .units, .outputs, .freeNext]
    (s.tsv.latch = false → ∃ t, exec (.trip [] order) s = .next t ∧ s.onlyChanges t parts
      ∧ t.tsv.latch = true ∧ t.tripOutput = true ∧ t.tsv.furtherCauses = 0
      ∧ t.tsv.record = some { time := now, cause := .host, speed := s.tsv.supervisedSpeed }
      ∧ t.isPending .trip = true ∧ t.tsv.viewActive = true
      ∧ t.tsv.onset = (if s.tsv.viewActive then s.tsv.onset else some { time := now, source := .own })
      ∧ t.svp = s.answered 0x22 [] (success
          (1 :: 1 :: bytesOf 4 now.toNat ++ [3] ++ bytesOf 4 s.tsv.supervisedSpeed))
      ∧ ∃ e ∈ t.lif.queue, e.notice = .trip now .host s.tsv.supervisedSpeed)
    ∧ (s.tsv.latch = true → ∃ t, exec (.trip [] order) s = .next t ∧ s.onlyChanges t [.svp, .tsv]
        ∧ t.tsv = { s.tsv with furtherCauses := min 65535 (s.tsv.furtherCauses + 1) }
        ∧ t.svp = s.answered 0x22 [] (success
            (0 :: match s.tsv.record with
              | some r => 1 :: bytesOf 4 r.time.toNat ++ [BitVec.ofNat 8 r.cause.code] ++ bytesOf 4 r.speed
              | none => List.replicate 10 0)))
    ∧ (s.tsv.latch = false → s.replies (.resetTrip []) 0x23 [] { status := .notTripped, payload := [] })
    ∧ (s.tsv.latch = true → s.tsv.config.resetLimit ≤ s.tsv.supervisedSpeed →
        s.replies (.resetTrip []) 0x23 [] { status := .speedHigh, payload := [] })
    ∧ (s.tsv.latch = true → s.tsv.supervisedSpeed < s.tsv.config.resetLimit →
        ∃ t, exec (.resetTrip []) s = .next t ∧ s.onlyChanges t parts
          ∧ t.tsv.latch = false ∧ t.tripOutput = false ∧ t.tsv.lastClear = some now
          ∧ t.tsv.record = s.tsv.record ∧ t.tsv.furtherCauses = s.tsv.furtherCauses ∧ t.tsv.overWindow = s.tsv.overWindow
          ∧ (t.tsv.viewActive = true ↔ ∃ n : StationNo, n ≠ s.stationNo ∧ s.peers[n].tripLatched = true)
          ∧ t.svp = s.answered 0x23 [] (success [])
          ∧ ∃ e ∈ t.lif.queue, e.notice = .clear now)

/-! Heat metering (chapter 6). -/

/-- The k-factor of a metered pulse: the table's end entries outside 0 to 150 °C, and between two entries the truncated
interpolation, which stays between them and within 3000 to 4500 like the entries; every metered pulse, forward, reverse or
zero, shows the k it found (R113). -/
def Obligations.KFactorInterpolates : Prop :=
  ∀ (h : Hmt) (t : LineTime) (ts tr : Int),
    let k := kFactor h.config.kTable tr
    (tr ≤ 0 → k = h.config.kTable[0])
    ∧ (15000 ≤ tr → k = h.config.kTable[15])
    ∧ (∀ i : Fin 15, 1000 * (i.val : Int) ≤ tr → tr < 1000 * (i.val + 1) → 0 < tr →
        let low : Int := h.config.kTable[i.val]
        let high : Int := h.config.kTable[i.val + 1]
        k = low + ((high - low) * (tr - 1000 * i.val)).tdiv 1000
        ∧ min low high ≤ k ∧ k ≤ max low high ∧ (tr = 1000 * i.val → k = low))
    ∧ ((∀ i : Fin 16, 3000 ≤ h.config.kTable[i] ∧ h.config.kTable[i] ≤ 4500) → 3000 ≤ k ∧ k ≤ 4500)
    ∧ ∃ r, (h.metered t ts tr).lastPulse = some r ∧ r.k = some k

/-- A flow pulse, handed over by a master edge of the TOTALISER unit. A metered pulse adds V × |ΔT| × k, with |ΔT| clamped to
300 K, to the kJ counter and residue of its direction without losing any of it, and a forward one hands it to the open
interval; an unmetered pulse counts as such with the first reason of R110's table that holds, and raises UNMETERED once a run. Every pulse
adds V to the total volume (R83, R109 to R111, R114 to R119, R127). That the command tells the period's sample is the
model's choice, notes/assumptions/20.md. -/
def Obligations.FlowPulseIsMetered : Prop :=
  (∀ s : State,
      let supply := s.hmt.config.supply
      let ret := s.hmt.config.ret
      let reading := fun c : Option ChannelNo => c.bind fun c => s.channels[c].latest
      let saturated := fun c : Option ChannelNo => c.any fun c => s.channels[c].latestSaturated
      s.meterReadings =
        if supply = none then .error .supplyAbsent
        else if ret = none then .error .returnAbsent
        else match reading supply, reading ret with
          | none, _ => .error .supplyAbsent
          | some _, none => .error .returnAbsent
          | some ts, some tr =>
            if saturated supply then .error .supplySaturated
            else if saturated ret then .error .returnSaturated
            else .ok (ts, tr))
  ∧ ∀ (s : State) (n : CaptureNo) (sample : BitVec 8) (order : List Dependant), s.captures[n].running = true →
      s.captures[n].config.mode = .totaliser → s.edgeComes s.captures[n].config.master sample → n ∉ s.pulses.masters →
      ∃ t, exec (.masterEdge n ⟨sample, order⟩) s = .next t
        ∧ s.onlyChanges t [.attention, .pulses, .captures, .hmt, .scw]
        ∧ let h := s.hmt
          let h' := t.hmt
          let total := fun (kj : BitVec 40) (residue : Nat) => kj.toNat * 10 ^ 8 + residue
          h'.config = h.config ∧ h'.lastClear = h.lastClear
          ∧ h'.totalVolume = h.totalVolume + BitVec.ofNat 48 h.config.volume
          ∧ h'.volumeWrap = (h.volumeWrap || decide (2 ^ 48 ≤ h.totalVolume.toNat + h.config.volume))
          ∧ (∀ why, s.meterReadings = .error why →
              t.scw = s.scw ∧ h'.unmeteredPulses = h.unmeteredPulses + 1
              ∧ h'.unmeteredVolume = h.unmeteredVolume + BitVec.ofNat 48 h.config.volume ∧ h'.unmeteredMark = true
              ∧ h'.forwardKj = h.forwardKj ∧ h'.reverseKj = h.reverseKj ∧ h'.forwardResidue = h.forwardResidue
              ∧ h'.reverseResidue = h.reverseResidue ∧ h'.clampFlag = h.clampFlag
              ∧ (∃ r, h'.lastPulse = some r ∧ r.lineTime = s.lineStamp s.captures[n].config.master ∧ r.cls = .unmetered
                  ∧ r.reason = some why)
              ∧ (h.unmeteredMark = false → t.isPending .unmetered = true)
              ∧ (h.unmeteredMark = true → t.attention = s.attention))
          ∧ ∀ ts tr, s.meterReadings = .ok (ts, tr) →
              let delta : Int := max (-30000) (min 30000 (ts - tr))
              let p := h.config.volume * delta.natAbs * (kFactor h.config.kTable tr).toNat
              t.attention = s.attention ∧ h'.unmeteredMark = false ∧ h'.unmeteredPulses = h.unmeteredPulses
              ∧ h'.unmeteredVolume = h.unmeteredVolume
              ∧ h'.clampFlag = (h.clampFlag || decide (30000 < (ts - tr).natAbs))
              ∧ (∃ r, h'.lastPulse = some r ∧ r.lineTime = s.lineStamp s.captures[n].config.master ∧ r.supply = some ts
                  ∧ r.ret = some tr ∧ r.delta = some delta)
              ∧ (tr < ts → h'.forwardPulses = h.forwardPulses + 1 ∧ h'.forwardResidue < 10 ^ 8
                  ∧ total h'.forwardKj h'.forwardResidue % (2 ^ 40 * 10 ^ 8)
                      = (total h.forwardKj h.forwardResidue + p) % (2 ^ 40 * 10 ^ 8)
                  ∧ h'.forwardWrap = (h.forwardWrap
                      || decide (2 ^ 40 * 10 ^ 8 ≤ total h.forwardKj h.forwardResidue + p))
                  ∧ h'.reverseKj = h.reverseKj ∧ h'.reverseResidue = h.reverseResidue
                  ∧ (∀ i, s.scw.active = true → s.scw.interval = some i →
                      t.scw = { s.scw with interval := some { i with
                        energy := min (2 ^ 64 - 1) (i.energy + p), pulses := i.pulses + 1 } })
                  ∧ (s.scw.active = false → t.scw = s.scw))
              ∧ (ts < tr → h'.reversePulses = h.reversePulses + 1 ∧ h'.reverseResidue < 10 ^ 8 ∧ t.scw = s.scw
                  ∧ total h'.reverseKj h'.reverseResidue % (2 ^ 40 * 10 ^ 8)
                      = (total h.reverseKj h.reverseResidue + p) % (2 ^ 40 * 10 ^ 8)
                  ∧ h'.reverseWrap = (h.reverseWrap
                      || decide (2 ^ 40 * 10 ^ 8 ≤ total h.reverseKj h.reverseResidue + p))
                  ∧ h'.forwardKj = h.forwardKj ∧ h'.forwardResidue = h.forwardResidue)
              ∧ (ts = tr → h'.zeroPulses = h.zeroPulses + 1 ∧ t.scw = s.scw ∧ h'.forwardKj = h.forwardKj
                  ∧ h'.reverseKj = h.reverseKj ∧ h'.forwardResidue = h.forwardResidue
                  ∧ h'.reverseResidue = h.reverseResidue)

/-- The run requests of the two meters: Clear Heat clears the totals and flags and answers with the totals as they stood;
Ack Scaling acknowledges an ALARM with a SCALE notice; Capture Baseline takes the latest evaluation's UA (R122, R140, R141).
The bytes of the replies are the model's reading of R217, notes/assumptions/9.md, and that Clear Heat's reply shows every
field, those that are not totals too, as before the clear is its choice, 37.md. -/
def Obligations.MeterRequests : Prop :=
  ∀ s : State, s.admitsRun →
    let now := s.tmu.lineTime
    (∃ t, exec (.clearHeat []) s = .next t ∧ s.onlyChanges t [.svp, .hmt]
      ∧ t.svp = s.answered 0x26 [] (success s.hmt.payload)
      ∧ t.hmt = { s.hmt with
          forwardKj := 0, reverseKj := 0, forwardResidue := 0, reverseResidue := 0, totalVolume := 0, unmeteredVolume := 0
          forwardPulses := 0, reversePulses := 0, zeroPulses := 0, unmeteredPulses := 0, clampFlag := false
          forwardWrap := false, reverseWrap := false, volumeWrap := false, unmeteredMark := false, lastClear := some now })
    ∧ (s.scw.state ≠ .alarm → s.replies (.ackScaling []) 0x24 [] { status := .notAlarm, payload := [] })
    ∧ (s.scw.state = .alarm → s.scw.acknowledged = true → s.replies (.ackScaling []) 0x24 [] (success []))
    ∧ (s.scw.state = .alarm → s.scw.acknowledged = false → ∃ t, exec (.ackScaling []) s = .next t
        ∧ s.onlyChanges t [.svp, .lif, .own, .scw] ∧ t.svp = s.answered 0x24 [] (success [])
        ∧ t.scw = { s.scw with acknowledged := true } ∧ t.own = { s.own with scalingChange := now }
        ∧ ∃ e ∈ t.lif.queue, e.notice = .scale .alarm true (s.scw.latest.bind (·.record.index)) now)
    ∧ ((∀ e, s.scw.latest = some e → e.noBasis ≠ none) →
        s.replies (.captureBaseline []) 0x25 [] { status := .noBasis, payload := [] })
    ∧ ∀ e ua, s.scw.latest = some e → e.noBasis = none → e.record.ua = some ua →
        (ua = 0 ∨ 2147483647 < ua → s.replies (.captureBaseline []) 0x25 [] { status := .range, payload := [] })
        ∧ (1 ≤ ua → ua ≤ 2147483647 → ∃ t, exec (.captureBaseline []) s = .next t ∧ s.onlyChanges t [.svp, .scw]
            ∧ t.svp = s.answered 0x25 [] (success (bytesOf 4 s.scw.config.baseline ++ bytesOf 4 ua))
            ∧ t.scw = { s.scw with config := { s.scw.config with baseline := ua } })

/-! Scaling watch (chapter 7). -/

/-- The evaluation of a full interval: the means are the truncated quotients of R131, the first condition of R132 that fails is
the no-basis reason, without one UA and the index are the quotients of R133 with their clamps, and the excursions are judged
by the limits of R134 (R131 to R134). -/
def Obligations.IntervalIsEvaluated : Prop :=
  ∀ (config : ScalingConfig) (i : Interval) (b : LineTime),
    let e := evaluate config i b
    let mean := fun a : Accumulator => if a.count = 0 then none else some (a.sum.tdiv a.count)
    e.record.endTime = b ∧ e.energy = i.energy ∧ e.pulses = i.pulses
    ∧ e.hotIn = mean i.hotIn ∧ e.hotOut = mean i.hotOut ∧ e.coldIn = mean i.coldIn ∧ e.coldOut = mean i.coldOut
    ∧ e.record.pressure = mean i.pressure
    ∧ e.kilojoules = min 4294967295 (i.energy / 10 ^ 8)
    ∧ ((e.hotIn = none ∨ e.hotOut = none ∨ e.coldIn = none ∨ e.coldOut = none) → e.noBasis = some .meanAbsent)
    ∧ (∀ hi ho ci co, e.hotIn = some hi → e.hotOut = some ho → e.coldIn = some ci → e.coldOut = some co →
        let a := hi - co
        let b := ho - ci
        let dtm := (a + b).tdiv 2
        (i.energy = 0 → e.noBasis = some .noEnergy)
        ∧ (0 < i.energy → a ≤ 0 → e.noBasis = some .hotEndCrossed)
        ∧ (0 < i.energy → 0 < a → b ≤ 0 → e.noBasis = some .coldEndCrossed)
        ∧ (0 < i.energy → 0 < a → 0 < b → dtm < 100 → e.noBasis = some .dtSmall)
        ∧ (0 < i.energy → 0 < a → 0 < b → 100 ≤ dtm →
            e.noBasis = none ∧ e.meanDifference = some dtm
            ∧ e.record.ua = some (min 4294967295 (i.energy / (config.lengthS * dtm.toNat * 1000)))
            ∧ e.record.index = some (min 2000 (i.energy / (config.lengthS * dtm.toNat * config.baseline)))))
    ∧ (e.noBasis ≠ none → e.meanDifference = none ∧ e.record.ua = none ∧ e.record.index = none)
    ∧ (e.record.alarm = true ↔ (∃ x, e.record.index = some x ∧ x < config.alarmLimit)
        ∨ ∃ x, e.record.pressure = some x ∧ config.pressureAlarm < x)
    ∧ (e.record.watch = true ↔ (∃ x, e.record.index = some x ∧ x < config.watchLimit)
        ∨ (∃ x, e.record.pressure = some x ∧ config.pressureWatch < x) ∨ e.record.alarm = true)

/-- The close of a rating interval. At its boundary a short interval, or one that ends at 0, is discarded and counted; a full
one is evaluated, its results enter the history, the latest evaluation and the held values, and it queues HEAT and, when the
state changes, raises SCALE_CHANGE and queues SCALE. A step whose span holds the next boundary or a later one, or a backward
one, closes it short. In each case the next interval opens at once (R125, R129 to R131, R135, R138, R139). That a step past no
boundary leaves the interval, and what counts as passed, when the next boundary had been reached before the step is the
model's reading, notes/assumptions/33.md. -/
def Obligations.IntervalsClose : Prop :=
  ∀ (s : State) (i : Interval), s.scw.active = true → s.scw.interval = some i →
    let b := i.nextBoundary
    let w := s.scw
    let opened := fun (t : LineTime) (short : Bool) => some
      { opened := t, short := short
        nextBoundary :=
          let next := (t.toNat / (1000000 * w.config.lengthS) + 1) * (1000000 * w.config.lengthS)
          if next < 2 ^ 32 then BitVec.ofNat 32 next else 0 : Interval }
    (s.svp.station = .run → later b s.tmu.lineTime = false →
      (i.short = true ∨ b = 0 → ∃ t, exec .intervalBoundary s = .next t ∧ s.onlyChanges t [.scw]
        ∧ t.scw = { w with interval := opened b false, shortCount := w.shortCount + 1, lastShort := some b })
      ∧ (i.short = false → b ≠ 0 → ∃ t, exec .intervalBoundary s = .next t
          ∧ s.onlyChanges t [.attention, .lif, .own, .scw, .spl, .freeNext]
          ∧ let e := evaluate w.config i b
            let history := (w.history ++ [e.record]).drop (w.history.length + 1 - 8)
            let decided := Scw.decide { w with history := history }
            t.scw = { w with
              interval := opened b false, latest := some e, history := history
              held := match e.record.ua, e.record.index with
                | some ua, some index => some { ua := ua, index := index, endTime := b }
                | _, _ => w.held
              state := decided.1, acknowledged := decided.2 }
            ∧ t.own.heat = some
                { intervalEnd := b, kilojoules := e.kilojoules, ua := e.record.ua, index := e.record.index }
            ∧ (∃ q ∈ t.lif.queue, q.notice = .heat
                { intervalEnd := b, kilojoules := e.kilojoules, ua := e.record.ua, index := e.record.index })
            ∧ (decided.1 = w.state → t.attention = s.attention ∧ t.spl = s.spl ∧ t.own.scalingChange = s.own.scalingChange)
            ∧ (decided.1 ≠ w.state → t.isPending .scaleChange = true ∧ t.own.scalingChange = b
                ∧ ∃ q ∈ t.lif.queue, q.notice = .scale decided.1 decided.2 e.record.index b)))
    ∧ (s.svp.station = .run → later b s.tmu.lineTime = true → exec .intervalBoundary s = .next s)
    ∧ ∀ e : StepEvent,
        let crossed := e.backward = true ∨ e.inSpan b = true
          ∨ ∃ m : Nat, m * (1000000 * w.config.lengthS) < 2 ^ 32
            ∧ e.inSpan (BitVec.ofNat 32 (m * (1000000 * w.config.lengthS))) = true
        (crossed → s.onlyChanges (s.intervalStep e) [.scw]
          ∧ (s.intervalStep e).scw = { w with
              interval := opened s.tmu.lineTime true, shortCount := w.shortCount + 1, lastShort := some s.tmu.lineTime })
        ∧ (¬crossed → s.intervalStep e = s)

/-- The scaling state is decided as the table of R137 gives from the counts over the newest W records (R136); and no command
but a reset takes the state from ALARM, except an interval's end with the flag set and fewer alarms in the window than the
effective count. -/
def Obligations.ScalingStateIsDecided : Prop :=
  (∀ w : Scw,
    let newest := w.history.drop (w.history.length - w.config.window)
    let alarms := newest.countP (·.alarm)
    let watches := newest.countP (·.watch)
    let alarmReached := min w.config.alarmCount w.config.window ≤ alarms
    let watchReached := min w.config.watchCount w.config.window ≤ watches
    (w.state ≠ .alarm →
      (alarmReached → w.decide = (.alarm, false))
      ∧ (¬alarmReached → watchReached → w.decide = (.watch, w.acknowledged))
      ∧ (¬alarmReached → ¬watchReached → w.decide = (.clear, w.acknowledged)))
    ∧ (w.state = .alarm →
        (w.acknowledged = true → ¬alarmReached → watchReached → w.decide = (.watch, false))
        ∧ (w.acknowledged = true → ¬alarmReached → ¬watchReached → w.decide = (.clear, false))
        ∧ (w.acknowledged = false ∨ alarmReached → w.decide = (.alarm, w.acknowledged))))
  ∧ ∀ (c : Instr) (s t : State), c.isReset = false → exec c s = .next t → s.scw.state = .alarm → t.scw.state ≠ .alarm →
      c = .intervalBoundary ∧ s.scw.acknowledged = true
        ∧ t.scw.alarmsInWindow < min t.scw.config.alarmCount t.scw.config.window

/-! Start windows and claims (chapter 8). -/

/-- Start Pump: its refusals in their order; then the lower FREE slot is taken and planned. Under a hold it waits with that
reason; otherwise the first of the 65,537 candidate starts that no fixed window blocks and no entry overlaps is announced
with an entry and a CLAIM; with none it waits (R153, R155, R156). The bytes of the reply are the model's reading of R217,
notes/assumptions/9.md. -/
def Obligations.StartPumpTakesAndPlans : Prop :=
  ∀ (s : State) (u : UnitNo) (time : Option LineTime), s.admitsRun →
    let p := BitVec.ofNat 8 u.val :: (match time with | some t => bytesOf 4 t.toNat | none => [])
    let now := s.tmu.lineTime
    let ahead := ∃ t, time = some t ∧ later t now = true ∧ 600000000 < (t - now).toNat
    let configured := ∃ d : DefNo, s.units[u].defs[d].enabled = true
    let busy := s.units[u].state ≠ .idle ∨ ∃ k : SlotNo, s.slotState k ≠ .free ∧ s.spl.slots[k].unit = u
    let refused := fun status => s.replies (.startPump p) 0x20 p { status := status, payload := [] }
    (∀ b : Byte, 4 ≤ b.toNat → s.replies (.startPump (b :: p.tail)) 0x20 (b :: p.tail) { status := .range, payload := [] })
    ∧ (¬configured ∨ ahead → refused .range)
    ∧ (configured → ¬ahead → busy → refused .busy)
    ∧ (configured → ¬ahead → ¬busy → s.slotState 0 ≠ .free → s.slotState 1 ≠ .free → refused .noSlot)
    ∧ ∀ k : SlotNo, configured → ¬ahead → ¬busy → s.slotState k = .free → (k = 1 → s.slotState 0 ≠ .free) →
        let open_ := time.filter fun t => later t now
        let lead := (s.config.settleMs * 1000 + 10000 + 1023) / 1024
        let base := now + BitVec.ofNat 32 (1024 * lead)
        let from_ := match open_ with
          | some e => if later e base then e else base
          | none => base
        let start := fun n : Nat => BitVec.ofNat 32 ((from_.toNat + 1023) / 1024 * 1024) + BitVec.ofNat 32 (1024 * n)
        let length := s.units[u].config.windowLength
        let free := fun n : Nat =>
          (∀ i, i < length → ∀ w ∈ s.spl.windows,
            w.activeAt (start n + BitVec.ofNat 32 (1024 * i)) = false)
          ∧ ∀ c ∈ s.spl.claims, windowsOverlap (start n) length c.start c.length = false
        let held := s.spl.tripHold = true ∨ s.spl.scalingHold = true ∧ s.units[u].config.scalingBound = true
        let waits := fun (reason : WaitReason) (code : Byte) => ∃ t, exec (.startPump p) s = .next t
          ∧ s.onlyChanges t [.svp, .spl] ∧ sameElsewhere k s.spl.slots t.spl.slots ∧ t.spl.claims = s.spl.claims
          ∧ t.spl.slots[k] = { state := .waiting reason, unit := u, earliest := open_, withdrawals := 0 }
          ∧ t.svp = s.answered 0x20 p (success (bytesOf 4 k.val ++ [1, code]))
        (s.spl.tripHold = true → waits .tripHold 0)
        ∧ (s.spl.tripHold = false → held → waits .scalingHold 1)
        ∧ (¬held → (∀ n, n ≤ 65536 → ¬free n) → waits .noWindow 2)
        ∧ ∀ n, ¬held → n ≤ 65536 → free n → (∀ m, m < n → ¬free m) →
            (∀ c ∈ s.spl.claims, s.isOwnEntry k c = false) →
            let entry : Claim :=
              { station := s.stationNo, slot := SlotNo.inTag k, unit := u, start := start n, length := length, firm := false }
            ∃ t, exec (.startPump p) s = .next t
              ∧ s.onlyChanges t [.svp, .lif, .spl] ∧ sameElsewhere k s.spl.slots t.spl.slots
              ∧ t.spl.slots[k] = { state := .announced, unit := u, earliest := open_, withdrawals := 0 }
              ∧ t.spl.claims = insertClaim entry s.spl.claims ∧ t.ownEntry? k = some entry
              ∧ (∃ e ∈ t.lif.queue, e.notice = .claim k u (start n) length false)
              ∧ t.svp = s.answered 0x20 p (success
                  (bytesOf 4 k.val ++ [2] ++ bytesOf 4 (start n).toNat ++ bytesOf 4 length))

/-- A claim whose start is reached before it is firm is withdrawn: its entry gone, a RELEASE queued or its queued CLAIM removed,
its withdrawal counted, and at the ninth its slot FREE with CLAIM_FAILED; it is planned again otherwise, and an entry that its
slot then holds is the newly announced one, whose CLAIM is queued in place of that RELEASE. Every entry whose end is reached
expires, and frees its slot if it is an own one; no other entry leaves. A time step in RUN does all of this at its "after"
value, withdrawals first, then expiry, then the new plans (R151, R157, R160, R161, R169). -/
def Obligations.ClaimsAreWithdrawnAndExpire : Prop :=
  ∀ s : State, PumpsAgree s → QueueOrdered s →
    let due := fun (k : SlotNo) (c : Claim) =>
      (s.slotState k).unsettled = true ∧ s.ownEntry? k = some c ∧ later c.start s.tmu.lineTime = false
    let near := s.config.settleMs ≤ 500 ∧ ∀ k : SlotNo, ∀ e, s.spl.slots[k].earliest = some e →
      later e s.tmu.lineTime = true → (e - s.tmu.lineTime).toNat ≤ 600000000
    let withdrawn := fun (t : State) (k : SlotNo) (own : Claim) =>
      let old := s.spl.slots[k]
      (9 ≤ old.withdrawals + 1 → t.slotState k = .free ∧ t.isPending (.claimFailed k) = true)
      ∧ (old.withdrawals + 1 < 9 → t.spl.slots[k].withdrawals = old.withdrawals + 1 ∧ t.spl.slots[k].unit = old.unit
          ∧ (t.slotState k = .announced ∨ ∃ why, t.slotState k = .waiting why))
      ∧ (t.slotState k ≠ .announced → t.spl.claims.filter (s.isOwnEntry k) = []
          ∧ ((∃ e ∈ s.lif.queue, e.notice.group = .claim k ∧ e.notice.isClaim = true) →
              ∀ e ∈ t.lif.queue, e.notice.group ≠ .claim k)
          ∧ ((∀ e ∈ s.lif.queue, e.notice.group = .claim k → e.notice.isClaim = false) →
              ∃ e ∈ t.lif.queue, ∃ firm, e.notice = .release k old.unit firm .withdrawn))
      ∧ (t.slotState k = .announced → ∃ new, t.spl.claims.filter (s.isOwnEntry k) = [new] ∧ new.unit = old.unit
          ∧ new.firm = false ∧ ∃ e ∈ t.lif.queue, e.notice = .claim k new.unit new.start new.length false)
      ∧ (near → own ∉ t.spl.claims)
    (∀ (k : SlotNo) (own : Claim), s.svp.station = .run → (s.slotState k).unsettled = true → s.ownEntry? k = some own →
      (later own.start s.tmu.lineTime = false → ∃ t, exec (.ownStartReached k) s = .next t
        ∧ s.onlyChanges t [.attention, .lif, .spl, .freeNext]
        ∧ (∀ c ∈ s.spl.claims, c ≠ own → c ∈ t.spl.claims) ∧ withdrawn t k own)
      ∧ (later own.start s.tmu.lineTime = true → exec (.ownStartReached k) s = .next s))
    ∧ (s.lineEnabled = true → (∃ c ∈ s.spl.claims, later c.endTime s.tmu.lineTime = false) →
        ∃ t, exec .entryExpiry s = .next t ∧ s.onlyChanges t [.lif, .spl]
          ∧ (∀ c ∈ s.spl.claims, later c.endTime s.tmu.lineTime = true → c ∈ t.spl.claims)
          ∧ (∀ c ∈ t.spl.claims, c ∈ s.spl.claims ∧ later c.endTime s.tmu.lineTime = true
              ∨ ∃ k, s.isOwnEntry k c = true ∧ (∃ why, s.slotState k = .waiting why) ∧ t.slotState k = .announced)
          ∧ ∀ (k : SlotNo) (own : Claim), s.ownEntry? k = some own → later own.endTime s.tmu.lineTime = false →
              t.slotState k = .free)
    ∧ ((∀ c ∈ s.spl.claims, later c.endTime s.tmu.lineTime = true) → exec .entryExpiry s = .next s)
    ∧ ∀ e : StepEvent, s.svp.station = .run →
        let t := s.deliverStep e .planner
        let stays := fun c : Claim => later c.endTime s.tmu.lineTime = true ∧ ∀ k, ¬due k c
        s.onlyChanges t [.attention, .lif, .spl, .freeNext]
        ∧ (∀ c ∈ s.spl.claims, stays c → c ∈ t.spl.claims)
        ∧ (∀ c ∈ t.spl.claims, c ∈ s.spl.claims ∧ stays c
            ∨ ∃ k, s.isOwnEntry k c = true ∧ t.slotState k = .announced ∧ c.firm = false)
        ∧ ∀ k : SlotNo,
            (∀ own, due k own → withdrawn t k own)
            ∧ (∀ own, s.ownEntry? k = some own → ¬due k own → later own.endTime s.tmu.lineTime = false →
                t.slotState k = .free)
            ∧ (∀ own, s.ownEntry? k = some own → stays own → t.spl.slots[k] = s.spl.slots[k])
            ∧ (s.slotState k = .free → t.slotState k = .free)
            ∧ ((∃ why, s.slotState k = .waiting why) → t.slotState k = .announced ∨ ∃ why, t.slotState k = .waiting why)

/-- A settling claim is judged when its settle interval has passed. With every check of R163 met it becomes firm, with its
firm flag and a reasserting CLAIM, and its unit takes the start: here for a unit whose trip flag is clear and whose start
edges all lie ahead. A claim that a hold stops waits uncounted, and one that an entry beats is withdrawn (R163, R167, R168,
R180). That the holds are judged before the overlaps, and that a fixed window's block counts as a withdrawal, is the model's
reading, notes/assumptions/16.md. -/
def Obligations.SettleEndJudgesTheClaim : Prop :=
  ∀ (s : State) (k : SlotNo) (began : Count) (own : Claim), s.svp.station = .run → s.slotState k = .settling began →
    s.ownEntry? k = some own → PumpsAgree s → 8000 * s.config.settleMs ≤ (s.tmu.localCount - began).toNat →
    let u := s.units[own.unit]
    let held := s.spl.tripHold = true ∨ s.spl.scalingHold = true ∧ u.config.scalingBound = true
    let beaten := (∃ c ∈ s.spl.claims, (c.station < s.stationNo ∨ c.firm = true ∧ c.station ≠ s.stationNo) ∧ c.overlaps own = true)
      ∨ ∃ w ∈ s.spl.windows, ∃ i, i < own.length ∧ w.activeAt (own.start + BitVec.ofNat 32 (1024 * i)) = true
    (held → ∃ t why, exec (.settleTimerExpiry k) s = .next t ∧ s.onlyChanges t [.lif, .spl, .freeNext]
      ∧ t.slotState k = .waiting why ∧ t.spl.slots[k].withdrawals = s.spl.slots[k].withdrawals
      ∧ why = (if s.spl.tripHold then .tripHold else .scalingHold))
    ∧ (¬held → beaten → ∃ t, exec (.settleTimerExpiry k) s = .next t
        ∧ s.onlyChanges t [.attention, .lif, .spl, .freeNext]
        ∧ (9 ≤ s.spl.slots[k].withdrawals + 1 → t.slotState k = .free ∧ t.isPending (.claimFailed k) = true)
        ∧ (s.spl.slots[k].withdrawals + 1 < 9 →
            t.spl.slots[k].withdrawals = s.spl.slots[k].withdrawals + 1
            ∧ (t.slotState k = .announced ∨ ∃ why, t.slotState k = .waiting why)))
    ∧ (¬held → ¬beaten → u.tripFlag = false →
        (∀ d ∈ u.defsOf .start,
          later (own.start + BitVec.ofNat 32 (u.cumulativeOffset d)) s.tmu.lineTime = true) →
        ∃ t, exec (.settleTimerExpiry k) s = .next t ∧ s.onlyChanges t [.lif, .spl, .units]
          ∧ t.slotState k = .firm ∧ t.ownEntry? k = some { own with firm := true }
          ∧ sameElsewhere k s.spl.slots t.spl.slots
          ∧ (∃ e ∈ t.lif.queue, e.notice = .claim k own.unit own.start own.length true)
          ∧ sameElsewhere own.unit s.units t.units
          ∧ t.units[own.unit].state = .starting ∧ t.units[own.unit].startNumber = u.startNumber + 1
          ∧ t.units[own.unit].edgeMark = false
          ∧ t.units[own.unit].written = u.written + BitVec.ofNat 16 (u.defsOf .start).length
          ∧ (t.units[own.unit].queue.map fun e => (e.output, e.high, e.due, e.origin, e.startNumber)).Perm
              ((u.defsOf .start).map fun d => (u.defs[d].output, u.defs[d].high,
                own.start + BitVec.ofNat 32 (u.cumulativeOffset d), Origin.start, u.startNumber + 1)))

/-- An own claim becomes FIRM only at its settle end, and only at a moment when no active fixed window granule, no entry of a
lower-numbered station and no firm peer entry overlaps it, the trip hold is clear, and the scaling hold does not apply to
its unit (R163). -/
def Obligations.FirmOnlyWhenNothingStandsAgainst : Prop :=
  ∀ (c : Instr) (s t : State) (k : SlotNo), exec c s = .next t → s.slotState k ≠ .firm → t.slotState k = .firm →
    c = .settleTimerExpiry k
    ∧ ∃ own, s.ownEntry? k = some own
      ∧ (∀ w ∈ s.spl.windows, ∀ i, i < own.length → w.activeAt (own.start + BitVec.ofNat 32 (1024 * i)) = false)
      ∧ (∀ d ∈ s.spl.claims, d.station < s.stationNo ∨ d.firm = true ∧ d.station ≠ s.stationNo → d.overlaps own = false)
      ∧ s.spl.tripHold = false
      ∧ ¬(s.spl.scalingHold = true ∧ s.units[own.unit].config.scalingBound = true)

/-- A heard RELEASE removes the sender's entry of the tag's slot, whatever its reason, and does nothing without one; a heard
CLAIM writes the sender's entry, in place of its entry of the same slot, and an own claim that it overlaps is withdrawn
before a lower-numbered or firm one, stands before any other, and reasserts itself when it is already FIRM or STARTED
(R149, R150, R162). -/
def Obligations.HeardClaimsAreJudged : Prop :=
  ∀ (s : State) (n : StationNo) (p : List Byte) (order : List Dependant), PumpsAgree s → ClaimTableSound s →
    (s.hears 3 n p → s.peers[n].silent = false → ∃ t, exec (.frameReceived (frameCheck 3 n p) order) s = .next t
      ∧ (∀ c ∈ s.spl.claims, ¬(c.station = n ∧ c.slot.val = fieldNat p 0 1 % 4) → c ∈ t.spl.claims)
      ∧ (∀ c ∈ t.spl.claims, ¬(c.station = n ∧ c.slot.val = fieldNat p 0 1 % 4))
      ∧ ((∀ c ∈ s.spl.claims, ¬(c.station = n ∧ c.slot.val = fieldNat p 0 1 % 4)) → t.spl = s.spl))
    ∧ (s.hears 2 n p → s.peers[n].silent = false →
        ∃ t, exec (.frameReceived (frameCheck 2 n p) order) s = .next t
        ∧ let tag := fieldNat p 0 1
          let heard : Claim :=
            { station := n, slot := ⟨tag % 4, by omega⟩, unit := ⟨tag / 4 % 4, by omega⟩
              start := BitVec.ofNat 32 (fieldNat p 1 4), length := fieldNat p 5 2, firm := tag.testBit 7 }
          (later heard.endTime s.tmu.lineTime = false → heard ∉ t.spl.claims)
          ∧ (later heard.endTime s.tmu.lineTime = true →
              heard ∈ t.spl.claims
              ∧ (∀ c ∈ t.spl.claims, c.station = n → c.slot = heard.slot → c = heard)
              ∧ ∀ (k : SlotNo) (own : Claim), s.ownEntry? k = some own →
                  (own.overlaps heard = false → t.spl.slots[k] = s.spl.slots[k] ∧ own ∈ t.spl.claims)
                  ∧ (own.overlaps heard = true → (s.slotState k).unsettled = true →
                      (n < s.stationNo ∨ heard.firm = true →
                        t.slotState k = .free ∨ t.spl.slots[k].withdrawals = s.spl.slots[k].withdrawals + 1)
                      ∧ (s.stationNo < n → heard.firm = false → t.spl.slots[k] = s.spl.slots[k] ∧ own ∈ t.spl.claims))
                  ∧ (own.overlaps heard = true → (s.slotState k).confirmed = true →
                      t.spl.slots[k] = s.spl.slots[k] ∧ own ∈ t.spl.claims
                      ∧ (heard.firm = true → t.isPending (.startOverlap k) = true)
                      ∧ (heard.firm = false →
                          ∃ e ∈ t.lif.queue, e.notice = .claim k own.unit own.start own.length true))))

/-- Set Window: its checks in the order of the list, each with its code; a window that passes enters at the lowest free
index, which the reply carries. The clear form empties the table (R146). The index as four bytes and the empty payload as the
clear form are the model's choices, notes/assumptions/9.md and 14.md. -/
def Obligations.SetWindowChecksInOrder : Prop :=
  ∀ (s : State) (e : Byte) (offset length : Nat), s.admitsConfiguration → WindowTableSound s → offset < 2 ^ 24 →
    length < 2 ^ 24 →
    let p := e :: bytesOf 3 offset ++ bytesOf 3 length
    let ws := s.spl.windows
    let refused := fun status => s.replies (.setWindow p) 0x47 p { status := status, payload := [] }
    let inRange := 20 ≤ e.toNat ∧ e.toNat ≤ 31
    let fits := offset + length ≤ 2 ^ (e.toNat - 10)
    let clash := ∃ w ∈ ws, w.exponent = e.toNat ∧ ∃ g, offset ≤ g ∧ g < offset + length ∧ w.offset ≤ g ∧ g < w.offset + w.length
    (¬inRange → refused .periodRange)
    ∧ (inRange → length = 0 → refused .lengthZero)
    ∧ (inRange → 0 < length → ¬fits → refused .exceedsPeriod)
    ∧ (inRange → 0 < length → fits → clash → refused .overlap)
    ∧ (inRange → 0 < length → fits → ¬clash → 8 ≤ ws.length → refused .noFreeWindow)
    ∧ (inRange → 0 < length → fits → ¬clash → ws.length < 8 → ∃ t, exec (.setWindow p) s = .next t
        ∧ s.onlyChanges t [.svp, .spl] ∧ t.svp = s.answered 0x47 p (success (bytesOf 4 ws.length))
        ∧ t.spl = { s.spl with windows := ws ++ [{ exponent := e.toNat, offset := offset, length := length }] })
    ∧ ∀ c, c = .setWindowClear ∨ c = .setWindow [] → ∃ t, exec c s = .next t ∧ s.onlyChanges t [.svp, .spl]
        ∧ t.svp = s.answered 0x47 [] (success []) ∧ t.spl = { s.spl with windows := [] }

/-! Switching units (chapter 9). -/

/-- Stop Pump: a claim not yet handed over is abandoned by the planner; otherwise an IDLE unit refuses it, a STOPPING one is
busy, and a STARTING or RUNNING one discards its start entries and writes its stop at the stop time, or at the line time now
when that is absent or reached: entries already due are output at once and the others wait (R154, R182, R183). That an abandon
does not judge the stop time is the model's reading, notes/assumptions/30.md, and the bytes of the replies are 9.md. -/
def Obligations.StopPumpStops : Prop :=
  ∀ (s : State) (n : UnitNo) (time : Option LineTime), s.admitsRun → PumpsAgree s →
    let p := BitVec.ofNat 8 n.val :: (match time with | some t => bytesOf 4 t.toNat | none => [])
    let now := s.tmu.lineTime
    let u := s.units[n]
    let refused := fun status => s.replies (.stopPump p) 0x21 p { status := status, payload := [] }
    (∀ b : Byte, 4 ≤ b.toNat → s.replies (.stopPump (b :: p.tail)) 0x21 (b :: p.tail) { status := .range, payload := [] })
    ∧ (∀ k : SlotNo, (s.slotState k).before = true → s.spl.slots[k].unit = n → ∃ t, exec (.stopPump p) s = .next t
      ∧ s.onlyChanges t [.svp, .lif, .spl, .freeNext] ∧ t.svp = s.answered 0x21 p (success [1])
      ∧ t.slotState k = .free ∧ t.spl.claims.filter (s.isOwnEntry k) = [])
    ∧ ((∀ k : SlotNo, (s.slotState k).before = true → s.spl.slots[k].unit ≠ n) →
        ((∃ t, time = some t ∧ later t now = true ∧ 600000000 < (t - now).toNat) → refused .range)
        ∧ ((∀ t, time = some t → later t now = true → (t - now).toNat ≤ 600000000) →
            (u.state = .idle → refused .notActive)
            ∧ (u.state = .stopping → refused .busy)
            ∧ (u.state = .starting ∨ u.state = .running →
                let stop := match time with
                  | some t => if later t now then t else now
                  | none => now
                let ahead := ∀ d ∈ u.defsOf .stop, later (stop + BitVec.ofNat 32 (u.cumulativeOffset d)) now = true
                ∃ t, exec (.stopPump p) s = .next t
                  ∧ s.onlyChanges t [.svp, .attention, .lif, .spl, .units, .outputs, .freeNext]
                  ∧ s.stopsUnit t n stop
                  ∧ (ahead → s.onlyChanges t [.svp, .lif, .spl, .units, .freeNext])
                  ∧ (ahead → u.state = .running ∨ u.edgeMark = true → s.onlyChanges t [.svp, .units])
                  ∧ (u.state = .starting → u.edgeMark = false → ∀ k : SlotNo, s.slotState k = .firm →
                      s.spl.slots[k].unit = n → t.slotState k = .free)
                  ∧ t.svp = s.answered 0x21 p (success
                      ((if t.units[n].state = .idle then 0 else 3) :: bytesOf 4 stop.toNat ++ bytesOf 4 u.queue.length
                        ++ bytesOf 4 (u.defsOf .stop).length)))))

/-- The entries at the front of a queue whose due times are reached are output in queue order, for a queue in which the others
are later: each output takes the level of the last entry that names it, each entry is counted, the first start edge is reported
once so that a FIRM slot becomes STARTED, and the last entry ends the start or the stop. No other output changes; with a head
that is later nothing happens (R173, R178, R179, R181, R165). That EDGE_DUE outputs an entry by R179, not by the catch-up rule,
even when its lateness is above 0, is the model's reading, notes/assumptions/33.md. -/
def Obligations.DueEdgeIsOutput : Prop :=
  ∀ (s : State) (n : UnitNo), s.svp.station = .run →
    let u := s.units[n]
    (∀ (e : Edge) (rest : List Edge), u.queue = e :: rest → later e.due s.tmu.lineTime = true →
      exec (.edgeDue n) s = .next s)
    ∧ (∀ (due : List Edge) (last : Edge) (rest : List Edge), u.queue = due ++ last :: rest →
        (∀ d ∈ due ++ [last], later d.due s.tmu.lineTime = false) → (∀ d ∈ rest, later d.due s.tmu.lineTime = true) →
        let first := (∃ d ∈ due ++ [last], d.origin = .start) ∧ u.edgeMark = false
        ∃ t, exec (.edgeDue n) s = .next t
          ∧ t.outputs = (due ++ [last]).foldl (fun outputs d => outputs.set d.output d.high) s.outputs
          ∧ sameElsewhere n s.units t.units
          ∧ t.units[n] = { u with
              queue := rest, outputCount := u.outputCount + BitVec.ofNat 16 (due.length + 1)
              edgeMark := u.edgeMark || decide first
              state := if rest = [] then (match last.origin with | .start => .running | .stop => .idle) else u.state }
          ∧ (¬first → s.onlyChanges t [.units, .outputs])
          ∧ (first → s.onlyChanges t [.spl, .units, .outputs]
              ∧ ∀ k : SlotNo, PumpsAgree s → s.slotState k = .firm → s.spl.slots[k].unit = n → t.slotState k = .started))

/-- The catch-up rule at one reached entry. Late within the window it is output with EDGE_LATE, its count and its record; a
stop entry beyond the window is output with the late-stop mark; a start entry beyond the window ends its start, which is missed
before any start edge and aborted after one, with its stop entries due at the present line time (R186 to R188), so that a step
that aborts a start outputs them at once. A time step takes by this rule, in queue order, the entries whose due times lie in
its span or, when it goes backward, are reached at "after"; the others stay, and a step that reaches none leaves the unit as it
is (R189). -/
def Obligations.LateEdgesAreCaughtUp : Prop :=
  (∀ (s : State) (n : UnitNo) (e : Edge) (rest : List Edge), s.units[n].queue = e :: rest →
    let u := s.units[n]
    let t := s.catchUp n e
    let late := lateness e.due s.tmu.lineTime
    let output := fun (lateStop : Bool) =>
      t.outputs[e.output] = e.high ∧ sameElsewhere e.output s.outputs t.outputs ∧ t.isPending (.edgeLate n) = true
      ∧ sameElsewhere n s.units t.units ∧ t.units[n].queue = rest ∧ t.units[n].outputCount = u.outputCount + 1
      ∧ t.units[n].lateCount = u.lateCount + 1
      ∧ t.units[n].lastLate = some { edge := e, lateness := late, lateStop := lateStop }
    (0 < late → late ≤ u.config.catchUp → output false)
    ∧ (0 < late → (u.config.catchUp : Int) < late → e.origin = .stop → output true)
    ∧ (0 < late → (u.config.catchUp : Int) < late → e.origin = .start →
        (∀ d ∈ rest, d.origin = .start ∧ d.startNumber = e.startNumber) →
        t.outputs = s.outputs ∧ sameElsewhere n s.units t.units
        ∧ t.units[n].discarded = u.discarded + BitVec.ofNat 16 (rest.length + 1)
        ∧ t.units[n].outputCount = u.outputCount ∧ t.units[n].lateCount = u.lateCount
        ∧ (u.edgeMark = false → t.units[n].state = .idle ∧ t.units[n].queue = [] ∧ t.isPending (.startMissed n) = true)
        ∧ (u.edgeMark = true → t.units[n].state = .stopping ∧ t.isPending (.startAborted n) = true
            ∧ t.units[n].queue.map (fun d => (d.output, d.high, d.due, d.origin, d.startNumber)) =
                (u.defsOf .stop).map fun d =>
                  (u.defs[d].output, u.defs[d].high, s.tmu.lineTime, Origin.stop, u.startNumber))))
  ∧ ∀ (s : State) (n : UnitNo) (e : StepEvent),
      let u := s.units[n]
      let t := s.deliverStep e (.unit n)
      let takes := fun due : LineTime =>
        if e.backward then !later due s.tmu.lineTime
        else 1 ≤ (due - e.before).toNat && (due - e.before).toNat ≤ e.advance.toNat
      let taken := u.queue.filter fun d => takes d.due
      let stays := u.queue.filter fun d => !takes d.due
      let late := fun d : Edge => lateness d.due s.tmu.lineTime
      sameElsewhere n s.units t.units
      ∧ s.onlyChanges t [.attention, .lif, .spl, .units, .outputs, .freeNext]
      ∧ (taken = [] → t = s)
      ∧ ((∀ d ∈ taken, d.origin = .start → late d ≤ u.config.catchUp) →
          t.units[n].queue = stays ∧ t.units[n].discarded = u.discarded ∧ t.units[n].written = u.written
          ∧ t.units[n].outputCount = u.outputCount + BitVec.ofNat 16 taken.length
          ∧ t.units[n].lateCount = u.lateCount + BitVec.ofNat 16 (taken.filter fun d => 0 < late d).length
          ∧ ((∃ d ∈ taken, 0 < late d) → t.isPending (.edgeLate n) = true)
          ∧ (∀ last, taken.getLast? = some last →
              t.units[n].state = if stays = [] then (match last.origin with | .start => .running | .stop => .idle) else u.state)
          ∧ ∀ o : OutputNo, t.outputs[o] =
              match (taken.filter fun d => d.output = o).getLast? with
              | some d => d.high
              | none => s.outputs[o])
      ∧ ∀ d, taken.head? = some d → d.origin = .start → u.config.catchUp < late d →
          (∀ x ∈ u.queue, x.origin = .start ∧ x.startNumber = d.startNumber) →
          (u.edgeMark = false → t.outputs = s.outputs ∧ t.units[n].state = .idle ∧ t.units[n].queue = []
            ∧ t.units[n].discarded = u.discarded + BitVec.ofNat 16 u.queue.length ∧ t.isPending (.startMissed n) = true)
          ∧ (u.edgeMark = true → t.isPending (.startAborted n) = true
              ∧ t.units[n].discarded = u.discarded + BitVec.ofNat 16 u.queue.length
              ∧ (takes s.tmu.lineTime = true → t.units[n].queue = [] ∧ t.units[n].state = (if u.defsOf .stop = [] then .stopping else .idle)
                ∧ t.units[n].written = u.written + BitVec.ofNat 16 (u.defsOf .stop).length
                ∧ t.units[n].outputCount = u.outputCount + BitVec.ofNat 16 (u.defsOf .stop).length
                ∧ t.units[n].lateCount = u.lateCount
                ∧ t.outputs = (u.defsOf .stop).foldl (fun outputs d => outputs.set u.defs[d].output u.defs[d].high) s.outputs))

/-- A trip view onset at a unit: its trip flag is set and the onset kept; in IDLE and STOPPING nothing else happens, a RUNNING
unit stops at its shed time only if it is shed-enabled, and a STARTING one always, at its shed time or, when it is not
shed-enabled, at the line time now: its start entries are discarded and its stop entries written, so that no start entry is
left, and with no start edge output its FIRM slot is freed. The rank counts the heard and not silent WELL rows of lower number
with an active unit (R182, R190, R191). -/
def Obligations.ShedFollowsTheOnset : Prop :=
  ∀ (s : State) (n : UnitNo) (trip : LineTime) (rank : Nat),
    let u := s.units[n]
    let t := s.shed n trip rank
    let time := trip + BitVec.ofNat 32
      ((u.config.shedBaseMs + rank * u.config.shedStepMs + n.val * u.config.unitGapMs) * 1000)
    t.units[n].tripFlag = true ∧ t.units[n].lastOnset = some { rank := rank, time := trip }
    ∧ sameElsewhere n s.units t.units
    ∧ (∀ e ∈ t.units[n].queue, u.state = .starting → e.origin = .stop)
    ∧ (u.state = .idle ∨ u.state = .stopping ∨ u.state = .running ∧ u.config.shedEnable = false →
        t.units[n] = { u with tripFlag := true, lastOnset := some { rank := rank, time := trip } }
        ∧ s.onlyChanges t [.units])
    ∧ (u.state = .starting ∨ u.state = .running ∧ u.config.shedEnable = true → u.sound →
        s.stopsUnit t n (if u.config.shedEnable then time else s.tmu.lineTime)
        ∧ s.onlyChanges t [.attention, .lif, .spl, .units, .outputs, .freeNext]
        ∧ (u.state = .starting → u.edgeMark = false → PumpsAgree s → ∀ k : SlotNo, s.slotState k = .firm →
            s.spl.slots[k].unit = n → t.slotState k = .free))
    ∧ s.rank = ((List.finRange 16).filter fun m => m ≠ s.stationNo ∧ s.peers[m].heard = true ∧ s.peers[m].silent = false
        ∧ s.peers[m].roles.well = true ∧ m < s.stationNo ∧ 0 < s.peers[m].activeUnits).length

/-! The configuration requests and Start Station (10.4, 10.5, 11.3). -/

/-- Set Station, Set Group and Set Channel, with the fields of 11.3 laid out byte by byte: taken whole when every field is in
its range, refused with RANGE and nothing changed otherwise. A row whose time without a notice already reaches four of the
new beacon periods falls silent at once (R22, R59, R60, R204, R216). -/
def Obligations.StationGroupAndChannelAreSet : Prop :=
  ∀ s : State, s.admitsConfiguration → RestOutsideRun s →
    (∀ (roles beacon : Byte) (large stray settle : BitVec 16) (mask : BitVec 32),
      let p := roles :: beacon :: bytesOf 2 large.toNat ++ bytesOf 2 stray.toNat ++ bytesOf 2 settle.toNat
        ++ bytesOf 4 mask.toNat
      let c : StationConfig :=
        { roles := { well := roles.getLsbD 0, turbine := roles.getLsbD 1, exchange := roles.getLsbD 2 }
          beaconCode := beacon.toNat, largeStepMs := large.toNat, strayMs := stray.toNat, settleMs := settle.toNat
          enableMask := mask }
      let due := fun n : StationNo => { s with config := c }.silenceIsDue n
      s.configures (.setStation p) 0x40 p
        (roles.toNat < 8 ∧ 1 ≤ beacon.toNat ∧ beacon.toNat ≤ 10 ∧ 1 ≤ large.toNat ∧ large.toNat ≤ 10000 ∧ 1 ≤ stray.toNat
          ∧ stray.toNat ≤ 10000 ∧ 5 ≤ settle.toNat ∧ settle.toNat ≤ 500 ∧ mask.toNat < 2 ^ 21)
        [.config, .peers, .attention, .spl]
        fun t => t.config = c
          ∧ (∀ n : StationNo, t.peers[n] = { s.peers[n] with silent := s.peers[n].silent || due n }
              ∧ (due n = true → t.isPending (.peerSilent n) = true))
          ∧ ((∀ n, due n = false) → t.attention = s.attention ∧ t.spl = s.spl)
          ∧ t.spl = { s.spl with scalingHold := t.spl.scalingHold })
    ∧ (∀ (g mark : Byte) (period : BitVec 16),
        let p := g :: bytesOf 2 period.toNat ++ [mark]
        s.configures (.setGroup p) 0x42 p (g.toNat < 2 ∧ 1 ≤ period.toNat ∧ period.toNat ≤ 1000 ∧ mark.toNat ≤ 64) [.groups]
          fun t => ∀ k : GroupNo, t.groups[k] =
            if k.val = g.toNat then { s.groups[k] with periodMs := period.toNat, ringMark := mark.toNat }
            else s.groups[k])
    ∧ ∀ (channel flags k j window count : Byte) (offset span : BitVec 32) (low high : BitVec 16),
        let p := [channel, flags, k, j] ++ bytesOf 4 offset.toNat ++ bytesOf 4 span.toNat ++ bytesOf 2 low.toNat
          ++ bytesOf 2 high.toNat ++ [window, count]
        let group := flags.toNat / 2 % 4
        let bound := flags.toNat / 8
        s.configures (.setChannel p) 0x41 p
          (channel.toNat < 8 ∧ flags.toNat < 64 ∧ group ≤ 2 ∧ bound ≤ 4 ∧ 5 ≤ k.toNat ∧ k.toNat ≤ 8 ∧ 3 ≤ j.toNat
            ∧ j.toNat ≤ 5 ∧ low.toInt ≤ high.toInt ∧ 1 ≤ window.toNat ∧ window.toNat ≤ 8 ∧ 1 ≤ count.toNat
            ∧ count.toNat ≤ 8)
          [.channels]
          fun t => ∀ n : ChannelNo, t.channels[n] =
            if n.val = channel.toNat then
              { s.channels[n] with config :=
                { enabled := flags.getLsbD 0, k := k.toNat, j := j.toNat, offset := offset.toInt, span := span.toInt
                  lowLimit := low.toInt, highLimit := high.toInt, window := window.toNat, count := count.toNat
                  group := if group = 0 then none else if group = 1 then some 0 else some 1
                  bound := if h : 1 ≤ bound ∧ bound ≤ 4 then some ⟨bound - 1, by omega⟩ else none } }
            else s.channels[n]

/-- Set Capture, Set Turbine, Set Heat and Set Scaling, with the fields of 11.3 laid out byte by byte: taken whole when every
field is in range and the fields may stand together, refused with RANGE and nothing changed otherwise (R86, R87, R106, R120,
R142, R216). -/
def Obligations.MeasurementBlocksAreSet : Prop :=
  ∀ s : State, s.admitsConfiguration →
    (∀ unit mode master slave lead record poll : Byte,
      let p := [unit, mode, master, slave, lead, record, poll]
      let single := mode.toNat = 1 ∨ mode.toNat = 2
      s.configures (.setCapture p) 0x43 p
        (unit.toNat < 4 ∧ mode.toNat < 4 ∧ master.toNat < 16 ∧ (slave.toNat < 16 ∨ slave.toNat = 0xFF) ∧ lead.toNat < 16
          ∧ record.toNat < 2 ∧ 1 ≤ poll.toNat ∧ (mode.toNat = 2 → slave.toNat = 0xFF) ∧ (single → record.toNat = 0)
          ∧ slave ≠ master
          ∧ (single → ∀ v : CaptureNo, v.val ≠ unit.toNat → s.captures[v].config.mode ≠ modeNamed mode))
        [.captures]
        fun t => ∀ u : CaptureNo, t.captures[u] =
          if u.val = unit.toNat then
            { s.captures[u] with config :=
              { mode := modeNamed mode, master := sourceNamed master
                slave := if slave.toNat = 0xFF then none else some (sourceNamed slave)
                lead := lead.toNat, poll := decide (record.toNat = 1), pollMs := poll.toNat } }
          else s.captures[u])
    ∧ (∀ (teeth overWindow overCount wheelWindow wheelCount stall : Byte) (trip reset : BitVec 16),
        let p := teeth :: bytesOf 2 trip.toNat ++ bytesOf 2 reset.toNat
          ++ [overWindow, overCount, wheelWindow, wheelCount, stall]
        s.configures (.setTurbine p) 0x44 p
          (1 ≤ trip.toNat ∧ 1 ≤ reset.toNat ∧ reset.toNat ≤ trip.toNat
            ∧ (∀ b ∈ [overWindow, overCount, wheelWindow, wheelCount], 1 ≤ b.toNat ∧ b.toNat ≤ 8)
            ∧ 5 ≤ stall.toNat ∧ stall.toNat ≤ 100)
          [.tsv]
          fun t => t.tsv = { s.tsv with config :=
            { teeth := teeth.toNat, tripLimit := trip.toNat, resetLimit := reset.toNat, overWindow := overWindow.toNat
              overCount := overCount.toNat, wheelWindow := wheelWindow.toNat, wheelCount := wheelCount.toNat
              stallSteps := stall.toNat } })
    ∧ (∀ (volume : BitVec 16) (supply ret : Byte) (table : Vector Nat 16), (∀ i : Fin 16, table[i] < 65536) →
        let p := bytesOf 2 volume.toNat ++ [supply, ret] ++ table.toList.flatMap (bytesOf 2)
        s.configures (.setHeat p) 0x45 p
          (1 ≤ volume.toNat ∧ namesChannel supply ∧ namesChannel ret ∧ (supply.toNat ≠ 0xFF → supply ≠ ret)
            ∧ ∀ i : Fin 16, 3000 ≤ table[i] ∧ table[i] ≤ 4500)
          [.hmt]
          fun t => t.hmt = { s.hmt with config :=
            { volume := volume.toNat, supply := channelNamed supply, ret := channelNamed ret, kTable := table } })
    ∧ ∀ (length watch alarm : BitVec 16) (hotIn hotOut pressure window watchCount alarmCount : Byte)
        (baseline pressureWatch pressureAlarm : BitVec 32),
        let p := bytesOf 2 length.toNat ++ [hotIn, hotOut, pressure] ++ bytesOf 4 baseline.toNat ++ bytesOf 2 watch.toNat
          ++ bytesOf 2 alarm.toNat ++ bytesOf 4 pressureWatch.toNat ++ bytesOf 4 pressureAlarm.toNat
          ++ [window, watchCount, alarmCount]
        s.configures (.setScaling p) 0x46 p
          (10 ≤ length.toNat ∧ length.toNat ≤ 600 ∧ (∀ b ∈ [hotIn, hotOut, pressure], namesChannel b)
            ∧ (hotIn.toNat ≠ 0xFF → hotIn ≠ hotOut ∧ hotIn ≠ pressure) ∧ (hotOut.toNat ≠ 0xFF → hotOut ≠ pressure)
            ∧ 1 ≤ baseline.toNat ∧ baseline.toNat ≤ 2147483647 ∧ watch.toNat ≤ 1000 ∧ alarm.toNat < watch.toNat
            ∧ pressureWatch.toInt ≤ pressureAlarm.toInt
            ∧ ∀ b ∈ [window, watchCount, alarmCount], 1 ≤ b.toNat ∧ b.toNat ≤ 8)
          [.scw]
          fun t => t.scw = { s.scw with config :=
            { lengthS := length.toNat, hotIn := channelNamed hotIn, hotOut := channelNamed hotOut
              pressure := channelNamed pressure, baseline := baseline.toNat, watchLimit := watch.toNat
              alarmLimit := alarm.toNat, pressureWatch := pressureWatch.toInt, pressureAlarm := pressureAlarm.toInt
              window := window.toNat, watchCount := watchCount.toNat, alarmCount := alarmCount.toNat } }

/-- Set Unit, Set Edge and Set Watch List, with the fields of 11.3 laid out byte by byte: taken whole when every field is in
range, refused with RANGE and nothing changed otherwise. An enabled definition may not name an output that an enabled
definition of another unit names (R173 to R176, R210, R216). -/
def Obligations.UnitsEdgesAndWatchListAreSet : Prop :=
  ∀ s : State, s.admitsConfiguration →
    (∀ (unit flags : Byte) (length base step gap : BitVec 16) (catchUp : BitVec 32),
      let p := unit :: flags :: bytesOf 2 length.toNat ++ bytesOf 4 catchUp.toNat ++ bytesOf 2 base.toNat
        ++ bytesOf 2 step.toNat ++ bytesOf 2 gap.toNat
      s.configures (.setUnit p) 0x48 p
        (unit.toNat < 4 ∧ flags.toNat < 4 ∧ 1 ≤ length.toNat ∧ catchUp.toNat ≤ 1000000 ∧ base.toNat ≤ 60000
          ∧ step.toNat ≤ 60000 ∧ gap.toNat ≤ 10000)
        [.units]
        fun t => ∀ n : UnitNo, t.units[n] =
          if n.val = unit.toNat then
            { s.units[n] with config :=
              { windowLength := length.toNat, scalingBound := flags.getLsbD 0, shedEnable := flags.getLsbD 1
                catchUp := catchUp.toNat, shedBaseMs := base.toNat, shedStepMs := step.toNat, unitGapMs := gap.toNat } }
          else s.units[n])
    ∧ (∀ (unit place flags output basis : Byte) (offset : Nat), offset < 2 ^ 24 →
        let p := [unit, place, flags, output, basis] ++ bytesOf 3 offset
        let taken := fun (enabled high : Bool) (o : OutputNo) (b : EdgeBasis) => EdgeDef.mk enabled o high b offset
        s.configures (.setEdge p) 0x49 p
          (unit.toNat < 4 ∧ place.toNat < 6 ∧ flags.toNat < 4 ∧ output.toNat < 8
            ∧ (basis.toNat < 2 ∨ basis.toNat - 2 < place.toNat)
            ∧ (flags.getLsbD 0 = true → ∀ m : UnitNo, m.val ≠ unit.toNat → ∀ d : DefNo,
                s.units[m].defs[d].enabled = true → s.units[m].defs[d].output.val ≠ output.toNat))
          [.units]
          fun t => ∀ n : UnitNo,
            (n.val ≠ unit.toNat → t.units[n] = s.units[n])
            ∧ (n.val = unit.toNat → t.units[n] = { s.units[n] with defs := t.units[n].defs }
                ∧ ∀ d : DefNo, (d.val ≠ place.toNat → t.units[n].defs[d] = s.units[n].defs[d])
                  ∧ (d.val = place.toNat → ∀ o : OutputNo, o.val = output.toNat →
                      t.units[n].defs[d] = taken (flags.getLsbD 0) (flags.getLsbD 1) o
                        (match basis.toNat with
                          | 0 => .start
                          | 1 => .stop
                          | j + 2 => .after ⟨j % 6, by omega⟩))))
    ∧ ∀ pairs : List (Byte × Byte), pairs.length ≤ 16 →
        let p := pairs.flatMap fun b => [b.1, b.2]
        let spelled := fun (items : List WatchItem) =>
          items.map fun i => (BitVec.ofNat 8 i.kind, BitVec.ofNat 8 i.subject)
        ((¬∃ items, pairs = spelled items) →
            s.replies (.setWatchList p) 0x4A p { status := .range, payload := [] })
        ∧ ∀ items, pairs = spelled items → ∃ t, exec (.setWatchList p) s = .next t
            ∧ t.svp = { s.answered 0x4A p (success []) with watchList := items } ∧ s.onlyChanges t [.svp]

/-- Start Station makes its four checks in their order, the first that fails refuses it with its code, its number and its
subject, and nothing changes (R177, R205). Which condition of R177 is named first, the role mask as a refusal's subject and the
bytes of the replies are the model's choices, notes/assumptions/27.md and 9.md. -/
def Obligations.StartStationChecksInOrder : Prop :=
  ∀ s : State, s.admitsConfiguration →
    let refused := fun (status : Status) (check subject : Nat) =>
      s.replies (.startStation []) 0x4B [] { status := status, payload := bytesOf 1 check ++ bytesOf 1 subject }
    let roles := s.config.roles
    let usable := fun c : Option ChannelNo =>
      ∃ n, c = some n ∧ s.channels[n].config.enabled = true ∧ s.channels[n].config.group ≠ none
    let places : List (Nat × Option ChannelNo) :=
      [(0, s.hmt.config.supply), (1, s.hmt.config.ret), (2, s.scw.config.hotIn), (3, s.scw.config.hotOut)]
        ++ (if s.scw.config.pressure = none then [] else [(4, s.scw.config.pressure)])
    let holds := fun mode : CaptureMode => ∃ u : CaptureNo, s.captures[u].config.mode = mode
    let first := roles.exchange = true → ∀ x ∈ places, usable x.2
    let second := roles.turbine = true → holds .speed
    let third := roles.exchange = true → holds .totaliser
    let condition := fun (n : UnitNo) (i : Nat) =>
      let u := s.units[n]
      (i = 1 → ∀ d j : DefNo, u.defs[d].enabled = true → u.defs[d].basis = .after j → u.defs[j].enabled = true)
      ∧ (i = 2 → u.defsOf .start ≠ [] ∧ u.defsOf .stop ≠ [])
      ∧ (i = 3 → ∀ d ∈ u.defsOf .start, u.cumulativeOffset d < 1024 * u.config.windowLength)
    let configured := fun n : UnitNo => ∃ d : DefNo, s.units[n].defs[d].enabled = true
    let valid := fun n : UnitNo => configured n → ∀ i, condition n i
    (∀ place c before after, roles.exchange = true → places = before ++ (place, c) :: after → (∀ x ∈ before, usable x.2) →
        ¬usable c →
        refused .unbound 1 (16 * place + match c with | some n => n.val | none => 0xF))
    ∧ (first → ¬second → refused .unbound 2 2)
    ∧ (first → second → ¬third → refused .unbound 3 4)
    ∧ (first → second → third → ∀ (n : UnitNo) (i : Nat), (∀ m, m < n → valid m) → configured n → ¬condition n i →
        (∀ j, j < i → condition n j) → refused .range 4 (n.val + 16 * i))
    ∧ (first → second → third → (∀ n, valid n) → ∃ t, exec (.startStation []) s = .next t
        ∧ t.svp = { s.answered 0x4B [] (success (bytesOf 4 s.tmu.lineTime.toNat ++ bytesOf 1 (if s.tmu.joined then 1 else 0)))
            with station := .run })

/-- The entry to RUN, delivered to every block by a Start Station that no check refuses; and the rising edge of MCLK after
it, at which every enabled channel starts with cleared filters and an empty guard window (R47, R206). Edges shown before the
entry are lost (R75). -/
def Obligations.EntryToRunStartsEveryBlock : Prop :=
  ∀ s : State,
    (s.admitsConfiguration → s.startFailure? = none → ∃ t, exec (.startStation []) s = .next t
      ∧ s.onlyChanges t [.svp, .lif, .tmu, .awaitMclk, .groups, .pulses, .captures, .tsv, .scw]
      ∧ t.svp.station = .run
      ∧ t.lif = { s.lif with queue := queueIn .time s.lif.queue }
      ∧ t.tmu = { s.tmu with
          beaconTimer := some s.tmu.localCount
          joinTimer := if s.tmu.joined then none else some s.tmu.localCount }
      ∧ t.awaitMclk = true
      ∧ t.pulses = { s.pulses with before := if s.pulses.now = none then s.pulses.before else s.pulses.now }
      ∧ (∀ g : GroupNo, t.groups[g] =
          if ∀ c : ChannelNo, s.channels[c].config.group ≠ some g then s.groups[g]
          else { s.groups[g] with openSet := some (openSetAt (s.members g) (1000 * s.groups[g].periodMs) s.tmu.lineTime true) })
      ∧ (∀ u : CaptureNo, t.captures[u] =
          if s.captures[u].config.mode = .off then s.captures[u]
          else { s.captures[u] with
            running := true
            pollTimer := if s.captures[u].config.mode = .general ∧ s.captures[u].config.poll = true then
              some s.tmu.localCount else none })
      ∧ t.tsv = { s.tsv with
          effectiveTeeth :=
            if ∃ u : CaptureNo, s.captures[u].config.mode = .speed ∧ s.captures[u].config.slave ≠ none then
              s.tsv.config.teeth else 0
          overWindow := {}, wheelWindow := {}, revolutionReference := none, toothReference := none
          stallTimer := if ∃ u : CaptureNo, s.captures[u].config.mode = .speed then some s.tmu.localCount else none }
      ∧ t.scw = (if s.config.roles.exchange then
          { s.scw with active := true, interval := some (openInterval s.scw.config s.tmu.lineTime true) } else s.scw))
    ∧ (s.svp.station = .run → s.awaitMclk = true → ∃ t, exec .channelStart s = .next t
        ∧ s.onlyChanges t [.awaitMclk, .channels] ∧ t.awaitMclk = false
        ∧ ∀ c : ChannelNo, t.channels[c] =
            if s.channels[c].config.enabled then
              { s.channels[c] with
                running := true, inputs := [], mainEdges := 0, mainDiscarded := 0, guardEdges := 0, guardDiscarded := 0
                guardHistory := [], guardWindow := {} }
            else s.channels[c])
    ∧ (s.svp.station ≠ .run ∨ s.awaitMclk = false → exec .channelStart s = .next s)

/-! Invariants that every step keeps: from every state that meets them, with any command in front of the queue or none. -/

/-- The state after reset meets every invariant below. -/
def Obligations.ResetMeetsEveryInvariant : Prop :=
  RestOutsideRun State.reset ∧ PumpsAgree State.reset ∧ EdgeCountsAgree State.reset ∧ QueuesFit State.reset
    ∧ ClaimTableSound State.reset ∧ TripViewAgrees State.reset ∧ ScalingHoldAgrees State.reset
    ∧ AttentionDistinct State.reset ∧ QueueOrdered State.reset ∧ ResiduesBelow State.reset ∧ WindowTableSound State.reset
    ∧ StoresBounded State.reset ∧ IndicesBounded State.reset

/-- Outside RUN nothing is captured, metered, claimed, sent or switched, and every output is low: every step keeps it (10.2,
R30, R173). -/
def Obligations.EveryStepKeepsRestOutsideRun : Prop :=
  ∀ s t : State, RestOutsideRun s → step s = .next t → RestOutsideRun t

/-- Own slots, own entries and units fit together: every step keeps it (R152, R153, R163, R178, R190). -/
def Obligations.EveryStepKeepsPumpsAgree : Prop :=
  ∀ s t : State, PumpsAgree s → step s = .next t → PumpsAgree t

/-- The claim table keeps its bounds, and own claims never overlap each other: every step keeps it (R147, R149, R156). -/
def Obligations.EveryStepKeepsClaimTable : Prop :=
  ∀ s t : State, PumpsAgree s → ClaimTableSound s → step s = .next t → ClaimTableSound t

/-- The three edge counts agree with the queue, and no queue outgrows its unit's definitions: every step keeps it
(R178). -/
def Obligations.EveryStepKeepsEdgeQueues : Prop :=
  ∀ s t : State, PumpsAgree s → RestOutsideRun s → EdgeCountsAgree s → QueuesFit s → step s = .next t →
    EdgeCountsAgree t ∧ QueuesFit t

/-- The trip view follows the latch and the rows, holds and trip flags follow it, and the scaling hold follows the own state
and the rows: every step keeps it (R21, R103 to R105, R166, R167, R190, R192). -/
def Obligations.EveryStepKeepsHolds : Prop :=
  ∀ s t : State, step s = .next t →
    (PumpsAgree s → TripViewAgrees s → TripViewAgrees t) ∧ (ScalingHoldAgrees s → ScalingHoldAgrees t)

/-- The attention set and the transmit queue keep their form: every step keeps it (R25 to R29, R207). -/
def Obligations.EveryStepKeepsSetAndQueue : Prop :=
  ∀ s t : State, AttentionDistinct s → QueueOrdered s → step s = .next t → AttentionDistinct t ∧ QueueOrdered t

/-- Residues, windows, stores and indices stay within their bounds: every step keeps it (R58, R67, R77, R82, R115, R133,
R135, R145, R146). -/
def Obligations.EveryStepKeepsBounds : Prop :=
  ∀ s t : State, ResiduesBelow s → WindowTableSound s → StoresBounded s → IndicesBounded s → step s = .next t →
    ResiduesBelow t ∧ WindowTableSound t ∧ StoresBounded t ∧ IndicesBounded t
end

