-- ==== Sys2Proof/Laws/State.lean ====
section
/-! SUPPORT. The fields of the state after each update of one block: one lemma for each update and field, true by rfl. -/

namespace Sys2Proof.Machine

variable (s : State)

/-! putSvp -/

@[simp] theorem State.putSvp_pending (x : Svp) : (s.putSvp x).pending = s.pending := rfl
@[simp] theorem State.putSvp_stationNo (x : Svp) : (s.putSvp x).stationNo = s.stationNo := rfl
@[simp] theorem State.putSvp_config (x : Svp) : (s.putSvp x).config = s.config := rfl
@[simp] theorem State.putSvp_svp (x : Svp) : (s.putSvp x).svp = x := rfl
@[simp] theorem State.putSvp_attention (x : Svp) : (s.putSvp x).attention = s.attention := rfl
@[simp] theorem State.putSvp_lif (x : Svp) : (s.putSvp x).lif = s.lif := rfl
@[simp] theorem State.putSvp_peers (x : Svp) : (s.putSvp x).peers = s.peers := rfl
@[simp] theorem State.putSvp_own (x : Svp) : (s.putSvp x).own = s.own := rfl
@[simp] theorem State.putSvp_tmu (x : Svp) : (s.putSvp x).tmu = s.tmu := rfl
@[simp] theorem State.putSvp_awaitMclk (x : Svp) : (s.putSvp x).awaitMclk = s.awaitMclk := rfl
@[simp] theorem State.putSvp_pulses (x : Svp) : (s.putSvp x).pulses = s.pulses := rfl
@[simp] theorem State.putSvp_channels (x : Svp) : (s.putSvp x).channels = s.channels := rfl
@[simp] theorem State.putSvp_groups (x : Svp) : (s.putSvp x).groups = s.groups := rfl
@[simp] theorem State.putSvp_captures (x : Svp) : (s.putSvp x).captures = s.captures := rfl
@[simp] theorem State.putSvp_tsv (x : Svp) : (s.putSvp x).tsv = s.tsv := rfl
@[simp] theorem State.putSvp_hmt (x : Svp) : (s.putSvp x).hmt = s.hmt := rfl
@[simp] theorem State.putSvp_scw (x : Svp) : (s.putSvp x).scw = s.scw := rfl
@[simp] theorem State.putSvp_spl (x : Svp) : (s.putSvp x).spl = s.spl := rfl
@[simp] theorem State.putSvp_units (x : Svp) : (s.putSvp x).units = s.units := rfl
@[simp] theorem State.putSvp_outputs (x : Svp) : (s.putSvp x).outputs = s.outputs := rfl
@[simp] theorem State.putSvp_freeNext (x : Svp) : (s.putSvp x).freeNext = s.freeNext := rfl

/-! putLif -/

@[simp] theorem State.putLif_pending (x : Lif) : (s.putLif x).pending = s.pending := rfl
@[simp] theorem State.putLif_stationNo (x : Lif) : (s.putLif x).stationNo = s.stationNo := rfl
@[simp] theorem State.putLif_config (x : Lif) : (s.putLif x).config = s.config := rfl
@[simp] theorem State.putLif_svp (x : Lif) : (s.putLif x).svp = s.svp := rfl
@[simp] theorem State.putLif_attention (x : Lif) : (s.putLif x).attention = s.attention := rfl
@[simp] theorem State.putLif_lif (x : Lif) : (s.putLif x).lif = x := rfl
@[simp] theorem State.putLif_peers (x : Lif) : (s.putLif x).peers = s.peers := rfl
@[simp] theorem State.putLif_own (x : Lif) : (s.putLif x).own = s.own := rfl
@[simp] theorem State.putLif_tmu (x : Lif) : (s.putLif x).tmu = s.tmu := rfl
@[simp] theorem State.putLif_awaitMclk (x : Lif) : (s.putLif x).awaitMclk = s.awaitMclk := rfl
@[simp] theorem State.putLif_pulses (x : Lif) : (s.putLif x).pulses = s.pulses := rfl
@[simp] theorem State.putLif_channels (x : Lif) : (s.putLif x).channels = s.channels := rfl
@[simp] theorem State.putLif_groups (x : Lif) : (s.putLif x).groups = s.groups := rfl
@[simp] theorem State.putLif_captures (x : Lif) : (s.putLif x).captures = s.captures := rfl
@[simp] theorem State.putLif_tsv (x : Lif) : (s.putLif x).tsv = s.tsv := rfl
@[simp] theorem State.putLif_hmt (x : Lif) : (s.putLif x).hmt = s.hmt := rfl
@[simp] theorem State.putLif_scw (x : Lif) : (s.putLif x).scw = s.scw := rfl
@[simp] theorem State.putLif_spl (x : Lif) : (s.putLif x).spl = s.spl := rfl
@[simp] theorem State.putLif_units (x : Lif) : (s.putLif x).units = s.units := rfl
@[simp] theorem State.putLif_outputs (x : Lif) : (s.putLif x).outputs = s.outputs := rfl
@[simp] theorem State.putLif_freeNext (x : Lif) : (s.putLif x).freeNext = s.freeNext := rfl

/-! putTmu -/

@[simp] theorem State.putTmu_pending (x : Tmu) : (s.putTmu x).pending = s.pending := rfl
@[simp] theorem State.putTmu_stationNo (x : Tmu) : (s.putTmu x).stationNo = s.stationNo := rfl
@[simp] theorem State.putTmu_config (x : Tmu) : (s.putTmu x).config = s.config := rfl
@[simp] theorem State.putTmu_svp (x : Tmu) : (s.putTmu x).svp = s.svp := rfl
@[simp] theorem State.putTmu_attention (x : Tmu) : (s.putTmu x).attention = s.attention := rfl
@[simp] theorem State.putTmu_lif (x : Tmu) : (s.putTmu x).lif = s.lif := rfl
@[simp] theorem State.putTmu_peers (x : Tmu) : (s.putTmu x).peers = s.peers := rfl
@[simp] theorem State.putTmu_own (x : Tmu) : (s.putTmu x).own = s.own := rfl
@[simp] theorem State.putTmu_tmu (x : Tmu) : (s.putTmu x).tmu = x := rfl
@[simp] theorem State.putTmu_awaitMclk (x : Tmu) : (s.putTmu x).awaitMclk = s.awaitMclk := rfl
@[simp] theorem State.putTmu_pulses (x : Tmu) : (s.putTmu x).pulses = s.pulses := rfl
@[simp] theorem State.putTmu_channels (x : Tmu) : (s.putTmu x).channels = s.channels := rfl
@[simp] theorem State.putTmu_groups (x : Tmu) : (s.putTmu x).groups = s.groups := rfl
@[simp] theorem State.putTmu_captures (x : Tmu) : (s.putTmu x).captures = s.captures := rfl
@[simp] theorem State.putTmu_tsv (x : Tmu) : (s.putTmu x).tsv = s.tsv := rfl
@[simp] theorem State.putTmu_hmt (x : Tmu) : (s.putTmu x).hmt = s.hmt := rfl
@[simp] theorem State.putTmu_scw (x : Tmu) : (s.putTmu x).scw = s.scw := rfl
@[simp] theorem State.putTmu_spl (x : Tmu) : (s.putTmu x).spl = s.spl := rfl
@[simp] theorem State.putTmu_units (x : Tmu) : (s.putTmu x).units = s.units := rfl
@[simp] theorem State.putTmu_outputs (x : Tmu) : (s.putTmu x).outputs = s.outputs := rfl
@[simp] theorem State.putTmu_freeNext (x : Tmu) : (s.putTmu x).freeNext = s.freeNext := rfl

/-! putTsv -/

@[simp] theorem State.putTsv_pending (x : Tsv) : (s.putTsv x).pending = s.pending := rfl
@[simp] theorem State.putTsv_stationNo (x : Tsv) : (s.putTsv x).stationNo = s.stationNo := rfl
@[simp] theorem State.putTsv_config (x : Tsv) : (s.putTsv x).config = s.config := rfl
@[simp] theorem State.putTsv_svp (x : Tsv) : (s.putTsv x).svp = s.svp := rfl
@[simp] theorem State.putTsv_attention (x : Tsv) : (s.putTsv x).attention = s.attention := rfl
@[simp] theorem State.putTsv_lif (x : Tsv) : (s.putTsv x).lif = s.lif := rfl
@[simp] theorem State.putTsv_peers (x : Tsv) : (s.putTsv x).peers = s.peers := rfl
@[simp] theorem State.putTsv_own (x : Tsv) : (s.putTsv x).own = s.own := rfl
@[simp] theorem State.putTsv_tmu (x : Tsv) : (s.putTsv x).tmu = s.tmu := rfl
@[simp] theorem State.putTsv_awaitMclk (x : Tsv) : (s.putTsv x).awaitMclk = s.awaitMclk := rfl
@[simp] theorem State.putTsv_pulses (x : Tsv) : (s.putTsv x).pulses = s.pulses := rfl
@[simp] theorem State.putTsv_channels (x : Tsv) : (s.putTsv x).channels = s.channels := rfl
@[simp] theorem State.putTsv_groups (x : Tsv) : (s.putTsv x).groups = s.groups := rfl
@[simp] theorem State.putTsv_captures (x : Tsv) : (s.putTsv x).captures = s.captures := rfl
@[simp] theorem State.putTsv_tsv (x : Tsv) : (s.putTsv x).tsv = x := rfl
@[simp] theorem State.putTsv_hmt (x : Tsv) : (s.putTsv x).hmt = s.hmt := rfl
@[simp] theorem State.putTsv_scw (x : Tsv) : (s.putTsv x).scw = s.scw := rfl
@[simp] theorem State.putTsv_spl (x : Tsv) : (s.putTsv x).spl = s.spl := rfl
@[simp] theorem State.putTsv_units (x : Tsv) : (s.putTsv x).units = s.units := rfl
@[simp] theorem State.putTsv_outputs (x : Tsv) : (s.putTsv x).outputs = s.outputs := rfl
@[simp] theorem State.putTsv_freeNext (x : Tsv) : (s.putTsv x).freeNext = s.freeNext := rfl

/-! putHmt -/

@[simp] theorem State.putHmt_pending (x : Hmt) : (s.putHmt x).pending = s.pending := rfl
@[simp] theorem State.putHmt_stationNo (x : Hmt) : (s.putHmt x).stationNo = s.stationNo := rfl
@[simp] theorem State.putHmt_config (x : Hmt) : (s.putHmt x).config = s.config := rfl
@[simp] theorem State.putHmt_svp (x : Hmt) : (s.putHmt x).svp = s.svp := rfl
@[simp] theorem State.putHmt_attention (x : Hmt) : (s.putHmt x).attention = s.attention := rfl
@[simp] theorem State.putHmt_lif (x : Hmt) : (s.putHmt x).lif = s.lif := rfl
@[simp] theorem State.putHmt_peers (x : Hmt) : (s.putHmt x).peers = s.peers := rfl
@[simp] theorem State.putHmt_own (x : Hmt) : (s.putHmt x).own = s.own := rfl
@[simp] theorem State.putHmt_tmu (x : Hmt) : (s.putHmt x).tmu = s.tmu := rfl
@[simp] theorem State.putHmt_awaitMclk (x : Hmt) : (s.putHmt x).awaitMclk = s.awaitMclk := rfl
@[simp] theorem State.putHmt_pulses (x : Hmt) : (s.putHmt x).pulses = s.pulses := rfl
@[simp] theorem State.putHmt_channels (x : Hmt) : (s.putHmt x).channels = s.channels := rfl
@[simp] theorem State.putHmt_groups (x : Hmt) : (s.putHmt x).groups = s.groups := rfl
@[simp] theorem State.putHmt_captures (x : Hmt) : (s.putHmt x).captures = s.captures := rfl
@[simp] theorem State.putHmt_tsv (x : Hmt) : (s.putHmt x).tsv = s.tsv := rfl
@[simp] theorem State.putHmt_hmt (x : Hmt) : (s.putHmt x).hmt = x := rfl
@[simp] theorem State.putHmt_scw (x : Hmt) : (s.putHmt x).scw = s.scw := rfl
@[simp] theorem State.putHmt_spl (x : Hmt) : (s.putHmt x).spl = s.spl := rfl
@[simp] theorem State.putHmt_units (x : Hmt) : (s.putHmt x).units = s.units := rfl
@[simp] theorem State.putHmt_outputs (x : Hmt) : (s.putHmt x).outputs = s.outputs := rfl
@[simp] theorem State.putHmt_freeNext (x : Hmt) : (s.putHmt x).freeNext = s.freeNext := rfl

/-! putScw -/

@[simp] theorem State.putScw_pending (x : Scw) : (s.putScw x).pending = s.pending := rfl
@[simp] theorem State.putScw_stationNo (x : Scw) : (s.putScw x).stationNo = s.stationNo := rfl
@[simp] theorem State.putScw_config (x : Scw) : (s.putScw x).config = s.config := rfl
@[simp] theorem State.putScw_svp (x : Scw) : (s.putScw x).svp = s.svp := rfl
@[simp] theorem State.putScw_attention (x : Scw) : (s.putScw x).attention = s.attention := rfl
@[simp] theorem State.putScw_lif (x : Scw) : (s.putScw x).lif = s.lif := rfl
@[simp] theorem State.putScw_peers (x : Scw) : (s.putScw x).peers = s.peers := rfl
@[simp] theorem State.putScw_own (x : Scw) : (s.putScw x).own = s.own := rfl
@[simp] theorem State.putScw_tmu (x : Scw) : (s.putScw x).tmu = s.tmu := rfl
@[simp] theorem State.putScw_awaitMclk (x : Scw) : (s.putScw x).awaitMclk = s.awaitMclk := rfl
@[simp] theorem State.putScw_pulses (x : Scw) : (s.putScw x).pulses = s.pulses := rfl
@[simp] theorem State.putScw_channels (x : Scw) : (s.putScw x).channels = s.channels := rfl
@[simp] theorem State.putScw_groups (x : Scw) : (s.putScw x).groups = s.groups := rfl
@[simp] theorem State.putScw_captures (x : Scw) : (s.putScw x).captures = s.captures := rfl
@[simp] theorem State.putScw_tsv (x : Scw) : (s.putScw x).tsv = s.tsv := rfl
@[simp] theorem State.putScw_hmt (x : Scw) : (s.putScw x).hmt = s.hmt := rfl
@[simp] theorem State.putScw_scw (x : Scw) : (s.putScw x).scw = x := rfl
@[simp] theorem State.putScw_spl (x : Scw) : (s.putScw x).spl = s.spl := rfl
@[simp] theorem State.putScw_units (x : Scw) : (s.putScw x).units = s.units := rfl
@[simp] theorem State.putScw_outputs (x : Scw) : (s.putScw x).outputs = s.outputs := rfl
@[simp] theorem State.putScw_freeNext (x : Scw) : (s.putScw x).freeNext = s.freeNext := rfl

/-! putSpl -/

@[simp] theorem State.putSpl_pending (x : Spl) : (s.putSpl x).pending = s.pending := rfl
@[simp] theorem State.putSpl_stationNo (x : Spl) : (s.putSpl x).stationNo = s.stationNo := rfl
@[simp] theorem State.putSpl_config (x : Spl) : (s.putSpl x).config = s.config := rfl
@[simp] theorem State.putSpl_svp (x : Spl) : (s.putSpl x).svp = s.svp := rfl
@[simp] theorem State.putSpl_attention (x : Spl) : (s.putSpl x).attention = s.attention := rfl
@[simp] theorem State.putSpl_lif (x : Spl) : (s.putSpl x).lif = s.lif := rfl
@[simp] theorem State.putSpl_peers (x : Spl) : (s.putSpl x).peers = s.peers := rfl
@[simp] theorem State.putSpl_own (x : Spl) : (s.putSpl x).own = s.own := rfl
@[simp] theorem State.putSpl_tmu (x : Spl) : (s.putSpl x).tmu = s.tmu := rfl
@[simp] theorem State.putSpl_awaitMclk (x : Spl) : (s.putSpl x).awaitMclk = s.awaitMclk := rfl
@[simp] theorem State.putSpl_pulses (x : Spl) : (s.putSpl x).pulses = s.pulses := rfl
@[simp] theorem State.putSpl_channels (x : Spl) : (s.putSpl x).channels = s.channels := rfl
@[simp] theorem State.putSpl_groups (x : Spl) : (s.putSpl x).groups = s.groups := rfl
@[simp] theorem State.putSpl_captures (x : Spl) : (s.putSpl x).captures = s.captures := rfl
@[simp] theorem State.putSpl_tsv (x : Spl) : (s.putSpl x).tsv = s.tsv := rfl
@[simp] theorem State.putSpl_hmt (x : Spl) : (s.putSpl x).hmt = s.hmt := rfl
@[simp] theorem State.putSpl_scw (x : Spl) : (s.putSpl x).scw = s.scw := rfl
@[simp] theorem State.putSpl_spl (x : Spl) : (s.putSpl x).spl = x := rfl
@[simp] theorem State.putSpl_units (x : Spl) : (s.putSpl x).units = s.units := rfl
@[simp] theorem State.putSpl_outputs (x : Spl) : (s.putSpl x).outputs = s.outputs := rfl
@[simp] theorem State.putSpl_freeNext (x : Spl) : (s.putSpl x).freeNext = s.freeNext := rfl

/-! putPeer -/

@[simp] theorem State.putPeer_pending (n : StationNo) (x : PeerRow) : (s.putPeer n x).pending = s.pending := rfl
@[simp] theorem State.putPeer_stationNo (n : StationNo) (x : PeerRow) : (s.putPeer n x).stationNo = s.stationNo := rfl
@[simp] theorem State.putPeer_config (n : StationNo) (x : PeerRow) : (s.putPeer n x).config = s.config := rfl
@[simp] theorem State.putPeer_svp (n : StationNo) (x : PeerRow) : (s.putPeer n x).svp = s.svp := rfl
@[simp] theorem State.putPeer_attention (n : StationNo) (x : PeerRow) : (s.putPeer n x).attention = s.attention := rfl
@[simp] theorem State.putPeer_lif (n : StationNo) (x : PeerRow) : (s.putPeer n x).lif = s.lif := rfl
@[simp] theorem State.putPeer_peers (n : StationNo) (x : PeerRow) : (s.putPeer n x).peers = s.peers.set n x := rfl
@[simp] theorem State.putPeer_own (n : StationNo) (x : PeerRow) : (s.putPeer n x).own = s.own := rfl
@[simp] theorem State.putPeer_tmu (n : StationNo) (x : PeerRow) : (s.putPeer n x).tmu = s.tmu := rfl
@[simp] theorem State.putPeer_awaitMclk (n : StationNo) (x : PeerRow) : (s.putPeer n x).awaitMclk = s.awaitMclk := rfl
@[simp] theorem State.putPeer_pulses (n : StationNo) (x : PeerRow) : (s.putPeer n x).pulses = s.pulses := rfl
@[simp] theorem State.putPeer_channels (n : StationNo) (x : PeerRow) : (s.putPeer n x).channels = s.channels := rfl
@[simp] theorem State.putPeer_groups (n : StationNo) (x : PeerRow) : (s.putPeer n x).groups = s.groups := rfl
@[simp] theorem State.putPeer_captures (n : StationNo) (x : PeerRow) : (s.putPeer n x).captures = s.captures := rfl
@[simp] theorem State.putPeer_tsv (n : StationNo) (x : PeerRow) : (s.putPeer n x).tsv = s.tsv := rfl
@[simp] theorem State.putPeer_hmt (n : StationNo) (x : PeerRow) : (s.putPeer n x).hmt = s.hmt := rfl
@[simp] theorem State.putPeer_scw (n : StationNo) (x : PeerRow) : (s.putPeer n x).scw = s.scw := rfl
@[simp] theorem State.putPeer_spl (n : StationNo) (x : PeerRow) : (s.putPeer n x).spl = s.spl := rfl
@[simp] theorem State.putPeer_units (n : StationNo) (x : PeerRow) : (s.putPeer n x).units = s.units := rfl
@[simp] theorem State.putPeer_outputs (n : StationNo) (x : PeerRow) : (s.putPeer n x).outputs = s.outputs := rfl
@[simp] theorem State.putPeer_freeNext (n : StationNo) (x : PeerRow) : (s.putPeer n x).freeNext = s.freeNext := rfl

/-! putChannel -/

@[simp] theorem State.putChannel_pending (c : ChannelNo) (x : Channel) : (s.putChannel c x).pending = s.pending := rfl
@[simp] theorem State.putChannel_stationNo (c : ChannelNo) (x : Channel) : (s.putChannel c x).stationNo = s.stationNo := rfl
@[simp] theorem State.putChannel_config (c : ChannelNo) (x : Channel) : (s.putChannel c x).config = s.config := rfl
@[simp] theorem State.putChannel_svp (c : ChannelNo) (x : Channel) : (s.putChannel c x).svp = s.svp := rfl
@[simp] theorem State.putChannel_attention (c : ChannelNo) (x : Channel) : (s.putChannel c x).attention = s.attention := rfl
@[simp] theorem State.putChannel_lif (c : ChannelNo) (x : Channel) : (s.putChannel c x).lif = s.lif := rfl
@[simp] theorem State.putChannel_peers (c : ChannelNo) (x : Channel) : (s.putChannel c x).peers = s.peers := rfl
@[simp] theorem State.putChannel_own (c : ChannelNo) (x : Channel) : (s.putChannel c x).own = s.own := rfl
@[simp] theorem State.putChannel_tmu (c : ChannelNo) (x : Channel) : (s.putChannel c x).tmu = s.tmu := rfl
@[simp] theorem State.putChannel_awaitMclk (c : ChannelNo) (x : Channel) : (s.putChannel c x).awaitMclk = s.awaitMclk := rfl
@[simp] theorem State.putChannel_pulses (c : ChannelNo) (x : Channel) : (s.putChannel c x).pulses = s.pulses := rfl
@[simp] theorem State.putChannel_channels (c : ChannelNo) (x : Channel) : (s.putChannel c x).channels = s.channels.set c x := rfl
@[simp] theorem State.putChannel_groups (c : ChannelNo) (x : Channel) : (s.putChannel c x).groups = s.groups := rfl
@[simp] theorem State.putChannel_captures (c : ChannelNo) (x : Channel) : (s.putChannel c x).captures = s.captures := rfl
@[simp] theorem State.putChannel_tsv (c : ChannelNo) (x : Channel) : (s.putChannel c x).tsv = s.tsv := rfl
@[simp] theorem State.putChannel_hmt (c : ChannelNo) (x : Channel) : (s.putChannel c x).hmt = s.hmt := rfl
@[simp] theorem State.putChannel_scw (c : ChannelNo) (x : Channel) : (s.putChannel c x).scw = s.scw := rfl
@[simp] theorem State.putChannel_spl (c : ChannelNo) (x : Channel) : (s.putChannel c x).spl = s.spl := rfl
@[simp] theorem State.putChannel_units (c : ChannelNo) (x : Channel) : (s.putChannel c x).units = s.units := rfl
@[simp] theorem State.putChannel_outputs (c : ChannelNo) (x : Channel) : (s.putChannel c x).outputs = s.outputs := rfl
@[simp] theorem State.putChannel_freeNext (c : ChannelNo) (x : Channel) : (s.putChannel c x).freeNext = s.freeNext := rfl

/-! putGroup -/

@[simp] theorem State.putGroup_pending (g : GroupNo) (x : Group) : (s.putGroup g x).pending = s.pending := rfl
@[simp] theorem State.putGroup_stationNo (g : GroupNo) (x : Group) : (s.putGroup g x).stationNo = s.stationNo := rfl
@[simp] theorem State.putGroup_config (g : GroupNo) (x : Group) : (s.putGroup g x).config = s.config := rfl
@[simp] theorem State.putGroup_svp (g : GroupNo) (x : Group) : (s.putGroup g x).svp = s.svp := rfl
@[simp] theorem State.putGroup_attention (g : GroupNo) (x : Group) : (s.putGroup g x).attention = s.attention := rfl
@[simp] theorem State.putGroup_lif (g : GroupNo) (x : Group) : (s.putGroup g x).lif = s.lif := rfl
@[simp] theorem State.putGroup_peers (g : GroupNo) (x : Group) : (s.putGroup g x).peers = s.peers := rfl
@[simp] theorem State.putGroup_own (g : GroupNo) (x : Group) : (s.putGroup g x).own = s.own := rfl
@[simp] theorem State.putGroup_tmu (g : GroupNo) (x : Group) : (s.putGroup g x).tmu = s.tmu := rfl
@[simp] theorem State.putGroup_awaitMclk (g : GroupNo) (x : Group) : (s.putGroup g x).awaitMclk = s.awaitMclk := rfl
@[simp] theorem State.putGroup_pulses (g : GroupNo) (x : Group) : (s.putGroup g x).pulses = s.pulses := rfl
@[simp] theorem State.putGroup_channels (g : GroupNo) (x : Group) : (s.putGroup g x).channels = s.channels := rfl
@[simp] theorem State.putGroup_groups (g : GroupNo) (x : Group) : (s.putGroup g x).groups = s.groups.set g x := rfl
@[simp] theorem State.putGroup_captures (g : GroupNo) (x : Group) : (s.putGroup g x).captures = s.captures := rfl
@[simp] theorem State.putGroup_tsv (g : GroupNo) (x : Group) : (s.putGroup g x).tsv = s.tsv := rfl
@[simp] theorem State.putGroup_hmt (g : GroupNo) (x : Group) : (s.putGroup g x).hmt = s.hmt := rfl
@[simp] theorem State.putGroup_scw (g : GroupNo) (x : Group) : (s.putGroup g x).scw = s.scw := rfl
@[simp] theorem State.putGroup_spl (g : GroupNo) (x : Group) : (s.putGroup g x).spl = s.spl := rfl
@[simp] theorem State.putGroup_units (g : GroupNo) (x : Group) : (s.putGroup g x).units = s.units := rfl
@[simp] theorem State.putGroup_outputs (g : GroupNo) (x : Group) : (s.putGroup g x).outputs = s.outputs := rfl
@[simp] theorem State.putGroup_freeNext (g : GroupNo) (x : Group) : (s.putGroup g x).freeNext = s.freeNext := rfl

/-! putPulses -/

@[simp] theorem State.putPulses_pending (x : PulseInputs) : (s.putPulses x).pending = s.pending := rfl
@[simp] theorem State.putPulses_stationNo (x : PulseInputs) : (s.putPulses x).stationNo = s.stationNo := rfl
@[simp] theorem State.putPulses_config (x : PulseInputs) : (s.putPulses x).config = s.config := rfl
@[simp] theorem State.putPulses_svp (x : PulseInputs) : (s.putPulses x).svp = s.svp := rfl
@[simp] theorem State.putPulses_attention (x : PulseInputs) : (s.putPulses x).attention = s.attention := rfl
@[simp] theorem State.putPulses_lif (x : PulseInputs) : (s.putPulses x).lif = s.lif := rfl
@[simp] theorem State.putPulses_peers (x : PulseInputs) : (s.putPulses x).peers = s.peers := rfl
@[simp] theorem State.putPulses_own (x : PulseInputs) : (s.putPulses x).own = s.own := rfl
@[simp] theorem State.putPulses_tmu (x : PulseInputs) : (s.putPulses x).tmu = s.tmu := rfl
@[simp] theorem State.putPulses_awaitMclk (x : PulseInputs) : (s.putPulses x).awaitMclk = s.awaitMclk := rfl
@[simp] theorem State.putPulses_pulses (x : PulseInputs) : (s.putPulses x).pulses = x := rfl
@[simp] theorem State.putPulses_channels (x : PulseInputs) : (s.putPulses x).channels = s.channels := rfl
@[simp] theorem State.putPulses_groups (x : PulseInputs) : (s.putPulses x).groups = s.groups := rfl
@[simp] theorem State.putPulses_captures (x : PulseInputs) : (s.putPulses x).captures = s.captures := rfl
@[simp] theorem State.putPulses_tsv (x : PulseInputs) : (s.putPulses x).tsv = s.tsv := rfl
@[simp] theorem State.putPulses_hmt (x : PulseInputs) : (s.putPulses x).hmt = s.hmt := rfl
@[simp] theorem State.putPulses_scw (x : PulseInputs) : (s.putPulses x).scw = s.scw := rfl
@[simp] theorem State.putPulses_spl (x : PulseInputs) : (s.putPulses x).spl = s.spl := rfl
@[simp] theorem State.putPulses_units (x : PulseInputs) : (s.putPulses x).units = s.units := rfl
@[simp] theorem State.putPulses_outputs (x : PulseInputs) : (s.putPulses x).outputs = s.outputs := rfl
@[simp] theorem State.putPulses_freeNext (x : PulseInputs) : (s.putPulses x).freeNext = s.freeNext := rfl

/-! tellSample -/

@[simp] theorem State.tellSample_pending (x : BitVec 8) : (s.tellSample x).pending = s.pending := rfl
@[simp] theorem State.tellSample_stationNo (x : BitVec 8) : (s.tellSample x).stationNo = s.stationNo := rfl
@[simp] theorem State.tellSample_config (x : BitVec 8) : (s.tellSample x).config = s.config := rfl
@[simp] theorem State.tellSample_svp (x : BitVec 8) : (s.tellSample x).svp = s.svp := rfl
@[simp] theorem State.tellSample_attention (x : BitVec 8) : (s.tellSample x).attention = s.attention := rfl
@[simp] theorem State.tellSample_lif (x : BitVec 8) : (s.tellSample x).lif = s.lif := rfl
@[simp] theorem State.tellSample_peers (x : BitVec 8) : (s.tellSample x).peers = s.peers := rfl
@[simp] theorem State.tellSample_own (x : BitVec 8) : (s.tellSample x).own = s.own := rfl
@[simp] theorem State.tellSample_tmu (x : BitVec 8) : (s.tellSample x).tmu = s.tmu := rfl
@[simp] theorem State.tellSample_awaitMclk (x : BitVec 8) : (s.tellSample x).awaitMclk = s.awaitMclk := rfl
@[simp] theorem State.tellSample_pulses (x : BitVec 8) : (s.tellSample x).pulses = s.pulses.told x := rfl
@[simp] theorem State.tellSample_channels (x : BitVec 8) : (s.tellSample x).channels = s.channels := rfl
@[simp] theorem State.tellSample_groups (x : BitVec 8) : (s.tellSample x).groups = s.groups := rfl
@[simp] theorem State.tellSample_captures (x : BitVec 8) : (s.tellSample x).captures = s.captures := rfl
@[simp] theorem State.tellSample_tsv (x : BitVec 8) : (s.tellSample x).tsv = s.tsv := rfl
@[simp] theorem State.tellSample_hmt (x : BitVec 8) : (s.tellSample x).hmt = s.hmt := rfl
@[simp] theorem State.tellSample_scw (x : BitVec 8) : (s.tellSample x).scw = s.scw := rfl
@[simp] theorem State.tellSample_spl (x : BitVec 8) : (s.tellSample x).spl = s.spl := rfl
@[simp] theorem State.tellSample_units (x : BitVec 8) : (s.tellSample x).units = s.units := rfl
@[simp] theorem State.tellSample_outputs (x : BitVec 8) : (s.tellSample x).outputs = s.outputs := rfl
@[simp] theorem State.tellSample_freeNext (x : BitVec 8) : (s.tellSample x).freeNext = s.freeNext := rfl

/-! takeSlave -/

@[simp] theorem State.takeSlave_pending (u : CaptureNo) : (s.takeSlave u).pending = s.pending := rfl
@[simp] theorem State.takeSlave_stationNo (u : CaptureNo) : (s.takeSlave u).stationNo = s.stationNo := rfl
@[simp] theorem State.takeSlave_config (u : CaptureNo) : (s.takeSlave u).config = s.config := rfl
@[simp] theorem State.takeSlave_svp (u : CaptureNo) : (s.takeSlave u).svp = s.svp := rfl
@[simp] theorem State.takeSlave_attention (u : CaptureNo) : (s.takeSlave u).attention = s.attention := rfl
@[simp] theorem State.takeSlave_lif (u : CaptureNo) : (s.takeSlave u).lif = s.lif := rfl
@[simp] theorem State.takeSlave_peers (u : CaptureNo) : (s.takeSlave u).peers = s.peers := rfl
@[simp] theorem State.takeSlave_own (u : CaptureNo) : (s.takeSlave u).own = s.own := rfl
@[simp] theorem State.takeSlave_tmu (u : CaptureNo) : (s.takeSlave u).tmu = s.tmu := rfl
@[simp] theorem State.takeSlave_awaitMclk (u : CaptureNo) : (s.takeSlave u).awaitMclk = s.awaitMclk := rfl
@[simp] theorem State.takeSlave_pulses (u : CaptureNo) :
    (s.takeSlave u).pulses =
      { s.captures[u].config.slave.elim s.pulses (s.pulses.received s.now) with slaves := s.pulses.slaves ++ [u] } := rfl
@[simp] theorem State.takeSlave_channels (u : CaptureNo) : (s.takeSlave u).channels = s.channels := rfl
@[simp] theorem State.takeSlave_groups (u : CaptureNo) : (s.takeSlave u).groups = s.groups := rfl
@[simp] theorem State.takeSlave_captures (u : CaptureNo) : (s.takeSlave u).captures = s.captures := rfl
@[simp] theorem State.takeSlave_tsv (u : CaptureNo) : (s.takeSlave u).tsv = s.tsv := rfl
@[simp] theorem State.takeSlave_hmt (u : CaptureNo) : (s.takeSlave u).hmt = s.hmt := rfl
@[simp] theorem State.takeSlave_scw (u : CaptureNo) : (s.takeSlave u).scw = s.scw := rfl
@[simp] theorem State.takeSlave_spl (u : CaptureNo) : (s.takeSlave u).spl = s.spl := rfl
@[simp] theorem State.takeSlave_units (u : CaptureNo) : (s.takeSlave u).units = s.units := rfl
@[simp] theorem State.takeSlave_outputs (u : CaptureNo) : (s.takeSlave u).outputs = s.outputs := rfl
@[simp] theorem State.takeSlave_freeNext (u : CaptureNo) : (s.takeSlave u).freeNext = s.freeNext := rfl

/-! takeMaster -/

@[simp] theorem State.takeMaster_pending (u : CaptureNo) : (s.takeMaster u).pending = s.pending := rfl
@[simp] theorem State.takeMaster_stationNo (u : CaptureNo) : (s.takeMaster u).stationNo = s.stationNo := rfl
@[simp] theorem State.takeMaster_config (u : CaptureNo) : (s.takeMaster u).config = s.config := rfl
@[simp] theorem State.takeMaster_svp (u : CaptureNo) : (s.takeMaster u).svp = s.svp := rfl
@[simp] theorem State.takeMaster_attention (u : CaptureNo) : (s.takeMaster u).attention = s.attention := rfl
@[simp] theorem State.takeMaster_lif (u : CaptureNo) : (s.takeMaster u).lif = s.lif := rfl
@[simp] theorem State.takeMaster_peers (u : CaptureNo) : (s.takeMaster u).peers = s.peers := rfl
@[simp] theorem State.takeMaster_own (u : CaptureNo) : (s.takeMaster u).own = s.own := rfl
@[simp] theorem State.takeMaster_tmu (u : CaptureNo) : (s.takeMaster u).tmu = s.tmu := rfl
@[simp] theorem State.takeMaster_awaitMclk (u : CaptureNo) : (s.takeMaster u).awaitMclk = s.awaitMclk := rfl
@[simp] theorem State.takeMaster_pulses (u : CaptureNo) :
    (s.takeMaster u).pulses =
      { s.pulses.received s.now s.captures[u].config.master with masters := s.pulses.masters ++ [u] } := rfl
@[simp] theorem State.takeMaster_channels (u : CaptureNo) : (s.takeMaster u).channels = s.channels := rfl
@[simp] theorem State.takeMaster_groups (u : CaptureNo) : (s.takeMaster u).groups = s.groups := rfl
@[simp] theorem State.takeMaster_captures (u : CaptureNo) : (s.takeMaster u).captures = s.captures := rfl
@[simp] theorem State.takeMaster_tsv (u : CaptureNo) : (s.takeMaster u).tsv = s.tsv := rfl
@[simp] theorem State.takeMaster_hmt (u : CaptureNo) : (s.takeMaster u).hmt = s.hmt := rfl
@[simp] theorem State.takeMaster_scw (u : CaptureNo) : (s.takeMaster u).scw = s.scw := rfl
@[simp] theorem State.takeMaster_spl (u : CaptureNo) : (s.takeMaster u).spl = s.spl := rfl
@[simp] theorem State.takeMaster_units (u : CaptureNo) : (s.takeMaster u).units = s.units := rfl
@[simp] theorem State.takeMaster_outputs (u : CaptureNo) : (s.takeMaster u).outputs = s.outputs := rfl
@[simp] theorem State.takeMaster_freeNext (u : CaptureNo) : (s.takeMaster u).freeNext = s.freeNext := rfl

/-! putCapture -/

@[simp] theorem State.putCapture_pending (u : CaptureNo) (x : Capture) : (s.putCapture u x).pending = s.pending := rfl
@[simp] theorem State.putCapture_stationNo (u : CaptureNo) (x : Capture) : (s.putCapture u x).stationNo = s.stationNo := rfl
@[simp] theorem State.putCapture_config (u : CaptureNo) (x : Capture) : (s.putCapture u x).config = s.config := rfl
@[simp] theorem State.putCapture_svp (u : CaptureNo) (x : Capture) : (s.putCapture u x).svp = s.svp := rfl
@[simp] theorem State.putCapture_attention (u : CaptureNo) (x : Capture) : (s.putCapture u x).attention = s.attention := rfl
@[simp] theorem State.putCapture_lif (u : CaptureNo) (x : Capture) : (s.putCapture u x).lif = s.lif := rfl
@[simp] theorem State.putCapture_peers (u : CaptureNo) (x : Capture) : (s.putCapture u x).peers = s.peers := rfl
@[simp] theorem State.putCapture_own (u : CaptureNo) (x : Capture) : (s.putCapture u x).own = s.own := rfl
@[simp] theorem State.putCapture_tmu (u : CaptureNo) (x : Capture) : (s.putCapture u x).tmu = s.tmu := rfl
@[simp] theorem State.putCapture_awaitMclk (u : CaptureNo) (x : Capture) : (s.putCapture u x).awaitMclk = s.awaitMclk := rfl
@[simp] theorem State.putCapture_pulses (u : CaptureNo) (x : Capture) : (s.putCapture u x).pulses = s.pulses := rfl
@[simp] theorem State.putCapture_channels (u : CaptureNo) (x : Capture) : (s.putCapture u x).channels = s.channels := rfl
@[simp] theorem State.putCapture_groups (u : CaptureNo) (x : Capture) : (s.putCapture u x).groups = s.groups := rfl
@[simp] theorem State.putCapture_captures (u : CaptureNo) (x : Capture) : (s.putCapture u x).captures = s.captures.set u x := rfl
@[simp] theorem State.putCapture_tsv (u : CaptureNo) (x : Capture) : (s.putCapture u x).tsv = s.tsv := rfl
@[simp] theorem State.putCapture_hmt (u : CaptureNo) (x : Capture) : (s.putCapture u x).hmt = s.hmt := rfl
@[simp] theorem State.putCapture_scw (u : CaptureNo) (x : Capture) : (s.putCapture u x).scw = s.scw := rfl
@[simp] theorem State.putCapture_spl (u : CaptureNo) (x : Capture) : (s.putCapture u x).spl = s.spl := rfl
@[simp] theorem State.putCapture_units (u : CaptureNo) (x : Capture) : (s.putCapture u x).units = s.units := rfl
@[simp] theorem State.putCapture_outputs (u : CaptureNo) (x : Capture) : (s.putCapture u x).outputs = s.outputs := rfl
@[simp] theorem State.putCapture_freeNext (u : CaptureNo) (x : Capture) : (s.putCapture u x).freeNext = s.freeNext := rfl

/-! putUnit -/

@[simp] theorem State.putUnit_pending (u : UnitNo) (x : SwUnit) : (s.putUnit u x).pending = s.pending := rfl
@[simp] theorem State.putUnit_stationNo (u : UnitNo) (x : SwUnit) : (s.putUnit u x).stationNo = s.stationNo := rfl
@[simp] theorem State.putUnit_config (u : UnitNo) (x : SwUnit) : (s.putUnit u x).config = s.config := rfl
@[simp] theorem State.putUnit_svp (u : UnitNo) (x : SwUnit) : (s.putUnit u x).svp = s.svp := rfl
@[simp] theorem State.putUnit_attention (u : UnitNo) (x : SwUnit) : (s.putUnit u x).attention = s.attention := rfl
@[simp] theorem State.putUnit_lif (u : UnitNo) (x : SwUnit) : (s.putUnit u x).lif = s.lif := rfl
@[simp] theorem State.putUnit_peers (u : UnitNo) (x : SwUnit) : (s.putUnit u x).peers = s.peers := rfl
@[simp] theorem State.putUnit_own (u : UnitNo) (x : SwUnit) : (s.putUnit u x).own = s.own := rfl
@[simp] theorem State.putUnit_tmu (u : UnitNo) (x : SwUnit) : (s.putUnit u x).tmu = s.tmu := rfl
@[simp] theorem State.putUnit_awaitMclk (u : UnitNo) (x : SwUnit) : (s.putUnit u x).awaitMclk = s.awaitMclk := rfl
@[simp] theorem State.putUnit_pulses (u : UnitNo) (x : SwUnit) : (s.putUnit u x).pulses = s.pulses := rfl
@[simp] theorem State.putUnit_channels (u : UnitNo) (x : SwUnit) : (s.putUnit u x).channels = s.channels := rfl
@[simp] theorem State.putUnit_groups (u : UnitNo) (x : SwUnit) : (s.putUnit u x).groups = s.groups := rfl
@[simp] theorem State.putUnit_captures (u : UnitNo) (x : SwUnit) : (s.putUnit u x).captures = s.captures := rfl
@[simp] theorem State.putUnit_tsv (u : UnitNo) (x : SwUnit) : (s.putUnit u x).tsv = s.tsv := rfl
@[simp] theorem State.putUnit_hmt (u : UnitNo) (x : SwUnit) : (s.putUnit u x).hmt = s.hmt := rfl
@[simp] theorem State.putUnit_scw (u : UnitNo) (x : SwUnit) : (s.putUnit u x).scw = s.scw := rfl
@[simp] theorem State.putUnit_spl (u : UnitNo) (x : SwUnit) : (s.putUnit u x).spl = s.spl := rfl
@[simp] theorem State.putUnit_units (u : UnitNo) (x : SwUnit) : (s.putUnit u x).units = s.units.set u x := rfl
@[simp] theorem State.putUnit_outputs (u : UnitNo) (x : SwUnit) : (s.putUnit u x).outputs = s.outputs := rfl
@[simp] theorem State.putUnit_freeNext (u : UnitNo) (x : SwUnit) : (s.putUnit u x).freeNext = s.freeNext := rfl

/-! putOutput -/

@[simp] theorem State.putOutput_pending (o : OutputNo) (x : Bool) : (s.putOutput o x).pending = s.pending := rfl
@[simp] theorem State.putOutput_stationNo (o : OutputNo) (x : Bool) : (s.putOutput o x).stationNo = s.stationNo := rfl
@[simp] theorem State.putOutput_config (o : OutputNo) (x : Bool) : (s.putOutput o x).config = s.config := rfl
@[simp] theorem State.putOutput_svp (o : OutputNo) (x : Bool) : (s.putOutput o x).svp = s.svp := rfl
@[simp] theorem State.putOutput_attention (o : OutputNo) (x : Bool) : (s.putOutput o x).attention = s.attention := rfl
@[simp] theorem State.putOutput_lif (o : OutputNo) (x : Bool) : (s.putOutput o x).lif = s.lif := rfl
@[simp] theorem State.putOutput_peers (o : OutputNo) (x : Bool) : (s.putOutput o x).peers = s.peers := rfl
@[simp] theorem State.putOutput_own (o : OutputNo) (x : Bool) : (s.putOutput o x).own = s.own := rfl
@[simp] theorem State.putOutput_tmu (o : OutputNo) (x : Bool) : (s.putOutput o x).tmu = s.tmu := rfl
@[simp] theorem State.putOutput_awaitMclk (o : OutputNo) (x : Bool) : (s.putOutput o x).awaitMclk = s.awaitMclk := rfl
@[simp] theorem State.putOutput_pulses (o : OutputNo) (x : Bool) : (s.putOutput o x).pulses = s.pulses := rfl
@[simp] theorem State.putOutput_channels (o : OutputNo) (x : Bool) : (s.putOutput o x).channels = s.channels := rfl
@[simp] theorem State.putOutput_groups (o : OutputNo) (x : Bool) : (s.putOutput o x).groups = s.groups := rfl
@[simp] theorem State.putOutput_captures (o : OutputNo) (x : Bool) : (s.putOutput o x).captures = s.captures := rfl
@[simp] theorem State.putOutput_tsv (o : OutputNo) (x : Bool) : (s.putOutput o x).tsv = s.tsv := rfl
@[simp] theorem State.putOutput_hmt (o : OutputNo) (x : Bool) : (s.putOutput o x).hmt = s.hmt := rfl
@[simp] theorem State.putOutput_scw (o : OutputNo) (x : Bool) : (s.putOutput o x).scw = s.scw := rfl
@[simp] theorem State.putOutput_spl (o : OutputNo) (x : Bool) : (s.putOutput o x).spl = s.spl := rfl
@[simp] theorem State.putOutput_units (o : OutputNo) (x : Bool) : (s.putOutput o x).units = s.units := rfl
@[simp] theorem State.putOutput_outputs (o : OutputNo) (x : Bool) : (s.putOutput o x).outputs = s.outputs.set o x := rfl
@[simp] theorem State.putOutput_freeNext (o : OutputNo) (x : Bool) : (s.putOutput o x).freeNext = s.freeNext := rfl

/-! putSlot -/

@[simp] theorem State.putSlot_pending (k : SlotNo) (x : Slot) : (s.putSlot k x).pending = s.pending := rfl
@[simp] theorem State.putSlot_stationNo (k : SlotNo) (x : Slot) : (s.putSlot k x).stationNo = s.stationNo := rfl
@[simp] theorem State.putSlot_config (k : SlotNo) (x : Slot) : (s.putSlot k x).config = s.config := rfl
@[simp] theorem State.putSlot_svp (k : SlotNo) (x : Slot) : (s.putSlot k x).svp = s.svp := rfl
@[simp] theorem State.putSlot_attention (k : SlotNo) (x : Slot) : (s.putSlot k x).attention = s.attention := rfl
@[simp] theorem State.putSlot_lif (k : SlotNo) (x : Slot) : (s.putSlot k x).lif = s.lif := rfl
@[simp] theorem State.putSlot_peers (k : SlotNo) (x : Slot) : (s.putSlot k x).peers = s.peers := rfl
@[simp] theorem State.putSlot_own (k : SlotNo) (x : Slot) : (s.putSlot k x).own = s.own := rfl
@[simp] theorem State.putSlot_tmu (k : SlotNo) (x : Slot) : (s.putSlot k x).tmu = s.tmu := rfl
@[simp] theorem State.putSlot_awaitMclk (k : SlotNo) (x : Slot) : (s.putSlot k x).awaitMclk = s.awaitMclk := rfl
@[simp] theorem State.putSlot_pulses (k : SlotNo) (x : Slot) : (s.putSlot k x).pulses = s.pulses := rfl
@[simp] theorem State.putSlot_channels (k : SlotNo) (x : Slot) : (s.putSlot k x).channels = s.channels := rfl
@[simp] theorem State.putSlot_groups (k : SlotNo) (x : Slot) : (s.putSlot k x).groups = s.groups := rfl
@[simp] theorem State.putSlot_captures (k : SlotNo) (x : Slot) : (s.putSlot k x).captures = s.captures := rfl
@[simp] theorem State.putSlot_tsv (k : SlotNo) (x : Slot) : (s.putSlot k x).tsv = s.tsv := rfl
@[simp] theorem State.putSlot_hmt (k : SlotNo) (x : Slot) : (s.putSlot k x).hmt = s.hmt := rfl
@[simp] theorem State.putSlot_scw (k : SlotNo) (x : Slot) : (s.putSlot k x).scw = s.scw := rfl
@[simp] theorem State.putSlot_spl (k : SlotNo) (x : Slot) : (s.putSlot k x).spl = { s.spl with slots := s.spl.slots.set k x } := rfl
@[simp] theorem State.putSlot_units (k : SlotNo) (x : Slot) : (s.putSlot k x).units = s.units := rfl
@[simp] theorem State.putSlot_outputs (k : SlotNo) (x : Slot) : (s.putSlot k x).outputs = s.outputs := rfl
@[simp] theorem State.putSlot_freeNext (k : SlotNo) (x : Slot) : (s.putSlot k x).freeNext = s.freeNext := rfl

/-! putClaims -/

@[simp] theorem State.putClaims_pending (x : List Claim) : (s.putClaims x).pending = s.pending := rfl
@[simp] theorem State.putClaims_stationNo (x : List Claim) : (s.putClaims x).stationNo = s.stationNo := rfl
@[simp] theorem State.putClaims_config (x : List Claim) : (s.putClaims x).config = s.config := rfl
@[simp] theorem State.putClaims_svp (x : List Claim) : (s.putClaims x).svp = s.svp := rfl
@[simp] theorem State.putClaims_attention (x : List Claim) : (s.putClaims x).attention = s.attention := rfl
@[simp] theorem State.putClaims_lif (x : List Claim) : (s.putClaims x).lif = s.lif := rfl
@[simp] theorem State.putClaims_peers (x : List Claim) : (s.putClaims x).peers = s.peers := rfl
@[simp] theorem State.putClaims_own (x : List Claim) : (s.putClaims x).own = s.own := rfl
@[simp] theorem State.putClaims_tmu (x : List Claim) : (s.putClaims x).tmu = s.tmu := rfl
@[simp] theorem State.putClaims_awaitMclk (x : List Claim) : (s.putClaims x).awaitMclk = s.awaitMclk := rfl
@[simp] theorem State.putClaims_pulses (x : List Claim) : (s.putClaims x).pulses = s.pulses := rfl
@[simp] theorem State.putClaims_channels (x : List Claim) : (s.putClaims x).channels = s.channels := rfl
@[simp] theorem State.putClaims_groups (x : List Claim) : (s.putClaims x).groups = s.groups := rfl
@[simp] theorem State.putClaims_captures (x : List Claim) : (s.putClaims x).captures = s.captures := rfl
@[simp] theorem State.putClaims_tsv (x : List Claim) : (s.putClaims x).tsv = s.tsv := rfl
@[simp] theorem State.putClaims_hmt (x : List Claim) : (s.putClaims x).hmt = s.hmt := rfl
@[simp] theorem State.putClaims_scw (x : List Claim) : (s.putClaims x).scw = s.scw := rfl
@[simp] theorem State.putClaims_spl (x : List Claim) : (s.putClaims x).spl = { s.spl with claims := x } := rfl
@[simp] theorem State.putClaims_units (x : List Claim) : (s.putClaims x).units = s.units := rfl
@[simp] theorem State.putClaims_outputs (x : List Claim) : (s.putClaims x).outputs = s.outputs := rfl
@[simp] theorem State.putClaims_freeNext (x : List Claim) : (s.putClaims x).freeNext = s.freeNext := rfl

/-! putPending -/

@[simp] theorem State.putPending_pending (x : List Instr) : (s.putPending x).pending = x := rfl
@[simp] theorem State.putPending_stationNo (x : List Instr) : (s.putPending x).stationNo = s.stationNo := rfl
@[simp] theorem State.putPending_config (x : List Instr) : (s.putPending x).config = s.config := rfl
@[simp] theorem State.putPending_svp (x : List Instr) : (s.putPending x).svp = s.svp := rfl
@[simp] theorem State.putPending_attention (x : List Instr) : (s.putPending x).attention = s.attention := rfl
@[simp] theorem State.putPending_lif (x : List Instr) : (s.putPending x).lif = s.lif := rfl
@[simp] theorem State.putPending_peers (x : List Instr) : (s.putPending x).peers = s.peers := rfl
@[simp] theorem State.putPending_own (x : List Instr) : (s.putPending x).own = s.own := rfl
@[simp] theorem State.putPending_tmu (x : List Instr) : (s.putPending x).tmu = s.tmu := rfl
@[simp] theorem State.putPending_awaitMclk (x : List Instr) : (s.putPending x).awaitMclk = s.awaitMclk := rfl
@[simp] theorem State.putPending_pulses (x : List Instr) : (s.putPending x).pulses = s.pulses := rfl
@[simp] theorem State.putPending_channels (x : List Instr) : (s.putPending x).channels = s.channels := rfl
@[simp] theorem State.putPending_groups (x : List Instr) : (s.putPending x).groups = s.groups := rfl
@[simp] theorem State.putPending_captures (x : List Instr) : (s.putPending x).captures = s.captures := rfl
@[simp] theorem State.putPending_tsv (x : List Instr) : (s.putPending x).tsv = s.tsv := rfl
@[simp] theorem State.putPending_hmt (x : List Instr) : (s.putPending x).hmt = s.hmt := rfl
@[simp] theorem State.putPending_scw (x : List Instr) : (s.putPending x).scw = s.scw := rfl
@[simp] theorem State.putPending_spl (x : List Instr) : (s.putPending x).spl = s.spl := rfl
@[simp] theorem State.putPending_units (x : List Instr) : (s.putPending x).units = s.units := rfl
@[simp] theorem State.putPending_outputs (x : List Instr) : (s.putPending x).outputs = s.outputs := rfl
@[simp] theorem State.putPending_freeNext (x : List Instr) : (s.putPending x).freeNext = s.freeNext := rfl

/-! putCounters -/

@[simp] theorem State.putCounters_pending (x : LineCounters) : (s.putCounters x).pending = s.pending := rfl
@[simp] theorem State.putCounters_stationNo (x : LineCounters) : (s.putCounters x).stationNo = s.stationNo := rfl
@[simp] theorem State.putCounters_config (x : LineCounters) : (s.putCounters x).config = s.config := rfl
@[simp] theorem State.putCounters_svp (x : LineCounters) : (s.putCounters x).svp = s.svp := rfl
@[simp] theorem State.putCounters_attention (x : LineCounters) : (s.putCounters x).attention = s.attention := rfl
@[simp] theorem State.putCounters_lif (x : LineCounters) : (s.putCounters x).lif = { s.lif with counters := x } := rfl
@[simp] theorem State.putCounters_peers (x : LineCounters) : (s.putCounters x).peers = s.peers := rfl
@[simp] theorem State.putCounters_own (x : LineCounters) : (s.putCounters x).own = s.own := rfl
@[simp] theorem State.putCounters_tmu (x : LineCounters) : (s.putCounters x).tmu = s.tmu := rfl
@[simp] theorem State.putCounters_awaitMclk (x : LineCounters) : (s.putCounters x).awaitMclk = s.awaitMclk := rfl
@[simp] theorem State.putCounters_pulses (x : LineCounters) : (s.putCounters x).pulses = s.pulses := rfl
@[simp] theorem State.putCounters_channels (x : LineCounters) : (s.putCounters x).channels = s.channels := rfl
@[simp] theorem State.putCounters_groups (x : LineCounters) : (s.putCounters x).groups = s.groups := rfl
@[simp] theorem State.putCounters_captures (x : LineCounters) : (s.putCounters x).captures = s.captures := rfl
@[simp] theorem State.putCounters_tsv (x : LineCounters) : (s.putCounters x).tsv = s.tsv := rfl
@[simp] theorem State.putCounters_hmt (x : LineCounters) : (s.putCounters x).hmt = s.hmt := rfl
@[simp] theorem State.putCounters_scw (x : LineCounters) : (s.putCounters x).scw = s.scw := rfl
@[simp] theorem State.putCounters_spl (x : LineCounters) : (s.putCounters x).spl = s.spl := rfl
@[simp] theorem State.putCounters_units (x : LineCounters) : (s.putCounters x).units = s.units := rfl
@[simp] theorem State.putCounters_outputs (x : LineCounters) : (s.putCounters x).outputs = s.outputs := rfl
@[simp] theorem State.putCounters_freeNext (x : LineCounters) : (s.putCounters x).freeNext = s.freeNext := rfl

/-! putReply -/

@[simp] theorem State.putReply_pending (x : Reply) : (s.putReply x).pending = s.pending := rfl
@[simp] theorem State.putReply_stationNo (x : Reply) : (s.putReply x).stationNo = s.stationNo := rfl
@[simp] theorem State.putReply_config (x : Reply) : (s.putReply x).config = s.config := rfl
@[simp] theorem State.putReply_svp (x : Reply) : (s.putReply x).svp = { s.svp with reply := some x } := rfl
@[simp] theorem State.putReply_attention (x : Reply) : (s.putReply x).attention = s.attention := rfl
@[simp] theorem State.putReply_lif (x : Reply) : (s.putReply x).lif = s.lif := rfl
@[simp] theorem State.putReply_peers (x : Reply) : (s.putReply x).peers = s.peers := rfl
@[simp] theorem State.putReply_own (x : Reply) : (s.putReply x).own = s.own := rfl
@[simp] theorem State.putReply_tmu (x : Reply) : (s.putReply x).tmu = s.tmu := rfl
@[simp] theorem State.putReply_awaitMclk (x : Reply) : (s.putReply x).awaitMclk = s.awaitMclk := rfl
@[simp] theorem State.putReply_pulses (x : Reply) : (s.putReply x).pulses = s.pulses := rfl
@[simp] theorem State.putReply_channels (x : Reply) : (s.putReply x).channels = s.channels := rfl
@[simp] theorem State.putReply_groups (x : Reply) : (s.putReply x).groups = s.groups := rfl
@[simp] theorem State.putReply_captures (x : Reply) : (s.putReply x).captures = s.captures := rfl
@[simp] theorem State.putReply_tsv (x : Reply) : (s.putReply x).tsv = s.tsv := rfl
@[simp] theorem State.putReply_hmt (x : Reply) : (s.putReply x).hmt = s.hmt := rfl
@[simp] theorem State.putReply_scw (x : Reply) : (s.putReply x).scw = s.scw := rfl
@[simp] theorem State.putReply_spl (x : Reply) : (s.putReply x).spl = s.spl := rfl
@[simp] theorem State.putReply_units (x : Reply) : (s.putReply x).units = s.units := rfl
@[simp] theorem State.putReply_outputs (x : Reply) : (s.putReply x).outputs = s.outputs := rfl
@[simp] theorem State.putReply_freeNext (x : Reply) : (s.putReply x).freeNext = s.freeNext := rfl

/-! Reading one item of a collection after one item has been written. -/

/-- One item after putPeer. -/
theorem State.putPeer_get (n m : StationNo) (x : PeerRow) :
    (s.putPeer n x).peers[m] = if m = n then x else s.peers[m] := by
  simp only [State.putPeer_peers, Fin.getElem_fin, Vector.getElem_set, Fin.ext_iff, eq_comm]

/-- One item after putChannel. -/
theorem State.putChannel_get (n m : ChannelNo) (x : Channel) :
    (s.putChannel n x).channels[m] = if m = n then x else s.channels[m] := by
  simp only [State.putChannel_channels, Fin.getElem_fin, Vector.getElem_set, Fin.ext_iff, eq_comm]

/-- One item after putGroup. -/
theorem State.putGroup_get (n m : GroupNo) (x : Group) :
    (s.putGroup n x).groups[m] = if m = n then x else s.groups[m] := by
  simp only [State.putGroup_groups, Fin.getElem_fin, Vector.getElem_set, Fin.ext_iff, eq_comm]

/-- One item after putCapture. -/
theorem State.putCapture_get (n m : CaptureNo) (x : Capture) :
    (s.putCapture n x).captures[m] = if m = n then x else s.captures[m] := by
  simp only [State.putCapture_captures, Fin.getElem_fin, Vector.getElem_set, Fin.ext_iff, eq_comm]

/-- One item after putUnit. -/
theorem State.putUnit_get (n m : UnitNo) (x : SwUnit) :
    (s.putUnit n x).units[m] = if m = n then x else s.units[m] := by
  simp only [State.putUnit_units, Fin.getElem_fin, Vector.getElem_set, Fin.ext_iff, eq_comm]

/-- One item after putOutput. -/
theorem State.putOutput_get (n m : OutputNo) (x : Bool) :
    (s.putOutput n x).outputs[m] = if m = n then x else s.outputs[m] := by
  simp only [State.putOutput_outputs, Fin.getElem_fin, Vector.getElem_set, Fin.ext_iff, eq_comm]

/-- One own slot after putSlot. -/
theorem State.putSlot_get (n m : SlotNo) (x : Slot) :
    (s.putSlot n x).spl.slots[m] = if m = n then x else s.spl.slots[m] := by
  simp only [State.putSlot_spl, Fin.getElem_fin, Vector.getElem_set, Fin.ext_iff, eq_comm]

/-! The line stamps of the pulse inputs (R73). -/

/-- The line stamp of one input after a source has received its edge. -/
theorem PulseInputs.received_get (p : PulseInputs) (now : LineTime) (source : PulseSource) (i : Fin 8) :
    (p.received now source).lineStamps[i] = if i = source.input then some (p.lineStampOf i now) else p.lineStamps[i] := by
  simp only [PulseInputs.received, Fin.getElem_fin, Vector.getElem_set, Fin.ext_iff, eq_comm]
  split <;> simp_all [PulseInputs.lineStampOf]

/-- An edge that a unit has received keeps its line stamp when another source receives it, or another edge. -/
theorem PulseInputs.received_keeps {p : PulseInputs} {i : Fin 8} {x : LineTime} (now : LineTime) (source : PulseSource)
    (h : p.lineStamps[i] = some x) : (p.received now source).lineStamps[i] = some x := by
  rw [PulseInputs.received_get]
  split <;> simp_all [PulseInputs.lineStampOf]

/-! The read-back of a notice in flight (R24, R25). -/

/-- All that a character taken from the line can do to a notice in flight: nothing once it has ended; one more character
read back good; or a collision. -/
theorem InFlight.readsBack_cases (f : InFlight) (frame : List Byte) (character : Option Byte) :
    ((f.collided = true ∨ frame.length ≤ f.readBack) ∧ f.readsBack frame character = f)
    ∨ (f.collided = false ∧ f.readBack < frame.length ∧ character = frame[f.readBack]?
        ∧ f.readsBack frame character = { f with readBack := f.readBack + 1 })
    ∨ (f.collided = false ∧ f.readBack < frame.length ∧ character ≠ frame[f.readBack]?
        ∧ f.readsBack frame character = { f with collided := true }) := by
  unfold InFlight.readsBack
  split
  · simp_all
  · split <;> simp_all

@[simp] theorem InFlight.readsBack_notice (f : InFlight) (frame : List Byte) (c : Option Byte) :
    (f.readsBack frame c).notice = f.notice := by
  unfold InFlight.readsBack; split <;> (try split) <;> rfl
@[simp] theorem InFlight.readsBack_collisions (f : InFlight) (frame : List Byte) (c : Option Byte) :
    (f.readsBack frame c).collisions = f.collisions := by
  unfold InFlight.readsBack; split <;> (try split) <;> rfl
@[simp] theorem InFlight.readsBack_payload (f : InFlight) (frame : List Byte) (c : Option Byte) :
    (f.readsBack frame c).payload = f.payload := by
  unfold InFlight.readsBack; split <;> (try split) <;> rfl

/-! The measures of the two lines as the local count takes a new value (R4, R196, R200). -/

@[simp] theorem Lif.aged_rx (l : Lif) (count : Count) : (l.aged count).rx = l.rx := rfl
@[simp] theorem Lif.aged_buffer (l : Lif) (count : Count) : (l.aged count).buffer = l.buffer := rfl
@[simp] theorem Lif.aged_syncTime (l : Lif) (count : Count) : (l.aged count).syncTime = l.syncTime := rfl
@[simp] theorem Lif.aged_queue (l : Lif) (count : Count) : (l.aged count).queue = l.queue := rfl
@[simp] theorem Lif.aged_inFlight (l : Lif) (count : Count) : (l.aged count).inFlight = l.inFlight := rfl
@[simp] theorem Lif.aged_counters (l : Lif) (count : Count) : (l.aged count).counters = l.counters := rfl
@[simp] theorem Svp.aged_station (p : Svp) (count : Count) : (p.aged count).station = p.station := rfl
@[simp] theorem Svp.aged_resetCause (p : Svp) (count : Count) : (p.aged count).resetCause = p.resetCause := rfl
@[simp] theorem Svp.aged_bootResult (p : Svp) (count : Count) : (p.aged count).bootResult = p.bootResult := rfl
@[simp] theorem Svp.aged_receiver (p : Svp) (count : Count) : (p.aged count).receiver = p.receiver := rfl
@[simp] theorem Svp.aged_buffer (p : Svp) (count : Count) : (p.aged count).buffer = p.buffer := rfl
@[simp] theorem Svp.aged_reply (p : Svp) (count : Count) : (p.aged count).reply = p.reply := rfl
@[simp] theorem Svp.aged_errors (p : Svp) (count : Count) : (p.aged count).errors = p.errors := rfl
@[simp] theorem Svp.aged_breakArmed (p : Svp) (count : Count) : (p.aged count).breakArmed = p.breakArmed := rfl
@[simp] theorem Svp.aged_watchList (p : Svp) (count : Count) : (p.aged count).watchList = p.watchList := rfl
@[simp] theorem Lif.aged_idle (l : Lif) (count : Count) : (l.aged count).idle = l.idle.aged count := rfl
@[simp] theorem Lif.aged_quiet (l : Lif) (count : Count) : (l.aged count).quiet = l.quiet.map (heldBack count) := rfl
@[simp] theorem Svp.aged_idle (p : Svp) (count : Count) : (p.aged count).idle = p.idle.aged count := rfl
@[simp] theorem Svp.aged_breakFrom (p : Svp) (count : Count) : (p.aged count).breakFrom = heldBack count p.breakFrom := rfl

end Sys2Proof.Machine
end

