-- ==== Sys2Proof/Laws/FramesPlanner.lean ====
section
/-! SUPPORT. What the operations of the attention set, the transmit queue and the start planner leave unchanged: one lemma for each operation, which simp reads as one rule for each field. -/

namespace Sys2Proof.Machine

/-- A fold keeps what each of its turns keeps. -/
theorem foldl_keeps {α β γ : Type} (f : γ → α → γ) (view : γ → β) (keeps : ∀ s a, view (f s a) = view s)
    (xs : List α) (s : γ) : view (xs.foldl f s) = view s := by
  induction xs generalizing s with
  | nil => rfl
  | cons x xs ih => rw [List.foldl_cons, ih, keeps]

/-- A fold keeps a property that each of its turns keeps. -/
theorem foldl_holds {α γ : Type} (f : γ → α → γ) (P : γ → Prop) (keeps : ∀ s a, P s → P (f s a))
    (xs : List α) (s : γ) (h : P s) : P (xs.foldl f s) := by
  induction xs generalizing s with
  | nil => exact h
  | cons x xs ih => exact ih _ (keeps s x h)

variable (s : State)

@[simp] theorem State.raise_frame (c : Cause) :
    (s.raise c).pending = s.pending ∧ (s.raise c).stationNo = s.stationNo ∧ (s.raise c).config = s.config ∧
    (s.raise c).svp = s.svp ∧ (s.raise c).lif = s.lif ∧ (s.raise c).peers = s.peers ∧ (s.raise c).own = s.own ∧
    (s.raise c).tmu = s.tmu ∧ (s.raise c).awaitMclk = s.awaitMclk ∧ (s.raise c).pulses = s.pulses ∧
    (s.raise c).channels = s.channels ∧ (s.raise c).groups = s.groups ∧ (s.raise c).captures = s.captures ∧
    (s.raise c).tsv = s.tsv ∧ (s.raise c).hmt = s.hmt ∧ (s.raise c).scw = s.scw ∧ (s.raise c).spl = s.spl ∧
    (s.raise c).units = s.units ∧ (s.raise c).outputs = s.outputs ∧ (s.raise c).freeNext = s.freeNext :=
  ⟨rfl, rfl, rfl, rfl, rfl, rfl, rfl, rfl, rfl, rfl, rfl, rfl, rfl, rfl, rfl, rfl, rfl, rfl, rfl, rfl⟩

@[simp] theorem State.raiseClaimFailed_frame (k : SlotNo) (w : ClaimFailure) :
    (s.raiseClaimFailed k w).pending = s.pending ∧ (s.raiseClaimFailed k w).stationNo = s.stationNo ∧
    (s.raiseClaimFailed k w).config = s.config ∧ (s.raiseClaimFailed k w).svp = s.svp ∧
    (s.raiseClaimFailed k w).lif = s.lif ∧ (s.raiseClaimFailed k w).peers = s.peers ∧
    (s.raiseClaimFailed k w).own = s.own ∧ (s.raiseClaimFailed k w).tmu = s.tmu ∧
    (s.raiseClaimFailed k w).awaitMclk = s.awaitMclk ∧ (s.raiseClaimFailed k w).pulses = s.pulses ∧
    (s.raiseClaimFailed k w).channels = s.channels ∧ (s.raiseClaimFailed k w).groups = s.groups ∧
    (s.raiseClaimFailed k w).captures = s.captures ∧ (s.raiseClaimFailed k w).tsv = s.tsv ∧
    (s.raiseClaimFailed k w).hmt = s.hmt ∧ (s.raiseClaimFailed k w).scw = s.scw ∧
    (s.raiseClaimFailed k w).spl = s.spl ∧ (s.raiseClaimFailed k w).units = s.units ∧
    (s.raiseClaimFailed k w).outputs = s.outputs ∧ (s.raiseClaimFailed k w).freeNext = s.freeNext :=
  ⟨rfl, rfl, rfl, rfl, rfl, rfl, rfl, rfl, rfl, rfl, rfl, rfl, rfl, rfl, rfl, rfl, rfl, rfl, rfl, rfl⟩

@[simp] theorem State.queueNotice_frame (n : Notice) :
    (s.queueNotice n).pending = s.pending ∧ (s.queueNotice n).stationNo = s.stationNo ∧
    (s.queueNotice n).config = s.config ∧ (s.queueNotice n).svp = s.svp ∧ (s.queueNotice n).attention = s.attention ∧
    (s.queueNotice n).peers = s.peers ∧ (s.queueNotice n).own = s.own ∧ (s.queueNotice n).tmu = s.tmu ∧
    (s.queueNotice n).awaitMclk = s.awaitMclk ∧ (s.queueNotice n).pulses = s.pulses ∧
    (s.queueNotice n).channels = s.channels ∧ (s.queueNotice n).groups = s.groups ∧
    (s.queueNotice n).captures = s.captures ∧ (s.queueNotice n).tsv = s.tsv ∧ (s.queueNotice n).hmt = s.hmt ∧
    (s.queueNotice n).scw = s.scw ∧ (s.queueNotice n).spl = s.spl ∧ (s.queueNotice n).units = s.units ∧
    (s.queueNotice n).outputs = s.outputs ∧ (s.queueNotice n).freeNext = s.freeNext :=
  ⟨rfl, rfl, rfl, rfl, rfl, rfl, rfl, rfl, rfl, rfl, rfl, rfl, rfl, rfl, rfl, rfl, rfl, rfl, rfl, rfl⟩

@[simp] theorem State.queueRelease_frame (k : SlotNo) (u : UnitNo) (r : ReleaseReason) :
    (s.queueRelease k u r).pending = s.pending ∧ (s.queueRelease k u r).stationNo = s.stationNo ∧
    (s.queueRelease k u r).config = s.config ∧ (s.queueRelease k u r).svp = s.svp ∧
    (s.queueRelease k u r).attention = s.attention ∧ (s.queueRelease k u r).peers = s.peers ∧
    (s.queueRelease k u r).own = s.own ∧ (s.queueRelease k u r).tmu = s.tmu ∧
    (s.queueRelease k u r).awaitMclk = s.awaitMclk ∧ (s.queueRelease k u r).pulses = s.pulses ∧
    (s.queueRelease k u r).channels = s.channels ∧ (s.queueRelease k u r).groups = s.groups ∧
    (s.queueRelease k u r).captures = s.captures ∧ (s.queueRelease k u r).tsv = s.tsv ∧
    (s.queueRelease k u r).hmt = s.hmt ∧ (s.queueRelease k u r).scw = s.scw ∧ (s.queueRelease k u r).spl = s.spl ∧
    (s.queueRelease k u r).units = s.units ∧ (s.queueRelease k u r).outputs = s.outputs :=
  ⟨rfl, rfl, rfl, rfl, rfl, rfl, rfl, rfl, rfl, rfl, rfl, rfl, rfl, rfl, rfl, rfl, rfl, rfl, rfl⟩

@[simp] theorem State.removeOwn_frame (k : SlotNo) :
    (s.removeOwn k).pending = s.pending ∧ (s.removeOwn k).stationNo = s.stationNo ∧
    (s.removeOwn k).config = s.config ∧ (s.removeOwn k).svp = s.svp ∧ (s.removeOwn k).attention = s.attention ∧
    (s.removeOwn k).lif = s.lif ∧ (s.removeOwn k).peers = s.peers ∧ (s.removeOwn k).own = s.own ∧
    (s.removeOwn k).tmu = s.tmu ∧ (s.removeOwn k).awaitMclk = s.awaitMclk ∧ (s.removeOwn k).pulses = s.pulses ∧
    (s.removeOwn k).channels = s.channels ∧ (s.removeOwn k).groups = s.groups ∧
    (s.removeOwn k).captures = s.captures ∧ (s.removeOwn k).tsv = s.tsv ∧ (s.removeOwn k).hmt = s.hmt ∧
    (s.removeOwn k).scw = s.scw ∧ (s.removeOwn k).units = s.units ∧ (s.removeOwn k).outputs = s.outputs ∧
    (s.removeOwn k).freeNext = s.freeNext :=
  ⟨rfl, rfl, rfl, rfl, rfl, rfl, rfl, rfl, rfl, rfl, rfl, rfl, rfl, rfl, rfl, rfl, rfl, rfl, rfl, rfl⟩

@[simp] theorem State.freeSlot_frame (k : SlotNo) :
    (s.freeSlot k).pending = s.pending ∧ (s.freeSlot k).stationNo = s.stationNo ∧ (s.freeSlot k).config = s.config ∧
    (s.freeSlot k).svp = s.svp ∧ (s.freeSlot k).attention = s.attention ∧ (s.freeSlot k).lif = s.lif ∧
    (s.freeSlot k).peers = s.peers ∧ (s.freeSlot k).own = s.own ∧ (s.freeSlot k).tmu = s.tmu ∧
    (s.freeSlot k).awaitMclk = s.awaitMclk ∧ (s.freeSlot k).pulses = s.pulses ∧ (s.freeSlot k).channels = s.channels ∧
    (s.freeSlot k).groups = s.groups ∧ (s.freeSlot k).captures = s.captures ∧ (s.freeSlot k).tsv = s.tsv ∧
    (s.freeSlot k).hmt = s.hmt ∧ (s.freeSlot k).scw = s.scw ∧ (s.freeSlot k).units = s.units ∧
    (s.freeSlot k).outputs = s.outputs ∧ (s.freeSlot k).freeNext = s.freeNext :=
  ⟨rfl, rfl, rfl, rfl, rfl, rfl, rfl, rfl, rfl, rfl, rfl, rfl, rfl, rfl, rfl, rfl, rfl, rfl, rfl, rfl⟩

@[simp] theorem State.slotTo_frame (k : SlotNo) (x : SlotState) :
    (s.slotTo k x).pending = s.pending ∧ (s.slotTo k x).stationNo = s.stationNo ∧ (s.slotTo k x).config = s.config ∧
    (s.slotTo k x).svp = s.svp ∧ (s.slotTo k x).attention = s.attention ∧ (s.slotTo k x).lif = s.lif ∧
    (s.slotTo k x).peers = s.peers ∧ (s.slotTo k x).own = s.own ∧ (s.slotTo k x).tmu = s.tmu ∧
    (s.slotTo k x).awaitMclk = s.awaitMclk ∧ (s.slotTo k x).pulses = s.pulses ∧ (s.slotTo k x).channels = s.channels ∧
    (s.slotTo k x).groups = s.groups ∧ (s.slotTo k x).captures = s.captures ∧ (s.slotTo k x).tsv = s.tsv ∧
    (s.slotTo k x).hmt = s.hmt ∧ (s.slotTo k x).scw = s.scw ∧ (s.slotTo k x).units = s.units ∧
    (s.slotTo k x).outputs = s.outputs ∧ (s.slotTo k x).freeNext = s.freeNext :=
  ⟨rfl, rfl, rfl, rfl, rfl, rfl, rfl, rfl, rfl, rfl, rfl, rfl, rfl, rfl, rfl, rfl, rfl, rfl, rfl, rfl⟩

@[simp] theorem State.announce_frame (k : SlotNo) (u : UnitNo) (t : LineTime) (l : Nat) :
    (s.announce k u t l).pending = s.pending ∧ (s.announce k u t l).stationNo = s.stationNo ∧
    (s.announce k u t l).config = s.config ∧ (s.announce k u t l).svp = s.svp ∧
    (s.announce k u t l).attention = s.attention ∧ (s.announce k u t l).peers = s.peers ∧
    (s.announce k u t l).own = s.own ∧ (s.announce k u t l).tmu = s.tmu ∧
    (s.announce k u t l).awaitMclk = s.awaitMclk ∧ (s.announce k u t l).pulses = s.pulses ∧
    (s.announce k u t l).channels = s.channels ∧ (s.announce k u t l).groups = s.groups ∧
    (s.announce k u t l).captures = s.captures ∧ (s.announce k u t l).tsv = s.tsv ∧ (s.announce k u t l).hmt = s.hmt ∧
    (s.announce k u t l).scw = s.scw ∧ (s.announce k u t l).units = s.units ∧
    (s.announce k u t l).outputs = s.outputs ∧ (s.announce k u t l).freeNext = s.freeNext :=
  ⟨rfl, rfl, rfl, rfl, rfl, rfl, rfl, rfl, rfl, rfl, rfl, rfl, rfl, rfl, rfl, rfl, rfl, rfl, rfl⟩

@[simp] theorem State.planSlot_frame (k : SlotNo) :
    (s.planSlot k).pending = s.pending ∧ (s.planSlot k).stationNo = s.stationNo ∧ (s.planSlot k).config = s.config ∧
    (s.planSlot k).svp = s.svp ∧ (s.planSlot k).attention = s.attention ∧ (s.planSlot k).peers = s.peers ∧
    (s.planSlot k).own = s.own ∧ (s.planSlot k).tmu = s.tmu ∧ (s.planSlot k).awaitMclk = s.awaitMclk ∧
    (s.planSlot k).pulses = s.pulses ∧ (s.planSlot k).channels = s.channels ∧ (s.planSlot k).groups = s.groups ∧
    (s.planSlot k).captures = s.captures ∧ (s.planSlot k).tsv = s.tsv ∧ (s.planSlot k).hmt = s.hmt ∧
    (s.planSlot k).scw = s.scw ∧ (s.planSlot k).units = s.units ∧ (s.planSlot k).outputs = s.outputs ∧
    (s.planSlot k).freeNext = s.freeNext := by
  generalize h : (s.planSlot k) = t
  dsimp only [State.planSlot] at h
  (repeat' split at h) <;> subst h <;> simp

@[simp] theorem State.replan_frame :
    (s.replan).pending = s.pending ∧ (s.replan).stationNo = s.stationNo ∧ (s.replan).config = s.config ∧
    (s.replan).svp = s.svp ∧ (s.replan).attention = s.attention ∧ (s.replan).peers = s.peers ∧
    (s.replan).own = s.own ∧ (s.replan).tmu = s.tmu ∧ (s.replan).awaitMclk = s.awaitMclk ∧
    (s.replan).pulses = s.pulses ∧ (s.replan).channels = s.channels ∧ (s.replan).groups = s.groups ∧
    (s.replan).captures = s.captures ∧ (s.replan).tsv = s.tsv ∧ (s.replan).hmt = s.hmt ∧ (s.replan).scw = s.scw ∧
    (s.replan).units = s.units ∧ (s.replan).outputs = s.outputs ∧ (s.replan).freeNext = s.freeNext := by
  generalize h : (s.replan) = t
  dsimp only [State.replan] at h
  subst h
  simp

@[simp] theorem State.replanIf_frame (b : Bool) :
    (s.replanIf b).pending = s.pending ∧ (s.replanIf b).stationNo = s.stationNo ∧ (s.replanIf b).config = s.config ∧
    (s.replanIf b).svp = s.svp ∧ (s.replanIf b).attention = s.attention ∧ (s.replanIf b).peers = s.peers ∧
    (s.replanIf b).own = s.own ∧ (s.replanIf b).tmu = s.tmu ∧ (s.replanIf b).awaitMclk = s.awaitMclk ∧
    (s.replanIf b).pulses = s.pulses ∧ (s.replanIf b).channels = s.channels ∧ (s.replanIf b).groups = s.groups ∧
    (s.replanIf b).captures = s.captures ∧ (s.replanIf b).tsv = s.tsv ∧ (s.replanIf b).hmt = s.hmt ∧
    (s.replanIf b).scw = s.scw ∧ (s.replanIf b).units = s.units ∧ (s.replanIf b).outputs = s.outputs ∧
    (s.replanIf b).freeNext = s.freeNext := by
  generalize h : (s.replanIf b) = t
  dsimp only [State.replanIf] at h
  (repeat' split at h) <;> subst h <;> simp

@[simp] theorem State.withdrawOnly_frame (k : SlotNo) :
    (s.withdrawOnly k).pending = s.pending ∧ (s.withdrawOnly k).stationNo = s.stationNo ∧
    (s.withdrawOnly k).config = s.config ∧ (s.withdrawOnly k).svp = s.svp ∧ (s.withdrawOnly k).peers = s.peers ∧
    (s.withdrawOnly k).own = s.own ∧ (s.withdrawOnly k).tmu = s.tmu ∧ (s.withdrawOnly k).awaitMclk = s.awaitMclk ∧
    (s.withdrawOnly k).pulses = s.pulses ∧ (s.withdrawOnly k).channels = s.channels ∧
    (s.withdrawOnly k).groups = s.groups ∧ (s.withdrawOnly k).captures = s.captures ∧ (s.withdrawOnly k).tsv = s.tsv ∧
    (s.withdrawOnly k).hmt = s.hmt ∧ (s.withdrawOnly k).scw = s.scw ∧ (s.withdrawOnly k).units = s.units ∧
    (s.withdrawOnly k).outputs = s.outputs := by
  generalize h : (s.withdrawOnly k) = t
  dsimp only [State.withdrawOnly] at h
  (repeat' split at h) <;> subst h <;> simp

@[simp] theorem State.withdraw_frame (k : SlotNo) :
    (s.withdraw k).pending = s.pending ∧ (s.withdraw k).stationNo = s.stationNo ∧ (s.withdraw k).config = s.config ∧
    (s.withdraw k).svp = s.svp ∧ (s.withdraw k).peers = s.peers ∧ (s.withdraw k).own = s.own ∧
    (s.withdraw k).tmu = s.tmu ∧ (s.withdraw k).awaitMclk = s.awaitMclk ∧ (s.withdraw k).pulses = s.pulses ∧
    (s.withdraw k).channels = s.channels ∧ (s.withdraw k).groups = s.groups ∧ (s.withdraw k).captures = s.captures ∧
    (s.withdraw k).tsv = s.tsv ∧ (s.withdraw k).hmt = s.hmt ∧ (s.withdraw k).scw = s.scw ∧
    (s.withdraw k).units = s.units ∧ (s.withdraw k).outputs = s.outputs := by
  generalize h : (s.withdraw k) = t
  dsimp only [State.withdraw] at h
  subst h
  simp

@[simp] theorem State.holdBack_frame (k : SlotNo) (r : WaitReason) :
    (s.holdBack k r).pending = s.pending ∧ (s.holdBack k r).stationNo = s.stationNo ∧
    (s.holdBack k r).config = s.config ∧ (s.holdBack k r).svp = s.svp ∧ (s.holdBack k r).attention = s.attention ∧
    (s.holdBack k r).peers = s.peers ∧ (s.holdBack k r).own = s.own ∧ (s.holdBack k r).tmu = s.tmu ∧
    (s.holdBack k r).awaitMclk = s.awaitMclk ∧ (s.holdBack k r).pulses = s.pulses ∧
    (s.holdBack k r).channels = s.channels ∧ (s.holdBack k r).groups = s.groups ∧
    (s.holdBack k r).captures = s.captures ∧ (s.holdBack k r).tsv = s.tsv ∧ (s.holdBack k r).hmt = s.hmt ∧
    (s.holdBack k r).scw = s.scw ∧ (s.holdBack k r).units = s.units ∧ (s.holdBack k r).outputs = s.outputs :=
  ⟨rfl, rfl, rfl, rfl, rfl, rfl, rfl, rfl, rfl, rfl, rfl, rfl, rfl, rfl, rfl, rfl, rfl, rfl⟩

@[simp] theorem State.endSlot_frame (k : SlotNo) (r : ReleaseReason) :
    (s.endSlot k r).pending = s.pending ∧ (s.endSlot k r).stationNo = s.stationNo ∧
    (s.endSlot k r).config = s.config ∧ (s.endSlot k r).svp = s.svp ∧ (s.endSlot k r).attention = s.attention ∧
    (s.endSlot k r).peers = s.peers ∧ (s.endSlot k r).own = s.own ∧ (s.endSlot k r).tmu = s.tmu ∧
    (s.endSlot k r).awaitMclk = s.awaitMclk ∧ (s.endSlot k r).pulses = s.pulses ∧
    (s.endSlot k r).channels = s.channels ∧ (s.endSlot k r).groups = s.groups ∧
    (s.endSlot k r).captures = s.captures ∧ (s.endSlot k r).tsv = s.tsv ∧ (s.endSlot k r).hmt = s.hmt ∧
    (s.endSlot k r).scw = s.scw ∧ (s.endSlot k r).units = s.units ∧ (s.endSlot k r).outputs = s.outputs :=
  ⟨rfl, rfl, rfl, rfl, rfl, rfl, rfl, rfl, rfl, rfl, rfl, rfl, rfl, rfl, rfl, rfl, rfl, rfl⟩

@[simp] theorem State.releaseSlot_frame (k : SlotNo) (r : ReleaseReason) :
    (s.releaseSlot k r).pending = s.pending ∧ (s.releaseSlot k r).stationNo = s.stationNo ∧
    (s.releaseSlot k r).config = s.config ∧ (s.releaseSlot k r).svp = s.svp ∧
    (s.releaseSlot k r).attention = s.attention ∧ (s.releaseSlot k r).peers = s.peers ∧
    (s.releaseSlot k r).own = s.own ∧ (s.releaseSlot k r).tmu = s.tmu ∧ (s.releaseSlot k r).awaitMclk = s.awaitMclk ∧
    (s.releaseSlot k r).pulses = s.pulses ∧ (s.releaseSlot k r).channels = s.channels ∧
    (s.releaseSlot k r).groups = s.groups ∧ (s.releaseSlot k r).captures = s.captures ∧
    (s.releaseSlot k r).tsv = s.tsv ∧ (s.releaseSlot k r).hmt = s.hmt ∧ (s.releaseSlot k r).scw = s.scw ∧
    (s.releaseSlot k r).units = s.units ∧ (s.releaseSlot k r).outputs = s.outputs := by
  generalize h : (s.releaseSlot k r) = t
  dsimp only [State.releaseSlot] at h
  subst h
  simp

@[simp] theorem State.abandon_frame (k : SlotNo) :
    (s.abandon k).pending = s.pending ∧ (s.abandon k).stationNo = s.stationNo ∧ (s.abandon k).config = s.config ∧
    (s.abandon k).svp = s.svp ∧ (s.abandon k).attention = s.attention ∧ (s.abandon k).peers = s.peers ∧
    (s.abandon k).own = s.own ∧ (s.abandon k).tmu = s.tmu ∧ (s.abandon k).awaitMclk = s.awaitMclk ∧
    (s.abandon k).pulses = s.pulses ∧ (s.abandon k).channels = s.channels ∧ (s.abandon k).groups = s.groups ∧
    (s.abandon k).captures = s.captures ∧ (s.abandon k).tsv = s.tsv ∧ (s.abandon k).hmt = s.hmt ∧
    (s.abandon k).scw = s.scw ∧ (s.abandon k).units = s.units ∧ (s.abandon k).outputs = s.outputs := by
  generalize h : (s.abandon k) = t
  dsimp only [State.abandon] at h
  (repeat' split at h) <;> subst h <;> simp

@[simp] theorem State.expireOnly_frame :
    (s.expireOnly).1.pending = s.pending ∧ (s.expireOnly).1.stationNo = s.stationNo ∧
    (s.expireOnly).1.config = s.config ∧ (s.expireOnly).1.svp = s.svp ∧ (s.expireOnly).1.attention = s.attention ∧
    (s.expireOnly).1.lif = s.lif ∧ (s.expireOnly).1.peers = s.peers ∧ (s.expireOnly).1.own = s.own ∧
    (s.expireOnly).1.tmu = s.tmu ∧ (s.expireOnly).1.awaitMclk = s.awaitMclk ∧ (s.expireOnly).1.pulses = s.pulses ∧
    (s.expireOnly).1.channels = s.channels ∧ (s.expireOnly).1.groups = s.groups ∧
    (s.expireOnly).1.captures = s.captures ∧ (s.expireOnly).1.tsv = s.tsv ∧ (s.expireOnly).1.hmt = s.hmt ∧
    (s.expireOnly).1.scw = s.scw ∧ (s.expireOnly).1.units = s.units ∧ (s.expireOnly).1.outputs = s.outputs ∧
    (s.expireOnly).1.freeNext = s.freeNext := by
  simp only [State.expireOnly, State.putClaims, State.putSpl]
  and_intros
  all_goals
    apply foldl_keeps
    intro s k
    split <;> rfl

@[simp] theorem State.expire_frame :
    (s.expire).pending = s.pending ∧ (s.expire).stationNo = s.stationNo ∧ (s.expire).config = s.config ∧
    (s.expire).svp = s.svp ∧ (s.expire).attention = s.attention ∧ (s.expire).peers = s.peers ∧
    (s.expire).own = s.own ∧ (s.expire).tmu = s.tmu ∧ (s.expire).awaitMclk = s.awaitMclk ∧
    (s.expire).pulses = s.pulses ∧ (s.expire).channels = s.channels ∧ (s.expire).groups = s.groups ∧
    (s.expire).captures = s.captures ∧ (s.expire).tsv = s.tsv ∧ (s.expire).hmt = s.hmt ∧ (s.expire).scw = s.scw ∧
    (s.expire).units = s.units ∧ (s.expire).outputs = s.outputs ∧ (s.expire).freeNext = s.freeNext := by
  generalize h : (s.expire) = t
  dsimp only [State.expire] at h
  subst h
  simp

@[simp] theorem State.claimSentWhole_frame (k : SlotNo) (t : LineTime) (l : Nat) :
    (s.claimSentWhole k t l).pending = s.pending ∧ (s.claimSentWhole k t l).stationNo = s.stationNo ∧
    (s.claimSentWhole k t l).config = s.config ∧ (s.claimSentWhole k t l).svp = s.svp ∧
    (s.claimSentWhole k t l).attention = s.attention ∧ (s.claimSentWhole k t l).lif = s.lif ∧
    (s.claimSentWhole k t l).peers = s.peers ∧ (s.claimSentWhole k t l).own = s.own ∧
    (s.claimSentWhole k t l).tmu = s.tmu ∧ (s.claimSentWhole k t l).awaitMclk = s.awaitMclk ∧
    (s.claimSentWhole k t l).pulses = s.pulses ∧ (s.claimSentWhole k t l).channels = s.channels ∧
    (s.claimSentWhole k t l).groups = s.groups ∧ (s.claimSentWhole k t l).captures = s.captures ∧
    (s.claimSentWhole k t l).tsv = s.tsv ∧ (s.claimSentWhole k t l).hmt = s.hmt ∧
    (s.claimSentWhole k t l).scw = s.scw ∧ (s.claimSentWhole k t l).units = s.units ∧
    (s.claimSentWhole k t l).outputs = s.outputs ∧ (s.claimSentWhole k t l).freeNext = s.freeNext := by
  generalize h : (s.claimSentWhole k t l) = t
  dsimp only [State.claimSentWhole] at h
  (repeat' split at h) <;> subst h <;> simp

@[simp] theorem State.claimDiscarded_frame (k : SlotNo) (t : LineTime) (l : Nat) :
    (s.claimDiscarded k t l).pending = s.pending ∧ (s.claimDiscarded k t l).stationNo = s.stationNo ∧
    (s.claimDiscarded k t l).config = s.config ∧ (s.claimDiscarded k t l).svp = s.svp ∧
    (s.claimDiscarded k t l).peers = s.peers ∧ (s.claimDiscarded k t l).own = s.own ∧
    (s.claimDiscarded k t l).tmu = s.tmu ∧ (s.claimDiscarded k t l).awaitMclk = s.awaitMclk ∧
    (s.claimDiscarded k t l).pulses = s.pulses ∧ (s.claimDiscarded k t l).channels = s.channels ∧
    (s.claimDiscarded k t l).groups = s.groups ∧ (s.claimDiscarded k t l).captures = s.captures ∧
    (s.claimDiscarded k t l).tsv = s.tsv ∧ (s.claimDiscarded k t l).hmt = s.hmt ∧
    (s.claimDiscarded k t l).scw = s.scw ∧ (s.claimDiscarded k t l).units = s.units ∧
    (s.claimDiscarded k t l).outputs = s.outputs ∧ (s.claimDiscarded k t l).freeNext = s.freeNext := by
  generalize h : (s.claimDiscarded k t l) = t
  dsimp only [State.claimDiscarded] at h
  (repeat' split at h) <;> subst h <;> simp

@[simp] theorem State.judge_frame (c : Claim) (k : SlotNo) :
    (s.judge c k).1.pending = s.pending ∧ (s.judge c k).1.stationNo = s.stationNo ∧
    (s.judge c k).1.config = s.config ∧ (s.judge c k).1.svp = s.svp ∧ (s.judge c k).1.peers = s.peers ∧
    (s.judge c k).1.own = s.own ∧ (s.judge c k).1.tmu = s.tmu ∧ (s.judge c k).1.awaitMclk = s.awaitMclk ∧
    (s.judge c k).1.pulses = s.pulses ∧ (s.judge c k).1.channels = s.channels ∧ (s.judge c k).1.groups = s.groups ∧
    (s.judge c k).1.captures = s.captures ∧ (s.judge c k).1.tsv = s.tsv ∧ (s.judge c k).1.hmt = s.hmt ∧
    (s.judge c k).1.scw = s.scw ∧ (s.judge c k).1.units = s.units ∧ (s.judge c k).1.outputs = s.outputs := by
  generalize h : (s.judge c k).1 = t
  dsimp only [State.judge] at h
  (repeat' split at h) <;> subst h <;> simp

@[simp] theorem State.claimHeard_frame (c : Claim) :
    (s.claimHeard c).pending = s.pending ∧ (s.claimHeard c).stationNo = s.stationNo ∧
    (s.claimHeard c).config = s.config ∧ (s.claimHeard c).svp = s.svp ∧ (s.claimHeard c).peers = s.peers ∧
    (s.claimHeard c).own = s.own ∧ (s.claimHeard c).tmu = s.tmu ∧ (s.claimHeard c).awaitMclk = s.awaitMclk ∧
    (s.claimHeard c).pulses = s.pulses ∧ (s.claimHeard c).channels = s.channels ∧ (s.claimHeard c).groups = s.groups ∧
    (s.claimHeard c).captures = s.captures ∧ (s.claimHeard c).tsv = s.tsv ∧ (s.claimHeard c).hmt = s.hmt ∧
    (s.claimHeard c).scw = s.scw ∧ (s.claimHeard c).units = s.units ∧ (s.claimHeard c).outputs = s.outputs := by
  generalize h : (s.claimHeard c) = t
  dsimp only [State.claimHeard] at h
  (repeat' split at h) <;> subst h <;> simp

@[simp] theorem State.releaseHeard_frame (n : StationNo) (k : Fin 4) :
    (s.releaseHeard n k).pending = s.pending ∧ (s.releaseHeard n k).stationNo = s.stationNo ∧
    (s.releaseHeard n k).config = s.config ∧ (s.releaseHeard n k).svp = s.svp ∧
    (s.releaseHeard n k).attention = s.attention ∧ (s.releaseHeard n k).peers = s.peers ∧
    (s.releaseHeard n k).own = s.own ∧ (s.releaseHeard n k).tmu = s.tmu ∧
    (s.releaseHeard n k).awaitMclk = s.awaitMclk ∧ (s.releaseHeard n k).pulses = s.pulses ∧
    (s.releaseHeard n k).channels = s.channels ∧ (s.releaseHeard n k).groups = s.groups ∧
    (s.releaseHeard n k).captures = s.captures ∧ (s.releaseHeard n k).tsv = s.tsv ∧ (s.releaseHeard n k).hmt = s.hmt ∧
    (s.releaseHeard n k).scw = s.scw ∧ (s.releaseHeard n k).units = s.units ∧
    (s.releaseHeard n k).outputs = s.outputs ∧ (s.releaseHeard n k).freeNext = s.freeNext := by
  generalize h : (s.releaseHeard n k) = t
  dsimp only [State.releaseHeard] at h
  (repeat' split at h) <;> subst h <;> simp

@[simp] theorem State.tripHoldSlot_frame (k : SlotNo) :
    (s.tripHoldSlot k).1.pending = s.pending ∧ (s.tripHoldSlot k).1.stationNo = s.stationNo ∧
    (s.tripHoldSlot k).1.config = s.config ∧ (s.tripHoldSlot k).1.svp = s.svp ∧
    (s.tripHoldSlot k).1.attention = s.attention ∧ (s.tripHoldSlot k).1.peers = s.peers ∧
    (s.tripHoldSlot k).1.own = s.own ∧ (s.tripHoldSlot k).1.tmu = s.tmu ∧
    (s.tripHoldSlot k).1.awaitMclk = s.awaitMclk ∧ (s.tripHoldSlot k).1.pulses = s.pulses ∧
    (s.tripHoldSlot k).1.channels = s.channels ∧ (s.tripHoldSlot k).1.groups = s.groups ∧
    (s.tripHoldSlot k).1.captures = s.captures ∧ (s.tripHoldSlot k).1.tsv = s.tsv ∧ (s.tripHoldSlot k).1.hmt = s.hmt ∧
    (s.tripHoldSlot k).1.scw = s.scw ∧ (s.tripHoldSlot k).1.units = s.units ∧ (s.tripHoldSlot k).1.outputs = s.outputs := by
  generalize h : (s.tripHoldSlot k).1 = t
  dsimp only [State.tripHoldSlot] at h
  (repeat' split at h) <;> subst h <;> simp

@[simp] theorem State.tripHoldOnset_frame :
    (s.tripHoldOnset).pending = s.pending ∧ (s.tripHoldOnset).stationNo = s.stationNo ∧
    (s.tripHoldOnset).config = s.config ∧ (s.tripHoldOnset).svp = s.svp ∧ (s.tripHoldOnset).attention = s.attention ∧
    (s.tripHoldOnset).peers = s.peers ∧ (s.tripHoldOnset).own = s.own ∧ (s.tripHoldOnset).tmu = s.tmu ∧
    (s.tripHoldOnset).awaitMclk = s.awaitMclk ∧ (s.tripHoldOnset).pulses = s.pulses ∧
    (s.tripHoldOnset).channels = s.channels ∧ (s.tripHoldOnset).groups = s.groups ∧
    (s.tripHoldOnset).captures = s.captures ∧ (s.tripHoldOnset).tsv = s.tsv ∧ (s.tripHoldOnset).hmt = s.hmt ∧
    (s.tripHoldOnset).scw = s.scw ∧ (s.tripHoldOnset).units = s.units ∧ (s.tripHoldOnset).outputs = s.outputs := by
  generalize h : (s.tripHoldOnset) = t
  dsimp only [State.tripHoldOnset] at h
  subst h
  simp

@[simp] theorem State.tripHoldRelease_frame :
    (s.tripHoldRelease).pending = s.pending ∧ (s.tripHoldRelease).stationNo = s.stationNo ∧
    (s.tripHoldRelease).config = s.config ∧ (s.tripHoldRelease).svp = s.svp ∧
    (s.tripHoldRelease).attention = s.attention ∧ (s.tripHoldRelease).peers = s.peers ∧
    (s.tripHoldRelease).own = s.own ∧ (s.tripHoldRelease).tmu = s.tmu ∧ (s.tripHoldRelease).awaitMclk = s.awaitMclk ∧
    (s.tripHoldRelease).pulses = s.pulses ∧ (s.tripHoldRelease).channels = s.channels ∧
    (s.tripHoldRelease).groups = s.groups ∧ (s.tripHoldRelease).captures = s.captures ∧
    (s.tripHoldRelease).tsv = s.tsv ∧ (s.tripHoldRelease).hmt = s.hmt ∧ (s.tripHoldRelease).scw = s.scw ∧
    (s.tripHoldRelease).units = s.units ∧ (s.tripHoldRelease).outputs = s.outputs ∧
    (s.tripHoldRelease).freeNext = s.freeNext := by
  generalize h : (s.tripHoldRelease) = t
  dsimp only [State.tripHoldRelease] at h
  subst h
  simp

@[simp] theorem State.scalingHoldSlot_frame (k : SlotNo) :
    (s.scalingHoldSlot k).1.pending = s.pending ∧ (s.scalingHoldSlot k).1.stationNo = s.stationNo ∧
    (s.scalingHoldSlot k).1.config = s.config ∧ (s.scalingHoldSlot k).1.svp = s.svp ∧
    (s.scalingHoldSlot k).1.attention = s.attention ∧ (s.scalingHoldSlot k).1.peers = s.peers ∧
    (s.scalingHoldSlot k).1.own = s.own ∧ (s.scalingHoldSlot k).1.tmu = s.tmu ∧
    (s.scalingHoldSlot k).1.awaitMclk = s.awaitMclk ∧ (s.scalingHoldSlot k).1.pulses = s.pulses ∧
    (s.scalingHoldSlot k).1.channels = s.channels ∧ (s.scalingHoldSlot k).1.groups = s.groups ∧
    (s.scalingHoldSlot k).1.captures = s.captures ∧ (s.scalingHoldSlot k).1.tsv = s.tsv ∧
    (s.scalingHoldSlot k).1.hmt = s.hmt ∧ (s.scalingHoldSlot k).1.scw = s.scw ∧
    (s.scalingHoldSlot k).1.units = s.units ∧ (s.scalingHoldSlot k).1.outputs = s.outputs := by
  generalize h : (s.scalingHoldSlot k).1 = t
  dsimp only [State.scalingHoldSlot] at h
  (repeat' split at h) <;> subst h <;> simp

@[simp] theorem State.evaluateScalingHold_frame :
    (s.evaluateScalingHold).pending = s.pending ∧ (s.evaluateScalingHold).stationNo = s.stationNo ∧
    (s.evaluateScalingHold).config = s.config ∧ (s.evaluateScalingHold).svp = s.svp ∧
    (s.evaluateScalingHold).attention = s.attention ∧ (s.evaluateScalingHold).peers = s.peers ∧
    (s.evaluateScalingHold).own = s.own ∧ (s.evaluateScalingHold).tmu = s.tmu ∧
    (s.evaluateScalingHold).awaitMclk = s.awaitMclk ∧ (s.evaluateScalingHold).pulses = s.pulses ∧
    (s.evaluateScalingHold).channels = s.channels ∧ (s.evaluateScalingHold).groups = s.groups ∧
    (s.evaluateScalingHold).captures = s.captures ∧ (s.evaluateScalingHold).tsv = s.tsv ∧
    (s.evaluateScalingHold).hmt = s.hmt ∧ (s.evaluateScalingHold).scw = s.scw ∧
    (s.evaluateScalingHold).units = s.units ∧ (s.evaluateScalingHold).outputs = s.outputs := by
  generalize h : (s.evaluateScalingHold) = t
  dsimp only [State.evaluateScalingHold] at h
  (repeat' split at h) <;> subst h <;> simp

@[simp] theorem State.report_frame (u : UnitNo) (r : UnitReport) :
    (s.report u r).pending = s.pending ∧ (s.report u r).stationNo = s.stationNo ∧ (s.report u r).config = s.config ∧
    (s.report u r).svp = s.svp ∧ (s.report u r).attention = s.attention ∧ (s.report u r).peers = s.peers ∧
    (s.report u r).own = s.own ∧ (s.report u r).tmu = s.tmu ∧ (s.report u r).awaitMclk = s.awaitMclk ∧
    (s.report u r).pulses = s.pulses ∧ (s.report u r).channels = s.channels ∧ (s.report u r).groups = s.groups ∧
    (s.report u r).captures = s.captures ∧ (s.report u r).tsv = s.tsv ∧ (s.report u r).hmt = s.hmt ∧
    (s.report u r).scw = s.scw ∧ (s.report u r).units = s.units ∧ (s.report u r).outputs = s.outputs := by
  generalize h : (s.report u r) = t
  dsimp only [State.report] at h
  (repeat' split at h) <;> subst h <;> simp

@[simp] theorem State.stepWithdraw_frame (k : SlotNo) :
    (s.stepWithdraw k).pending = s.pending ∧ (s.stepWithdraw k).stationNo = s.stationNo ∧
    (s.stepWithdraw k).config = s.config ∧ (s.stepWithdraw k).svp = s.svp ∧ (s.stepWithdraw k).peers = s.peers ∧
    (s.stepWithdraw k).own = s.own ∧ (s.stepWithdraw k).tmu = s.tmu ∧ (s.stepWithdraw k).awaitMclk = s.awaitMclk ∧
    (s.stepWithdraw k).pulses = s.pulses ∧ (s.stepWithdraw k).channels = s.channels ∧
    (s.stepWithdraw k).groups = s.groups ∧ (s.stepWithdraw k).captures = s.captures ∧ (s.stepWithdraw k).tsv = s.tsv ∧
    (s.stepWithdraw k).hmt = s.hmt ∧ (s.stepWithdraw k).scw = s.scw ∧ (s.stepWithdraw k).units = s.units ∧
    (s.stepWithdraw k).outputs = s.outputs := by
  generalize h : (s.stepWithdraw k) = t
  dsimp only [State.stepWithdraw] at h
  (repeat' split at h) <;> subst h <;> simp

@[simp] theorem State.plannerStep_frame :
    (s.plannerStep).pending = s.pending ∧ (s.plannerStep).stationNo = s.stationNo ∧
    (s.plannerStep).config = s.config ∧ (s.plannerStep).svp = s.svp ∧ (s.plannerStep).peers = s.peers ∧
    (s.plannerStep).own = s.own ∧ (s.plannerStep).tmu = s.tmu ∧ (s.plannerStep).awaitMclk = s.awaitMclk ∧
    (s.plannerStep).pulses = s.pulses ∧ (s.plannerStep).channels = s.channels ∧ (s.plannerStep).groups = s.groups ∧
    (s.plannerStep).captures = s.captures ∧ (s.plannerStep).tsv = s.tsv ∧ (s.plannerStep).hmt = s.hmt ∧
    (s.plannerStep).scw = s.scw ∧ (s.plannerStep).units = s.units ∧ (s.plannerStep).outputs = s.outputs := by
  generalize h : (s.plannerStep) = t
  dsimp only [State.plannerStep] at h
  (repeat' split at h) <;> subst h <;> simp

end Sys2Proof.Machine
end

