-- ==== Sys2Proof/Laws/FramesUnits.lean ====
section
/-! SUPPORT. What the operations of the switching units leave unchanged: one lemma for each operation, which simp reads as one rule for each field. -/

namespace Sys2Proof.Machine

/-- The turns of takeEdges keep what its rule keeps (R179, R186). -/
theorem State.takeEdges_keeps {β : Type} (view : State → β) (n : UnitNo) (test : LineTime → Bool)
    (rule : State → Edge → State) (keeps : ∀ s e, view (rule s e) = view s) (fuel : Nat) (s : State) :
    view (s.takeEdges n test rule fuel) = view s := by
  induction fuel generalizing s with
  | zero => rfl
  | succ k ih =>
    rw [State.takeEdges]
    split
    · rfl
    · rw [ih, keeps]

/-- A property that the rule keeps at each entry it takes, the first of the queue that passes the test, is kept by the turns of
takeEdges (R179, R186, R189). -/
theorem State.takeEdges_holds (P : State → Prop) (n : UnitNo) (test : LineTime → Bool)
    (rule : State → Edge → State)
    (keeps : ∀ s e, s.units[n].queue.find? (test ·.due) = some e → P s → P (rule s e)) (fuel : Nat) (s : State)
    (h : P s) : P (s.takeEdges n test rule fuel) := by
  induction fuel generalizing s with
  | zero => exact h
  | succ k ih =>
    rw [State.takeEdges]
    split
    · exact h
    · rename_i e he
      exact ih _ (keeps s e he h)

variable (s : State)

@[simp] theorem State.outputEdge_frame (n : UnitNo) (e : Edge) :
    (s.outputEdge n e).pending = s.pending ∧ (s.outputEdge n e).stationNo = s.stationNo ∧
    (s.outputEdge n e).config = s.config ∧ (s.outputEdge n e).svp = s.svp ∧
    (s.outputEdge n e).attention = s.attention ∧ (s.outputEdge n e).peers = s.peers ∧
    (s.outputEdge n e).own = s.own ∧ (s.outputEdge n e).tmu = s.tmu ∧ (s.outputEdge n e).awaitMclk = s.awaitMclk ∧
    (s.outputEdge n e).pulses = s.pulses ∧ (s.outputEdge n e).channels = s.channels ∧
    (s.outputEdge n e).groups = s.groups ∧ (s.outputEdge n e).captures = s.captures ∧ (s.outputEdge n e).tsv = s.tsv ∧
    (s.outputEdge n e).hmt = s.hmt ∧ (s.outputEdge n e).scw = s.scw := by
  generalize h : (s.outputEdge n e) = t
  dsimp only [State.outputEdge] at h
  (repeat' split at h) <;> subst h <;> simp

@[simp] theorem State.outputLate_frame (n : UnitNo) (e : Edge) (l : Bool) :
    (s.outputLate n e l).pending = s.pending ∧ (s.outputLate n e l).stationNo = s.stationNo ∧
    (s.outputLate n e l).config = s.config ∧ (s.outputLate n e l).svp = s.svp ∧
    (s.outputLate n e l).peers = s.peers ∧ (s.outputLate n e l).own = s.own ∧ (s.outputLate n e l).tmu = s.tmu ∧
    (s.outputLate n e l).awaitMclk = s.awaitMclk ∧ (s.outputLate n e l).pulses = s.pulses ∧
    (s.outputLate n e l).channels = s.channels ∧ (s.outputLate n e l).groups = s.groups ∧
    (s.outputLate n e l).captures = s.captures ∧ (s.outputLate n e l).tsv = s.tsv ∧ (s.outputLate n e l).hmt = s.hmt ∧
    (s.outputLate n e l).scw = s.scw := by
  generalize h : (s.outputLate n e l) = t
  dsimp only [State.outputLate] at h
  subst h
  simp

@[simp] theorem State.endStart_frame (n : UnitNo) (e : Edge) :
    (s.endStart n e).pending = s.pending ∧ (s.endStart n e).stationNo = s.stationNo ∧
    (s.endStart n e).config = s.config ∧ (s.endStart n e).svp = s.svp ∧ (s.endStart n e).peers = s.peers ∧
    (s.endStart n e).own = s.own ∧ (s.endStart n e).tmu = s.tmu ∧ (s.endStart n e).awaitMclk = s.awaitMclk ∧
    (s.endStart n e).pulses = s.pulses ∧ (s.endStart n e).channels = s.channels ∧ (s.endStart n e).groups = s.groups ∧
    (s.endStart n e).captures = s.captures ∧ (s.endStart n e).tsv = s.tsv ∧ (s.endStart n e).hmt = s.hmt ∧
    (s.endStart n e).scw = s.scw ∧ (s.endStart n e).outputs = s.outputs := by
  generalize h : (s.endStart n e) = t
  dsimp only [State.endStart] at h
  (repeat' split at h) <;> subst h <;> simp

@[simp] theorem State.catchUp_frame (n : UnitNo) (e : Edge) :
    (s.catchUp n e).pending = s.pending ∧ (s.catchUp n e).stationNo = s.stationNo ∧
    (s.catchUp n e).config = s.config ∧ (s.catchUp n e).svp = s.svp ∧ (s.catchUp n e).peers = s.peers ∧
    (s.catchUp n e).own = s.own ∧ (s.catchUp n e).tmu = s.tmu ∧ (s.catchUp n e).awaitMclk = s.awaitMclk ∧
    (s.catchUp n e).pulses = s.pulses ∧ (s.catchUp n e).channels = s.channels ∧ (s.catchUp n e).groups = s.groups ∧
    (s.catchUp n e).captures = s.captures ∧ (s.catchUp n e).tsv = s.tsv ∧ (s.catchUp n e).hmt = s.hmt ∧
    (s.catchUp n e).scw = s.scw := by
  generalize h : (s.catchUp n e) = t
  dsimp only [State.catchUp] at h
  (repeat' split at h) <;> subst h <;> simp

@[simp] theorem State.takeReached_frame (n : UnitNo) :
    (s.takeReached n).pending = s.pending ∧ (s.takeReached n).stationNo = s.stationNo ∧
    (s.takeReached n).config = s.config ∧ (s.takeReached n).svp = s.svp ∧ (s.takeReached n).peers = s.peers ∧
    (s.takeReached n).own = s.own ∧ (s.takeReached n).tmu = s.tmu ∧ (s.takeReached n).awaitMclk = s.awaitMclk ∧
    (s.takeReached n).pulses = s.pulses ∧ (s.takeReached n).channels = s.channels ∧
    (s.takeReached n).groups = s.groups ∧ (s.takeReached n).captures = s.captures ∧ (s.takeReached n).tsv = s.tsv ∧
    (s.takeReached n).hmt = s.hmt ∧ (s.takeReached n).scw = s.scw := by
  unfold State.takeReached
  and_intros
  all_goals
    apply State.takeEdges_keeps
    intro s e
    simp

@[simp] theorem State.unitStep_frame (n : UnitNo) (f : StepEvent) :
    (s.unitStep n f).pending = s.pending ∧ (s.unitStep n f).stationNo = s.stationNo ∧
    (s.unitStep n f).config = s.config ∧ (s.unitStep n f).svp = s.svp ∧ (s.unitStep n f).peers = s.peers ∧
    (s.unitStep n f).own = s.own ∧ (s.unitStep n f).tmu = s.tmu ∧ (s.unitStep n f).awaitMclk = s.awaitMclk ∧
    (s.unitStep n f).pulses = s.pulses ∧ (s.unitStep n f).channels = s.channels ∧ (s.unitStep n f).groups = s.groups ∧
    (s.unitStep n f).captures = s.captures ∧ (s.unitStep n f).tsv = s.tsv ∧ (s.unitStep n f).hmt = s.hmt ∧
    (s.unitStep n f).scw = s.scw := by
  unfold State.unitStep
  and_intros
  all_goals
    apply State.takeEdges_keeps
    intro s e
    simp

@[simp] theorem State.handOver_frame (n : UnitNo) (t : LineTime) :
    (s.handOver n t).pending = s.pending ∧ (s.handOver n t).stationNo = s.stationNo ∧
    (s.handOver n t).config = s.config ∧ (s.handOver n t).svp = s.svp ∧ (s.handOver n t).peers = s.peers ∧
    (s.handOver n t).own = s.own ∧ (s.handOver n t).tmu = s.tmu ∧ (s.handOver n t).awaitMclk = s.awaitMclk ∧
    (s.handOver n t).pulses = s.pulses ∧ (s.handOver n t).channels = s.channels ∧ (s.handOver n t).groups = s.groups ∧
    (s.handOver n t).captures = s.captures ∧ (s.handOver n t).tsv = s.tsv ∧ (s.handOver n t).hmt = s.hmt ∧
    (s.handOver n t).scw = s.scw := by
  generalize h : (s.handOver n t) = t
  dsimp only [State.handOver] at h
  (repeat' split at h) <;> subst h <;> simp

@[simp] theorem State.writeStop_frame (n : UnitNo) (t : LineTime) :
    (s.writeStop n t).pending = s.pending ∧ (s.writeStop n t).stationNo = s.stationNo ∧
    (s.writeStop n t).config = s.config ∧ (s.writeStop n t).svp = s.svp ∧ (s.writeStop n t).peers = s.peers ∧
    (s.writeStop n t).own = s.own ∧ (s.writeStop n t).tmu = s.tmu ∧ (s.writeStop n t).awaitMclk = s.awaitMclk ∧
    (s.writeStop n t).pulses = s.pulses ∧ (s.writeStop n t).channels = s.channels ∧
    (s.writeStop n t).groups = s.groups ∧ (s.writeStop n t).captures = s.captures ∧ (s.writeStop n t).tsv = s.tsv ∧
    (s.writeStop n t).hmt = s.hmt ∧ (s.writeStop n t).scw = s.scw := by
  generalize h : (s.writeStop n t) = t
  dsimp only [State.writeStop] at h
  (repeat' split at h) <;> subst h <;> simp

@[simp] theorem State.stopNow_frame (n : UnitNo) :
    (s.stopNow n).pending = s.pending ∧ (s.stopNow n).stationNo = s.stationNo ∧ (s.stopNow n).config = s.config ∧
    (s.stopNow n).svp = s.svp ∧ (s.stopNow n).peers = s.peers ∧ (s.stopNow n).own = s.own ∧
    (s.stopNow n).tmu = s.tmu ∧ (s.stopNow n).awaitMclk = s.awaitMclk ∧ (s.stopNow n).pulses = s.pulses ∧
    (s.stopNow n).channels = s.channels ∧ (s.stopNow n).groups = s.groups ∧ (s.stopNow n).captures = s.captures ∧
    (s.stopNow n).tsv = s.tsv ∧ (s.stopNow n).hmt = s.hmt ∧ (s.stopNow n).scw = s.scw := by
  generalize h : (s.stopNow n) = t
  dsimp only [State.stopNow] at h
  (repeat' split at h) <;> subst h <;> simp

@[simp] theorem State.shed_frame (n : UnitNo) (t : LineTime) (r : Nat) :
    (s.shed n t r).pending = s.pending ∧ (s.shed n t r).stationNo = s.stationNo ∧ (s.shed n t r).config = s.config ∧
    (s.shed n t r).svp = s.svp ∧ (s.shed n t r).peers = s.peers ∧ (s.shed n t r).own = s.own ∧
    (s.shed n t r).tmu = s.tmu ∧ (s.shed n t r).awaitMclk = s.awaitMclk ∧ (s.shed n t r).pulses = s.pulses ∧
    (s.shed n t r).channels = s.channels ∧ (s.shed n t r).groups = s.groups ∧ (s.shed n t r).captures = s.captures ∧
    (s.shed n t r).tsv = s.tsv ∧ (s.shed n t r).hmt = s.hmt ∧ (s.shed n t r).scw = s.scw := by
  generalize h : (s.shed n t r) = t
  dsimp only [State.shed] at h
  (repeat' split at h) <;> subst h <;> simp

@[simp] theorem State.clearTripFlag_frame (n : UnitNo) :
    (s.clearTripFlag n).pending = s.pending ∧ (s.clearTripFlag n).stationNo = s.stationNo ∧
    (s.clearTripFlag n).config = s.config ∧ (s.clearTripFlag n).svp = s.svp ∧
    (s.clearTripFlag n).attention = s.attention ∧ (s.clearTripFlag n).lif = s.lif ∧
    (s.clearTripFlag n).peers = s.peers ∧ (s.clearTripFlag n).own = s.own ∧ (s.clearTripFlag n).tmu = s.tmu ∧
    (s.clearTripFlag n).awaitMclk = s.awaitMclk ∧ (s.clearTripFlag n).pulses = s.pulses ∧
    (s.clearTripFlag n).channels = s.channels ∧ (s.clearTripFlag n).groups = s.groups ∧
    (s.clearTripFlag n).captures = s.captures ∧ (s.clearTripFlag n).tsv = s.tsv ∧ (s.clearTripFlag n).hmt = s.hmt ∧
    (s.clearTripFlag n).scw = s.scw ∧ (s.clearTripFlag n).spl = s.spl ∧ (s.clearTripFlag n).outputs = s.outputs ∧
    (s.clearTripFlag n).freeNext = s.freeNext :=
  ⟨rfl, rfl, rfl, rfl, rfl, rfl, rfl, rfl, rfl, rfl, rfl, rfl, rfl, rfl, rfl, rfl, rfl, rfl, rfl, rfl⟩

@[simp] theorem State.makeFirm_frame (k : SlotNo) (c : Claim) :
    (s.makeFirm k c).pending = s.pending ∧ (s.makeFirm k c).stationNo = s.stationNo ∧
    (s.makeFirm k c).config = s.config ∧ (s.makeFirm k c).svp = s.svp ∧ (s.makeFirm k c).peers = s.peers ∧
    (s.makeFirm k c).own = s.own ∧ (s.makeFirm k c).tmu = s.tmu ∧ (s.makeFirm k c).awaitMclk = s.awaitMclk ∧
    (s.makeFirm k c).pulses = s.pulses ∧ (s.makeFirm k c).channels = s.channels ∧ (s.makeFirm k c).groups = s.groups ∧
    (s.makeFirm k c).captures = s.captures ∧ (s.makeFirm k c).tsv = s.tsv ∧ (s.makeFirm k c).hmt = s.hmt ∧
    (s.makeFirm k c).scw = s.scw := by
  generalize h : (s.makeFirm k c) = t
  dsimp only [State.makeFirm] at h
  subst h
  simp

@[simp] theorem State.settleEnd_frame (k : SlotNo) :
    (s.settleEnd k).pending = s.pending ∧ (s.settleEnd k).stationNo = s.stationNo ∧
    (s.settleEnd k).config = s.config ∧ (s.settleEnd k).svp = s.svp ∧ (s.settleEnd k).peers = s.peers ∧
    (s.settleEnd k).own = s.own ∧ (s.settleEnd k).tmu = s.tmu ∧ (s.settleEnd k).awaitMclk = s.awaitMclk ∧
    (s.settleEnd k).pulses = s.pulses ∧ (s.settleEnd k).channels = s.channels ∧ (s.settleEnd k).groups = s.groups ∧
    (s.settleEnd k).captures = s.captures ∧ (s.settleEnd k).tsv = s.tsv ∧ (s.settleEnd k).hmt = s.hmt ∧
    (s.settleEnd k).scw = s.scw := by
  generalize h : (s.settleEnd k) = t
  dsimp only [State.settleEnd] at h
  (repeat' split at h) <;> subst h <;> simp

end Sys2Proof.Machine
end

