-- ==== Sys2Proof/Laws/FramesPlant.lean ====
section
/-! SUPPORT. What the operations of the scaling watch, the channels, the groups and the heat meter leave unchanged: one lemma for each operation, which simp reads as one rule for each field. -/

namespace Sys2Proof.Machine


variable (s : State)

@[simp] theorem State.setToWatch_frame (r : SetRecord) :
    (s.setToWatch r).pending = s.pending ∧ (s.setToWatch r).stationNo = s.stationNo ∧
    (s.setToWatch r).config = s.config ∧ (s.setToWatch r).svp = s.svp ∧ (s.setToWatch r).attention = s.attention ∧
    (s.setToWatch r).lif = s.lif ∧ (s.setToWatch r).peers = s.peers ∧ (s.setToWatch r).own = s.own ∧
    (s.setToWatch r).tmu = s.tmu ∧ (s.setToWatch r).awaitMclk = s.awaitMclk ∧ (s.setToWatch r).pulses = s.pulses ∧
    (s.setToWatch r).channels = s.channels ∧ (s.setToWatch r).groups = s.groups ∧
    (s.setToWatch r).captures = s.captures ∧ (s.setToWatch r).tsv = s.tsv ∧ (s.setToWatch r).hmt = s.hmt ∧
    (s.setToWatch r).spl = s.spl ∧ (s.setToWatch r).units = s.units ∧ (s.setToWatch r).outputs = s.outputs ∧
    (s.setToWatch r).freeNext = s.freeNext := by
  generalize h : (s.setToWatch r) = t
  dsimp only [State.setToWatch] at h
  (repeat' split at h) <;> subst h <;> simp

@[simp] theorem State.forwardEnergy_frame (p : Nat) :
    (s.forwardEnergy p).pending = s.pending ∧ (s.forwardEnergy p).stationNo = s.stationNo ∧
    (s.forwardEnergy p).config = s.config ∧ (s.forwardEnergy p).svp = s.svp ∧
    (s.forwardEnergy p).attention = s.attention ∧ (s.forwardEnergy p).lif = s.lif ∧
    (s.forwardEnergy p).peers = s.peers ∧ (s.forwardEnergy p).own = s.own ∧ (s.forwardEnergy p).tmu = s.tmu ∧
    (s.forwardEnergy p).awaitMclk = s.awaitMclk ∧ (s.forwardEnergy p).pulses = s.pulses ∧
    (s.forwardEnergy p).channels = s.channels ∧ (s.forwardEnergy p).groups = s.groups ∧
    (s.forwardEnergy p).captures = s.captures ∧ (s.forwardEnergy p).tsv = s.tsv ∧ (s.forwardEnergy p).hmt = s.hmt ∧
    (s.forwardEnergy p).spl = s.spl ∧ (s.forwardEnergy p).units = s.units ∧ (s.forwardEnergy p).outputs = s.outputs ∧
    (s.forwardEnergy p).freeNext = s.freeNext := by
  generalize h : (s.forwardEnergy p) = t
  dsimp only [State.forwardEnergy] at h
  (repeat' split at h) <;> subst h <;> simp

@[simp] theorem State.queueHeat_frame (h : HeatSummary) :
    (s.queueHeat h).pending = s.pending ∧ (s.queueHeat h).stationNo = s.stationNo ∧
    (s.queueHeat h).config = s.config ∧ (s.queueHeat h).svp = s.svp ∧ (s.queueHeat h).attention = s.attention ∧
    (s.queueHeat h).peers = s.peers ∧ (s.queueHeat h).tmu = s.tmu ∧ (s.queueHeat h).awaitMclk = s.awaitMclk ∧
    (s.queueHeat h).pulses = s.pulses ∧ (s.queueHeat h).channels = s.channels ∧ (s.queueHeat h).groups = s.groups ∧
    (s.queueHeat h).captures = s.captures ∧ (s.queueHeat h).tsv = s.tsv ∧ (s.queueHeat h).hmt = s.hmt ∧
    (s.queueHeat h).scw = s.scw ∧ (s.queueHeat h).spl = s.spl ∧ (s.queueHeat h).units = s.units ∧
    (s.queueHeat h).outputs = s.outputs ∧ (s.queueHeat h).freeNext = s.freeNext :=
  ⟨rfl, rfl, rfl, rfl, rfl, rfl, rfl, rfl, rfl, rfl, rfl, rfl, rfl, rfl, rfl, rfl, rfl, rfl, rfl⟩

@[simp] theorem State.queueScale_frame (i : Option Nat) (t : LineTime) :
    (s.queueScale i t).pending = s.pending ∧ (s.queueScale i t).stationNo = s.stationNo ∧
    (s.queueScale i t).config = s.config ∧ (s.queueScale i t).svp = s.svp ∧
    (s.queueScale i t).attention = s.attention ∧ (s.queueScale i t).peers = s.peers ∧
    (s.queueScale i t).tmu = s.tmu ∧ (s.queueScale i t).awaitMclk = s.awaitMclk ∧
    (s.queueScale i t).pulses = s.pulses ∧ (s.queueScale i t).channels = s.channels ∧
    (s.queueScale i t).groups = s.groups ∧ (s.queueScale i t).captures = s.captures ∧ (s.queueScale i t).tsv = s.tsv ∧
    (s.queueScale i t).hmt = s.hmt ∧ (s.queueScale i t).scw = s.scw ∧ (s.queueScale i t).spl = s.spl ∧
    (s.queueScale i t).units = s.units ∧ (s.queueScale i t).outputs = s.outputs ∧
    (s.queueScale i t).freeNext = s.freeNext :=
  ⟨rfl, rfl, rfl, rfl, rfl, rfl, rfl, rfl, rfl, rfl, rfl, rfl, rfl, rfl, rfl, rfl, rfl, rfl, rfl⟩

@[simp] theorem State.evaluateInterval_frame (i : Interval) (t : LineTime) :
    (s.evaluateInterval i t).pending = s.pending ∧ (s.evaluateInterval i t).stationNo = s.stationNo ∧
    (s.evaluateInterval i t).config = s.config ∧ (s.evaluateInterval i t).svp = s.svp ∧
    (s.evaluateInterval i t).peers = s.peers ∧ (s.evaluateInterval i t).tmu = s.tmu ∧
    (s.evaluateInterval i t).awaitMclk = s.awaitMclk ∧ (s.evaluateInterval i t).pulses = s.pulses ∧
    (s.evaluateInterval i t).channels = s.channels ∧ (s.evaluateInterval i t).groups = s.groups ∧
    (s.evaluateInterval i t).captures = s.captures ∧ (s.evaluateInterval i t).tsv = s.tsv ∧
    (s.evaluateInterval i t).hmt = s.hmt ∧ (s.evaluateInterval i t).units = s.units ∧
    (s.evaluateInterval i t).outputs = s.outputs := by
  generalize h : (s.evaluateInterval i t) = t
  dsimp only [State.evaluateInterval] at h
  (repeat' split at h) <;> subst h <;> simp

@[simp] theorem State.discardInterval_frame (t : LineTime) :
    (s.discardInterval t).pending = s.pending ∧ (s.discardInterval t).stationNo = s.stationNo ∧
    (s.discardInterval t).config = s.config ∧ (s.discardInterval t).svp = s.svp ∧
    (s.discardInterval t).attention = s.attention ∧ (s.discardInterval t).lif = s.lif ∧
    (s.discardInterval t).peers = s.peers ∧ (s.discardInterval t).own = s.own ∧ (s.discardInterval t).tmu = s.tmu ∧
    (s.discardInterval t).awaitMclk = s.awaitMclk ∧ (s.discardInterval t).pulses = s.pulses ∧
    (s.discardInterval t).channels = s.channels ∧ (s.discardInterval t).groups = s.groups ∧
    (s.discardInterval t).captures = s.captures ∧ (s.discardInterval t).tsv = s.tsv ∧
    (s.discardInterval t).hmt = s.hmt ∧ (s.discardInterval t).spl = s.spl ∧ (s.discardInterval t).units = s.units ∧
    (s.discardInterval t).outputs = s.outputs ∧ (s.discardInterval t).freeNext = s.freeNext :=
  ⟨rfl, rfl, rfl, rfl, rfl, rfl, rfl, rfl, rfl, rfl, rfl, rfl, rfl, rfl, rfl, rfl, rfl, rfl, rfl, rfl⟩

@[simp] theorem State.openNext_frame (t : LineTime) (b : Bool) :
    (s.openNext t b).pending = s.pending ∧ (s.openNext t b).stationNo = s.stationNo ∧
    (s.openNext t b).config = s.config ∧ (s.openNext t b).svp = s.svp ∧ (s.openNext t b).attention = s.attention ∧
    (s.openNext t b).lif = s.lif ∧ (s.openNext t b).peers = s.peers ∧ (s.openNext t b).own = s.own ∧
    (s.openNext t b).tmu = s.tmu ∧ (s.openNext t b).awaitMclk = s.awaitMclk ∧ (s.openNext t b).pulses = s.pulses ∧
    (s.openNext t b).channels = s.channels ∧ (s.openNext t b).groups = s.groups ∧
    (s.openNext t b).captures = s.captures ∧ (s.openNext t b).tsv = s.tsv ∧ (s.openNext t b).hmt = s.hmt ∧
    (s.openNext t b).spl = s.spl ∧ (s.openNext t b).units = s.units ∧ (s.openNext t b).outputs = s.outputs ∧
    (s.openNext t b).freeNext = s.freeNext :=
  ⟨rfl, rfl, rfl, rfl, rfl, rfl, rfl, rfl, rfl, rfl, rfl, rfl, rfl, rfl, rfl, rfl, rfl, rfl, rfl, rfl⟩

@[simp] theorem State.closeAtBoundary_frame (i : Interval) :
    (s.closeAtBoundary i).pending = s.pending ∧ (s.closeAtBoundary i).stationNo = s.stationNo ∧
    (s.closeAtBoundary i).config = s.config ∧ (s.closeAtBoundary i).svp = s.svp ∧
    (s.closeAtBoundary i).peers = s.peers ∧ (s.closeAtBoundary i).tmu = s.tmu ∧
    (s.closeAtBoundary i).awaitMclk = s.awaitMclk ∧ (s.closeAtBoundary i).pulses = s.pulses ∧
    (s.closeAtBoundary i).channels = s.channels ∧ (s.closeAtBoundary i).groups = s.groups ∧
    (s.closeAtBoundary i).captures = s.captures ∧ (s.closeAtBoundary i).tsv = s.tsv ∧
    (s.closeAtBoundary i).hmt = s.hmt ∧ (s.closeAtBoundary i).units = s.units ∧
    (s.closeAtBoundary i).outputs = s.outputs := by
  generalize h : (s.closeAtBoundary i) = t
  dsimp only [State.closeAtBoundary] at h
  (repeat' split at h) <;> subst h <;> simp

@[simp] theorem State.intervalStep_frame (e : StepEvent) :
    (s.intervalStep e).pending = s.pending ∧ (s.intervalStep e).stationNo = s.stationNo ∧
    (s.intervalStep e).config = s.config ∧ (s.intervalStep e).svp = s.svp ∧
    (s.intervalStep e).attention = s.attention ∧ (s.intervalStep e).lif = s.lif ∧
    (s.intervalStep e).peers = s.peers ∧ (s.intervalStep e).own = s.own ∧ (s.intervalStep e).tmu = s.tmu ∧
    (s.intervalStep e).awaitMclk = s.awaitMclk ∧ (s.intervalStep e).pulses = s.pulses ∧
    (s.intervalStep e).channels = s.channels ∧ (s.intervalStep e).groups = s.groups ∧
    (s.intervalStep e).captures = s.captures ∧ (s.intervalStep e).tsv = s.tsv ∧ (s.intervalStep e).hmt = s.hmt ∧
    (s.intervalStep e).spl = s.spl ∧ (s.intervalStep e).units = s.units ∧ (s.intervalStep e).outputs = s.outputs ∧
    (s.intervalStep e).freeNext = s.freeNext := by
  generalize h : (s.intervalStep e) = t
  dsimp only [State.intervalStep] at h
  (repeat' split at h) <;> subst h <;> simp

@[simp] theorem State.addToSet_frame (c : ChannelNo) (v : Int) (b : Bool) :
    (s.addToSet c v b).pending = s.pending ∧ (s.addToSet c v b).stationNo = s.stationNo ∧
    (s.addToSet c v b).config = s.config ∧ (s.addToSet c v b).svp = s.svp ∧
    (s.addToSet c v b).attention = s.attention ∧ (s.addToSet c v b).lif = s.lif ∧
    (s.addToSet c v b).peers = s.peers ∧ (s.addToSet c v b).own = s.own ∧ (s.addToSet c v b).tmu = s.tmu ∧
    (s.addToSet c v b).awaitMclk = s.awaitMclk ∧ (s.addToSet c v b).pulses = s.pulses ∧
    (s.addToSet c v b).channels = s.channels ∧ (s.addToSet c v b).captures = s.captures ∧
    (s.addToSet c v b).tsv = s.tsv ∧ (s.addToSet c v b).hmt = s.hmt ∧ (s.addToSet c v b).scw = s.scw ∧
    (s.addToSet c v b).spl = s.spl ∧ (s.addToSet c v b).units = s.units ∧ (s.addToSet c v b).outputs = s.outputs ∧
    (s.addToSet c v b).freeNext = s.freeNext := by
  generalize h : (s.addToSet c v b) = t
  dsimp only [State.addToSet] at h
  (repeat' split at h) <;> subst h <;> simp

@[simp] theorem State.takeLatest_frame (r : Reading) :
    (s.takeLatest r).pending = s.pending ∧ (s.takeLatest r).stationNo = s.stationNo ∧
    (s.takeLatest r).config = s.config ∧ (s.takeLatest r).svp = s.svp ∧ (s.takeLatest r).attention = s.attention ∧
    (s.takeLatest r).lif = s.lif ∧ (s.takeLatest r).peers = s.peers ∧ (s.takeLatest r).own = s.own ∧
    (s.takeLatest r).tmu = s.tmu ∧ (s.takeLatest r).awaitMclk = s.awaitMclk ∧ (s.takeLatest r).pulses = s.pulses ∧
    (s.takeLatest r).groups = s.groups ∧ (s.takeLatest r).captures = s.captures ∧ (s.takeLatest r).tsv = s.tsv ∧
    (s.takeLatest r).hmt = s.hmt ∧ (s.takeLatest r).scw = s.scw ∧ (s.takeLatest r).spl = s.spl ∧
    (s.takeLatest r).units = s.units ∧ (s.takeLatest r).outputs = s.outputs ∧ (s.takeLatest r).freeNext = s.freeNext :=
  ⟨rfl, rfl, rfl, rfl, rfl, rfl, rfl, rfl, rfl, rfl, rfl, rfl, rfl, rfl, rfl, rfl, rfl, rfl, rfl, rfl⟩

@[simp] theorem State.ringRemoval_frame (g : GroupNo) :
    (s.ringRemoval g).pending = s.pending ∧ (s.ringRemoval g).stationNo = s.stationNo ∧
    (s.ringRemoval g).config = s.config ∧ (s.ringRemoval g).svp = s.svp ∧ (s.ringRemoval g).lif = s.lif ∧
    (s.ringRemoval g).peers = s.peers ∧ (s.ringRemoval g).own = s.own ∧ (s.ringRemoval g).tmu = s.tmu ∧
    (s.ringRemoval g).awaitMclk = s.awaitMclk ∧ (s.ringRemoval g).pulses = s.pulses ∧
    (s.ringRemoval g).channels = s.channels ∧ (s.ringRemoval g).captures = s.captures ∧
    (s.ringRemoval g).tsv = s.tsv ∧ (s.ringRemoval g).hmt = s.hmt ∧ (s.ringRemoval g).scw = s.scw ∧
    (s.ringRemoval g).spl = s.spl ∧ (s.ringRemoval g).units = s.units ∧ (s.ringRemoval g).outputs = s.outputs ∧
    (s.ringRemoval g).freeNext = s.freeNext := by
  generalize h : (s.ringRemoval g) = t
  dsimp only [State.ringRemoval] at h
  (repeat' split at h) <;> subst h <;> simp

@[simp] theorem State.countMark_frame (g : GroupNo) :
    (s.countMark g).pending = s.pending ∧ (s.countMark g).stationNo = s.stationNo ∧
    (s.countMark g).config = s.config ∧ (s.countMark g).svp = s.svp ∧ (s.countMark g).lif = s.lif ∧
    (s.countMark g).peers = s.peers ∧ (s.countMark g).own = s.own ∧ (s.countMark g).tmu = s.tmu ∧
    (s.countMark g).awaitMclk = s.awaitMclk ∧ (s.countMark g).pulses = s.pulses ∧
    (s.countMark g).channels = s.channels ∧ (s.countMark g).captures = s.captures ∧ (s.countMark g).tsv = s.tsv ∧
    (s.countMark g).hmt = s.hmt ∧ (s.countMark g).scw = s.scw ∧ (s.countMark g).spl = s.spl ∧
    (s.countMark g).units = s.units ∧ (s.countMark g).outputs = s.outputs ∧ (s.countMark g).freeNext = s.freeNext := by
  generalize h : (s.countMark g) = t
  dsimp only [State.countMark] at h
  (repeat' split at h) <;> subst h <;> simp

@[simp] theorem State.enterRing_frame (g : GroupNo) (r : SetRecord) :
    (s.enterRing g r).pending = s.pending ∧ (s.enterRing g r).stationNo = s.stationNo ∧
    (s.enterRing g r).config = s.config ∧ (s.enterRing g r).svp = s.svp ∧ (s.enterRing g r).lif = s.lif ∧
    (s.enterRing g r).peers = s.peers ∧ (s.enterRing g r).own = s.own ∧ (s.enterRing g r).tmu = s.tmu ∧
    (s.enterRing g r).awaitMclk = s.awaitMclk ∧ (s.enterRing g r).pulses = s.pulses ∧
    (s.enterRing g r).channels = s.channels ∧ (s.enterRing g r).captures = s.captures ∧
    (s.enterRing g r).tsv = s.tsv ∧ (s.enterRing g r).hmt = s.hmt ∧ (s.enterRing g r).scw = s.scw ∧
    (s.enterRing g r).spl = s.spl ∧ (s.enterRing g r).units = s.units ∧ (s.enterRing g r).outputs = s.outputs ∧
    (s.enterRing g r).freeNext = s.freeNext := by
  generalize h : (s.enterRing g r) = t
  dsimp only [State.enterRing] at h
  subst h
  simp

@[simp] theorem State.closeSet_frame (g : GroupNo) (o : OpenSet) (t : LineTime) (b : Bool) :
    (s.closeSet g o t b).pending = s.pending ∧ (s.closeSet g o t b).stationNo = s.stationNo ∧
    (s.closeSet g o t b).config = s.config ∧ (s.closeSet g o t b).svp = s.svp ∧ (s.closeSet g o t b).lif = s.lif ∧
    (s.closeSet g o t b).peers = s.peers ∧ (s.closeSet g o t b).own = s.own ∧ (s.closeSet g o t b).tmu = s.tmu ∧
    (s.closeSet g o t b).awaitMclk = s.awaitMclk ∧ (s.closeSet g o t b).pulses = s.pulses ∧
    (s.closeSet g o t b).captures = s.captures ∧ (s.closeSet g o t b).tsv = s.tsv ∧ (s.closeSet g o t b).hmt = s.hmt ∧
    (s.closeSet g o t b).spl = s.spl ∧ (s.closeSet g o t b).units = s.units ∧
    (s.closeSet g o t b).outputs = s.outputs ∧ (s.closeSet g o t b).freeNext = s.freeNext := by
  simp only [State.closeSet, State.setToWatch_frame]
  and_intros
  all_goals
    refine (foldl_keeps State.takeLatest _ ?_ _ _).trans ?_
    · intro s r; rfl
    · simp

@[simp] theorem State.groupStep_frame (g : GroupNo) (e : StepEvent) :
    (s.groupStep g e).pending = s.pending ∧ (s.groupStep g e).stationNo = s.stationNo ∧
    (s.groupStep g e).config = s.config ∧ (s.groupStep g e).svp = s.svp ∧ (s.groupStep g e).lif = s.lif ∧
    (s.groupStep g e).peers = s.peers ∧ (s.groupStep g e).own = s.own ∧ (s.groupStep g e).tmu = s.tmu ∧
    (s.groupStep g e).awaitMclk = s.awaitMclk ∧ (s.groupStep g e).pulses = s.pulses ∧
    (s.groupStep g e).captures = s.captures ∧ (s.groupStep g e).tsv = s.tsv ∧ (s.groupStep g e).hmt = s.hmt ∧
    (s.groupStep g e).spl = s.spl ∧ (s.groupStep g e).units = s.units ∧ (s.groupStep g e).outputs = s.outputs ∧
    (s.groupStep g e).freeNext = s.freeNext := by
  generalize h : (s.groupStep g e) = t
  dsimp only [State.groupStep] at h
  (repeat' split at h) <;> subst h <;> simp

@[simp] theorem State.startChannel_frame (c : ChannelNo) :
    (s.startChannel c).pending = s.pending ∧ (s.startChannel c).stationNo = s.stationNo ∧
    (s.startChannel c).config = s.config ∧ (s.startChannel c).svp = s.svp ∧
    (s.startChannel c).attention = s.attention ∧ (s.startChannel c).lif = s.lif ∧
    (s.startChannel c).peers = s.peers ∧ (s.startChannel c).own = s.own ∧ (s.startChannel c).tmu = s.tmu ∧
    (s.startChannel c).awaitMclk = s.awaitMclk ∧ (s.startChannel c).pulses = s.pulses ∧
    (s.startChannel c).groups = s.groups ∧ (s.startChannel c).captures = s.captures ∧ (s.startChannel c).tsv = s.tsv ∧
    (s.startChannel c).hmt = s.hmt ∧ (s.startChannel c).scw = s.scw ∧ (s.startChannel c).spl = s.spl ∧
    (s.startChannel c).units = s.units ∧ (s.startChannel c).outputs = s.outputs ∧
    (s.startChannel c).freeNext = s.freeNext := by
  generalize h : (s.startChannel c) = t
  dsimp only [State.startChannel] at h
  (repeat' split at h) <;> subst h <;> simp

@[simp] theorem State.noteSaturation_frame (c : ChannelNo) (b : Bool) :
    (s.noteSaturation c b).pending = s.pending ∧ (s.noteSaturation c b).stationNo = s.stationNo ∧
    (s.noteSaturation c b).config = s.config ∧ (s.noteSaturation c b).svp = s.svp ∧
    (s.noteSaturation c b).lif = s.lif ∧ (s.noteSaturation c b).peers = s.peers ∧
    (s.noteSaturation c b).own = s.own ∧ (s.noteSaturation c b).tmu = s.tmu ∧
    (s.noteSaturation c b).awaitMclk = s.awaitMclk ∧ (s.noteSaturation c b).pulses = s.pulses ∧
    (s.noteSaturation c b).groups = s.groups ∧ (s.noteSaturation c b).captures = s.captures ∧
    (s.noteSaturation c b).tsv = s.tsv ∧ (s.noteSaturation c b).hmt = s.hmt ∧ (s.noteSaturation c b).scw = s.scw ∧
    (s.noteSaturation c b).spl = s.spl ∧ (s.noteSaturation c b).units = s.units ∧
    (s.noteSaturation c b).outputs = s.outputs ∧ (s.noteSaturation c b).freeNext = s.freeNext := by
  generalize h : (s.noteSaturation c b) = t
  dsimp only [State.noteSaturation] at h
  (repeat' split at h) <;> subst h <;> simp

@[simp] theorem State.validMain_frame (c : ChannelNo) (r : Int) :
    (s.validMain c r).pending = s.pending ∧ (s.validMain c r).stationNo = s.stationNo ∧
    (s.validMain c r).config = s.config ∧ (s.validMain c r).svp = s.svp ∧ (s.validMain c r).lif = s.lif ∧
    (s.validMain c r).peers = s.peers ∧ (s.validMain c r).own = s.own ∧ (s.validMain c r).tmu = s.tmu ∧
    (s.validMain c r).awaitMclk = s.awaitMclk ∧ (s.validMain c r).pulses = s.pulses ∧
    (s.validMain c r).captures = s.captures ∧ (s.validMain c r).tsv = s.tsv ∧ (s.validMain c r).hmt = s.hmt ∧
    (s.validMain c r).scw = s.scw ∧ (s.validMain c r).spl = s.spl ∧ (s.validMain c r).units = s.units ∧
    (s.validMain c r).outputs = s.outputs ∧ (s.validMain c r).freeNext = s.freeNext := by
  generalize h : (s.validMain c r) = t
  dsimp only [State.validMain] at h
  subst h
  simp

@[simp] theorem State.guardLimitEvent_frame (c : ChannelNo) :
    (s.guardLimitEvent c).pending = s.pending ∧ (s.guardLimitEvent c).stationNo = s.stationNo ∧
    (s.guardLimitEvent c).config = s.config ∧ (s.guardLimitEvent c).svp = s.svp ∧
    (s.guardLimitEvent c).peers = s.peers ∧ (s.guardLimitEvent c).own = s.own ∧ (s.guardLimitEvent c).tmu = s.tmu ∧
    (s.guardLimitEvent c).awaitMclk = s.awaitMclk ∧ (s.guardLimitEvent c).pulses = s.pulses ∧
    (s.guardLimitEvent c).groups = s.groups ∧ (s.guardLimitEvent c).captures = s.captures ∧
    (s.guardLimitEvent c).tsv = s.tsv ∧ (s.guardLimitEvent c).hmt = s.hmt ∧ (s.guardLimitEvent c).scw = s.scw := by
  generalize h : (s.guardLimitEvent c) = t
  dsimp only [State.guardLimitEvent] at h
  (repeat' split at h) <;> subst h <;> simp

@[simp] theorem State.validGuard_frame (c : ChannelNo) (r : Int) :
    (s.validGuard c r).pending = s.pending ∧ (s.validGuard c r).stationNo = s.stationNo ∧
    (s.validGuard c r).config = s.config ∧ (s.validGuard c r).svp = s.svp ∧ (s.validGuard c r).peers = s.peers ∧
    (s.validGuard c r).own = s.own ∧ (s.validGuard c r).tmu = s.tmu ∧ (s.validGuard c r).awaitMclk = s.awaitMclk ∧
    (s.validGuard c r).pulses = s.pulses ∧ (s.validGuard c r).groups = s.groups ∧
    (s.validGuard c r).captures = s.captures ∧ (s.validGuard c r).tsv = s.tsv ∧ (s.validGuard c r).hmt = s.hmt ∧
    (s.validGuard c r).scw = s.scw := by
  generalize h : (s.validGuard c r) = t
  dsimp only [State.validGuard] at h
  (repeat' split at h) <;> subst h <;> simp

@[simp] theorem State.flowPulse_frame (t : LineTime) :
    (s.flowPulse t).pending = s.pending ∧ (s.flowPulse t).stationNo = s.stationNo ∧
    (s.flowPulse t).config = s.config ∧ (s.flowPulse t).svp = s.svp ∧ (s.flowPulse t).lif = s.lif ∧
    (s.flowPulse t).peers = s.peers ∧ (s.flowPulse t).own = s.own ∧ (s.flowPulse t).tmu = s.tmu ∧
    (s.flowPulse t).awaitMclk = s.awaitMclk ∧ (s.flowPulse t).pulses = s.pulses ∧
    (s.flowPulse t).channels = s.channels ∧ (s.flowPulse t).groups = s.groups ∧
    (s.flowPulse t).captures = s.captures ∧ (s.flowPulse t).tsv = s.tsv ∧ (s.flowPulse t).spl = s.spl ∧
    (s.flowPulse t).units = s.units ∧ (s.flowPulse t).outputs = s.outputs ∧ (s.flowPulse t).freeNext = s.freeNext := by
  generalize h : (s.flowPulse t) = t
  dsimp only [State.flowPulse] at h
  (repeat' split at h) <;> subst h <;> simp

end Sys2Proof.Machine
end

