-- ==== Sys2Proof/Laws/FramesTrip.lean ====
section
/-! SUPPORT. What the operations of the turbine supervisor leave unchanged: one lemma for each operation, which simp reads as one rule for each field. -/

namespace Sys2Proof.Machine


variable (s : State)

@[simp] theorem State.deliverOnset_frame (t : LineTime) (r : Nat) (d : Dependant) :
    (State.deliverOnset t r s d).pending = s.pending ∧ (State.deliverOnset t r s d).stationNo = s.stationNo ∧
    (State.deliverOnset t r s d).config = s.config ∧ (State.deliverOnset t r s d).svp = s.svp ∧
    (State.deliverOnset t r s d).peers = s.peers ∧ (State.deliverOnset t r s d).own = s.own ∧
    (State.deliverOnset t r s d).tmu = s.tmu ∧ (State.deliverOnset t r s d).awaitMclk = s.awaitMclk ∧
    (State.deliverOnset t r s d).pulses = s.pulses ∧ (State.deliverOnset t r s d).channels = s.channels ∧
    (State.deliverOnset t r s d).groups = s.groups ∧ (State.deliverOnset t r s d).captures = s.captures ∧
    (State.deliverOnset t r s d).tsv = s.tsv ∧ (State.deliverOnset t r s d).hmt = s.hmt ∧
    (State.deliverOnset t r s d).scw = s.scw := by
  generalize h : (State.deliverOnset t r s d) = t
  dsimp only [State.deliverOnset] at h
  (repeat' split at h) <;> subst h <;> simp

@[simp] theorem State.tripOnset_frame (e : ViewEvent) (order : List Dependant) :
    (s.tripOnset e order).pending = s.pending ∧ (s.tripOnset e order).stationNo = s.stationNo ∧
    (s.tripOnset e order).config = s.config ∧ (s.tripOnset e order).svp = s.svp ∧
    (s.tripOnset e order).peers = s.peers ∧ (s.tripOnset e order).own = s.own ∧ (s.tripOnset e order).tmu = s.tmu ∧
    (s.tripOnset e order).awaitMclk = s.awaitMclk ∧ (s.tripOnset e order).pulses = s.pulses ∧
    (s.tripOnset e order).channels = s.channels ∧ (s.tripOnset e order).groups = s.groups ∧
    (s.tripOnset e order).captures = s.captures ∧ (s.tripOnset e order).hmt = s.hmt ∧
    (s.tripOnset e order).scw = s.scw := by
  simp only [State.tripOnset]
  and_intros
  all_goals
    refine (foldl_keeps (State.deliverOnset _ _) _ ?_ _ _).trans ?_
    · intro s d; simp
    · split <;> rfl

@[simp] theorem State.tripRelease_frame :
    (s.tripRelease).pending = s.pending ∧ (s.tripRelease).stationNo = s.stationNo ∧
    (s.tripRelease).config = s.config ∧ (s.tripRelease).svp = s.svp ∧ (s.tripRelease).attention = s.attention ∧
    (s.tripRelease).peers = s.peers ∧ (s.tripRelease).own = s.own ∧ (s.tripRelease).tmu = s.tmu ∧
    (s.tripRelease).awaitMclk = s.awaitMclk ∧ (s.tripRelease).pulses = s.pulses ∧
    (s.tripRelease).channels = s.channels ∧ (s.tripRelease).groups = s.groups ∧
    (s.tripRelease).captures = s.captures ∧ (s.tripRelease).hmt = s.hmt ∧ (s.tripRelease).scw = s.scw ∧
    (s.tripRelease).outputs = s.outputs ∧ (s.tripRelease).freeNext = s.freeNext := by
  simp only [State.tripRelease]
  and_intros
  all_goals
    refine (foldl_keeps State.clearTripFlag _ ?_ _ _).trans ?_
    · intro s n; rfl
    · simp

@[simp] theorem State.evaluateView_frame (e : ViewEvent) (order : List Dependant) :
    (s.evaluateView e order).pending = s.pending ∧ (s.evaluateView e order).stationNo = s.stationNo ∧
    (s.evaluateView e order).config = s.config ∧ (s.evaluateView e order).svp = s.svp ∧
    (s.evaluateView e order).peers = s.peers ∧ (s.evaluateView e order).own = s.own ∧
    (s.evaluateView e order).tmu = s.tmu ∧ (s.evaluateView e order).awaitMclk = s.awaitMclk ∧
    (s.evaluateView e order).pulses = s.pulses ∧ (s.evaluateView e order).channels = s.channels ∧
    (s.evaluateView e order).groups = s.groups ∧ (s.evaluateView e order).captures = s.captures ∧
    (s.evaluateView e order).hmt = s.hmt ∧ (s.evaluateView e order).scw = s.scw := by
  generalize h : (s.evaluateView e order) = t
  dsimp only [State.evaluateView] at h
  (repeat' split at h) <;> subst h <;> simp

@[simp] theorem State.latchTrip_frame (c : TripCause) (v : Nat) (order : List Dependant) :
    (s.latchTrip c v order).pending = s.pending ∧ (s.latchTrip c v order).stationNo = s.stationNo ∧
    (s.latchTrip c v order).config = s.config ∧ (s.latchTrip c v order).svp = s.svp ∧
    (s.latchTrip c v order).peers = s.peers ∧ (s.latchTrip c v order).own = s.own ∧
    (s.latchTrip c v order).tmu = s.tmu ∧ (s.latchTrip c v order).awaitMclk = s.awaitMclk ∧
    (s.latchTrip c v order).pulses = s.pulses ∧ (s.latchTrip c v order).channels = s.channels ∧
    (s.latchTrip c v order).groups = s.groups ∧ (s.latchTrip c v order).captures = s.captures ∧
    (s.latchTrip c v order).hmt = s.hmt ∧ (s.latchTrip c v order).scw = s.scw := by
  generalize h : (s.latchTrip c v order) = t
  dsimp only [State.latchTrip] at h
  subst h
  simp

@[simp] theorem State.countFurther_frame :
    (s.countFurther).pending = s.pending ∧ (s.countFurther).stationNo = s.stationNo ∧
    (s.countFurther).config = s.config ∧ (s.countFurther).svp = s.svp ∧ (s.countFurther).attention = s.attention ∧
    (s.countFurther).lif = s.lif ∧ (s.countFurther).peers = s.peers ∧ (s.countFurther).own = s.own ∧
    (s.countFurther).tmu = s.tmu ∧ (s.countFurther).awaitMclk = s.awaitMclk ∧ (s.countFurther).pulses = s.pulses ∧
    (s.countFurther).channels = s.channels ∧ (s.countFurther).groups = s.groups ∧
    (s.countFurther).captures = s.captures ∧ (s.countFurther).hmt = s.hmt ∧ (s.countFurther).scw = s.scw ∧
    (s.countFurther).spl = s.spl ∧ (s.countFurther).units = s.units ∧ (s.countFurther).outputs = s.outputs ∧
    (s.countFurther).freeNext = s.freeNext :=
  ⟨rfl, rfl, rfl, rfl, rfl, rfl, rfl, rfl, rfl, rfl, rfl, rfl, rfl, rfl, rfl, rfl, rfl, rfl, rfl, rfl⟩

@[simp] theorem State.tripCause_frame (c : TripCause) (v : Nat) (order : List Dependant) :
    (s.tripCause c v order).pending = s.pending ∧ (s.tripCause c v order).stationNo = s.stationNo ∧
    (s.tripCause c v order).config = s.config ∧ (s.tripCause c v order).svp = s.svp ∧
    (s.tripCause c v order).peers = s.peers ∧ (s.tripCause c v order).own = s.own ∧
    (s.tripCause c v order).tmu = s.tmu ∧ (s.tripCause c v order).awaitMclk = s.awaitMclk ∧
    (s.tripCause c v order).pulses = s.pulses ∧ (s.tripCause c v order).channels = s.channels ∧
    (s.tripCause c v order).groups = s.groups ∧ (s.tripCause c v order).captures = s.captures ∧
    (s.tripCause c v order).hmt = s.hmt ∧ (s.tripCause c v order).scw = s.scw := by
  generalize h : (s.tripCause c v order) = t
  dsimp only [State.tripCause] at h
  (repeat' split at h) <;> subst h <;> simp

@[simp] theorem State.resetLatch_frame (order : List Dependant) :
    (s.resetLatch order).pending = s.pending ∧ (s.resetLatch order).stationNo = s.stationNo ∧
    (s.resetLatch order).config = s.config ∧ (s.resetLatch order).svp = s.svp ∧
    (s.resetLatch order).peers = s.peers ∧ (s.resetLatch order).own = s.own ∧ (s.resetLatch order).tmu = s.tmu ∧
    (s.resetLatch order).awaitMclk = s.awaitMclk ∧ (s.resetLatch order).pulses = s.pulses ∧
    (s.resetLatch order).channels = s.channels ∧ (s.resetLatch order).groups = s.groups ∧
    (s.resetLatch order).captures = s.captures ∧ (s.resetLatch order).hmt = s.hmt ∧ (s.resetLatch order).scw = s.scw := by
  generalize h : (s.resetLatch order) = t
  dsimp only [State.resetLatch] at h
  subst h
  simp

@[simp] theorem State.superviseSpeed_frame (v : Nat) (order : List Dependant) :
    (s.superviseSpeed v order).pending = s.pending ∧ (s.superviseSpeed v order).stationNo = s.stationNo ∧
    (s.superviseSpeed v order).config = s.config ∧ (s.superviseSpeed v order).svp = s.svp ∧
    (s.superviseSpeed v order).peers = s.peers ∧ (s.superviseSpeed v order).own = s.own ∧
    (s.superviseSpeed v order).tmu = s.tmu ∧ (s.superviseSpeed v order).awaitMclk = s.awaitMclk ∧
    (s.superviseSpeed v order).pulses = s.pulses ∧ (s.superviseSpeed v order).channels = s.channels ∧
    (s.superviseSpeed v order).groups = s.groups ∧ (s.superviseSpeed v order).captures = s.captures ∧
    (s.superviseSpeed v order).hmt = s.hmt ∧ (s.superviseSpeed v order).scw = s.scw := by
  generalize h : (s.superviseSpeed v order) = t
  dsimp only [State.superviseSpeed] at h
  (repeat' split at h) <;> subst h <;> simp

@[simp] theorem State.toothStamp_frame (c : Count) (b : Bool) (order : List Dependant) :
    (s.toothStamp c b order).pending = s.pending ∧ (s.toothStamp c b order).stationNo = s.stationNo ∧
    (s.toothStamp c b order).config = s.config ∧ (s.toothStamp c b order).svp = s.svp ∧
    (s.toothStamp c b order).peers = s.peers ∧ (s.toothStamp c b order).own = s.own ∧
    (s.toothStamp c b order).tmu = s.tmu ∧ (s.toothStamp c b order).awaitMclk = s.awaitMclk ∧
    (s.toothStamp c b order).pulses = s.pulses ∧ (s.toothStamp c b order).channels = s.channels ∧
    (s.toothStamp c b order).groups = s.groups ∧ (s.toothStamp c b order).captures = s.captures ∧
    (s.toothStamp c b order).hmt = s.hmt ∧ (s.toothStamp c b order).scw = s.scw := by
  generalize h : (s.toothStamp c b order) = t
  dsimp only [State.toothStamp] at h
  (repeat' split at h) <;> subst h <;> simp

@[simp] theorem State.checkWheel_frame (n : Nat) :
    (s.checkWheel n).pending = s.pending ∧ (s.checkWheel n).stationNo = s.stationNo ∧
    (s.checkWheel n).config = s.config ∧ (s.checkWheel n).svp = s.svp ∧ (s.checkWheel n).lif = s.lif ∧
    (s.checkWheel n).peers = s.peers ∧ (s.checkWheel n).own = s.own ∧ (s.checkWheel n).tmu = s.tmu ∧
    (s.checkWheel n).awaitMclk = s.awaitMclk ∧ (s.checkWheel n).pulses = s.pulses ∧
    (s.checkWheel n).channels = s.channels ∧ (s.checkWheel n).groups = s.groups ∧
    (s.checkWheel n).captures = s.captures ∧ (s.checkWheel n).hmt = s.hmt ∧ (s.checkWheel n).scw = s.scw ∧
    (s.checkWheel n).spl = s.spl ∧ (s.checkWheel n).units = s.units ∧ (s.checkWheel n).outputs = s.outputs ∧
    (s.checkWheel n).freeNext = s.freeNext := by
  generalize h : (s.checkWheel n) = t
  dsimp only [State.checkWheel] at h
  (repeat' split at h) <;> subst h <;> simp

@[simp] theorem State.teethless_frame (order : List Dependant) :
    (s.teethless order).pending = s.pending ∧ (s.teethless order).stationNo = s.stationNo ∧
    (s.teethless order).config = s.config ∧ (s.teethless order).svp = s.svp ∧ (s.teethless order).peers = s.peers ∧
    (s.teethless order).own = s.own ∧ (s.teethless order).tmu = s.tmu ∧ (s.teethless order).awaitMclk = s.awaitMclk ∧
    (s.teethless order).pulses = s.pulses ∧ (s.teethless order).channels = s.channels ∧
    (s.teethless order).groups = s.groups ∧ (s.teethless order).captures = s.captures ∧
    (s.teethless order).hmt = s.hmt ∧ (s.teethless order).scw = s.scw := by
  generalize h : (s.teethless order) = t
  dsimp only [State.teethless] at h
  subst h
  simp

@[simp] theorem State.noteRecord_frame (c : Count) :
    (s.noteRecord c).pending = s.pending ∧ (s.noteRecord c).stationNo = s.stationNo ∧
    (s.noteRecord c).config = s.config ∧ (s.noteRecord c).svp = s.svp ∧ (s.noteRecord c).attention = s.attention ∧
    (s.noteRecord c).lif = s.lif ∧ (s.noteRecord c).peers = s.peers ∧ (s.noteRecord c).own = s.own ∧
    (s.noteRecord c).tmu = s.tmu ∧ (s.noteRecord c).awaitMclk = s.awaitMclk ∧ (s.noteRecord c).pulses = s.pulses ∧
    (s.noteRecord c).channels = s.channels ∧ (s.noteRecord c).groups = s.groups ∧
    (s.noteRecord c).captures = s.captures ∧ (s.noteRecord c).hmt = s.hmt ∧ (s.noteRecord c).scw = s.scw ∧
    (s.noteRecord c).spl = s.spl ∧ (s.noteRecord c).units = s.units ∧ (s.noteRecord c).outputs = s.outputs ∧
    (s.noteRecord c).freeNext = s.freeNext :=
  ⟨rfl, rfl, rfl, rfl, rfl, rfl, rfl, rfl, rfl, rfl, rfl, rfl, rfl, rfl, rfl, rfl, rfl, rfl, rfl, rfl⟩

@[simp] theorem State.revolutionSpeed_frame (n : Nat) (order : List Dependant) :
    (s.revolutionSpeed n order).pending = s.pending ∧ (s.revolutionSpeed n order).stationNo = s.stationNo ∧
    (s.revolutionSpeed n order).config = s.config ∧ (s.revolutionSpeed n order).svp = s.svp ∧
    (s.revolutionSpeed n order).peers = s.peers ∧ (s.revolutionSpeed n order).own = s.own ∧
    (s.revolutionSpeed n order).tmu = s.tmu ∧ (s.revolutionSpeed n order).awaitMclk = s.awaitMclk ∧
    (s.revolutionSpeed n order).pulses = s.pulses ∧ (s.revolutionSpeed n order).channels = s.channels ∧
    (s.revolutionSpeed n order).groups = s.groups ∧ (s.revolutionSpeed n order).captures = s.captures ∧
    (s.revolutionSpeed n order).hmt = s.hmt ∧ (s.revolutionSpeed n order).scw = s.scw := by
  generalize h : (s.revolutionSpeed n order) = t
  dsimp only [State.revolutionSpeed] at h
  (repeat' split at h) <;> subst h <;> simp

@[simp] theorem State.revolutionRecord_frame (r : CaptureRecord) (b : Bool) (order : List Dependant) :
    (s.revolutionRecord r b order).pending = s.pending ∧ (s.revolutionRecord r b order).stationNo = s.stationNo ∧
    (s.revolutionRecord r b order).config = s.config ∧ (s.revolutionRecord r b order).svp = s.svp ∧
    (s.revolutionRecord r b order).peers = s.peers ∧ (s.revolutionRecord r b order).own = s.own ∧
    (s.revolutionRecord r b order).tmu = s.tmu ∧ (s.revolutionRecord r b order).awaitMclk = s.awaitMclk ∧
    (s.revolutionRecord r b order).pulses = s.pulses ∧ (s.revolutionRecord r b order).channels = s.channels ∧
    (s.revolutionRecord r b order).groups = s.groups ∧ (s.revolutionRecord r b order).captures = s.captures ∧
    (s.revolutionRecord r b order).hmt = s.hmt ∧ (s.revolutionRecord r b order).scw = s.scw := by
  generalize h : (s.revolutionRecord r b order) = t
  dsimp only [State.revolutionRecord] at h
  (repeat' split at h) <;> subst h <;> simp

end Sys2Proof.Machine
end

