-- ==== Sys2Proof/Laws/FramesLine.lean ====
section
/-! SUPPORT. What the operations of line time, of the station line and of the entry to RUN leave unchanged: one lemma for each operation, which simp reads as one rule for each field. -/

namespace Sys2Proof.Machine


variable (s : State)

@[simp] theorem State.deliverStep_frame (e : StepEvent) (d : Dependant) :
    (State.deliverStep e s d).pending = s.pending ∧ (State.deliverStep e s d).stationNo = s.stationNo ∧
    (State.deliverStep e s d).config = s.config ∧ (State.deliverStep e s d).svp = s.svp ∧
    (State.deliverStep e s d).peers = s.peers ∧ (State.deliverStep e s d).own = s.own ∧
    (State.deliverStep e s d).tmu = s.tmu ∧ (State.deliverStep e s d).awaitMclk = s.awaitMclk ∧
    (State.deliverStep e s d).pulses = s.pulses ∧ (State.deliverStep e s d).captures = s.captures ∧
    (State.deliverStep e s d).tsv = s.tsv ∧ (State.deliverStep e s d).hmt = s.hmt := by
  generalize h : (State.deliverStep e s d) = t
  dsimp only [State.deliverStep] at h
  (repeat' split at h) <;> subst h <;> simp

@[simp] theorem State.deliverSteps_frame (e : StepEvent) (order : List Dependant) :
    (s.deliverSteps e order).pending = s.pending ∧ (s.deliverSteps e order).stationNo = s.stationNo ∧
    (s.deliverSteps e order).config = s.config ∧ (s.deliverSteps e order).svp = s.svp ∧
    (s.deliverSteps e order).peers = s.peers ∧ (s.deliverSteps e order).own = s.own ∧
    (s.deliverSteps e order).tmu = s.tmu ∧ (s.deliverSteps e order).awaitMclk = s.awaitMclk ∧
    (s.deliverSteps e order).pulses = s.pulses ∧ (s.deliverSteps e order).captures = s.captures ∧
    (s.deliverSteps e order).tsv = s.tsv ∧ (s.deliverSteps e order).hmt = s.hmt := by
  simp only [State.deliverSteps]
  and_intros
  all_goals exact foldl_keeps (State.deliverStep e) _ (by intro s d; simp) _ _

@[simp] theorem State.advanceBy_frame (d : LineTime) (n : Nat) :
    (s.advanceBy d n).pending = s.pending ∧ (s.advanceBy d n).stationNo = s.stationNo ∧
    (s.advanceBy d n).config = s.config ∧ (s.advanceBy d n).svp = s.svp ∧ (s.advanceBy d n).lif = s.lif ∧
    (s.advanceBy d n).peers = s.peers ∧ (s.advanceBy d n).own = s.own ∧ (s.advanceBy d n).awaitMclk = s.awaitMclk ∧
    (s.advanceBy d n).pulses = s.pulses ∧ (s.advanceBy d n).channels = s.channels ∧
    (s.advanceBy d n).groups = s.groups ∧ (s.advanceBy d n).captures = s.captures ∧ (s.advanceBy d n).tsv = s.tsv ∧
    (s.advanceBy d n).hmt = s.hmt ∧ (s.advanceBy d n).scw = s.scw ∧ (s.advanceBy d n).spl = s.spl ∧
    (s.advanceBy d n).units = s.units ∧ (s.advanceBy d n).outputs = s.outputs ∧
    (s.advanceBy d n).freeNext = s.freeNext := by
  generalize h : (s.advanceBy d n) = t
  dsimp only [State.advanceBy] at h
  (repeat' split at h) <;> subst h <;> simp

@[simp] theorem State.joinBy_frame (d : LineTime) (n : Nat) (order : List Dependant) :
    (s.joinBy d n order).pending = s.pending ∧ (s.joinBy d n order).stationNo = s.stationNo ∧
    (s.joinBy d n order).config = s.config ∧ (s.joinBy d n order).svp = s.svp ∧
    (s.joinBy d n order).peers = s.peers ∧ (s.joinBy d n order).own = s.own ∧
    (s.joinBy d n order).awaitMclk = s.awaitMclk ∧ (s.joinBy d n order).pulses = s.pulses ∧
    (s.joinBy d n order).captures = s.captures ∧ (s.joinBy d n order).tsv = s.tsv ∧ (s.joinBy d n order).hmt = s.hmt := by
  generalize h : (s.joinBy d n order) = t
  dsimp only [State.joinBy] at h
  (repeat' split at h) <;> subst h <;> simp

@[simp] theorem State.stepBy_frame (d : LineTime) (n : Nat) (order : List Dependant) :
    (s.stepBy d n order).pending = s.pending ∧ (s.stepBy d n order).stationNo = s.stationNo ∧
    (s.stepBy d n order).config = s.config ∧ (s.stepBy d n order).svp = s.svp ∧
    (s.stepBy d n order).peers = s.peers ∧ (s.stepBy d n order).own = s.own ∧
    (s.stepBy d n order).awaitMclk = s.awaitMclk ∧ (s.stepBy d n order).pulses = s.pulses ∧
    (s.stepBy d n order).captures = s.captures ∧ (s.stepBy d n order).tsv = s.tsv ∧ (s.stepBy d n order).hmt = s.hmt := by
  generalize h : (s.stepBy d n order) = t
  dsimp only [State.stepBy] at h
  subst h
  simp

@[simp] theorem State.stray_frame (n : StationNo) (d : Nat) :
    (s.stray n d).pending = s.pending ∧ (s.stray n d).stationNo = s.stationNo ∧ (s.stray n d).config = s.config ∧
    (s.stray n d).svp = s.svp ∧ (s.stray n d).lif = s.lif ∧ (s.stray n d).own = s.own ∧ (s.stray n d).tmu = s.tmu ∧
    (s.stray n d).awaitMclk = s.awaitMclk ∧ (s.stray n d).pulses = s.pulses ∧ (s.stray n d).channels = s.channels ∧
    (s.stray n d).groups = s.groups ∧ (s.stray n d).captures = s.captures ∧ (s.stray n d).tsv = s.tsv ∧
    (s.stray n d).hmt = s.hmt ∧ (s.stray n d).scw = s.scw ∧ (s.stray n d).spl = s.spl ∧
    (s.stray n d).units = s.units ∧ (s.stray n d).outputs = s.outputs ∧ (s.stray n d).freeNext = s.freeNext := by
  generalize h : (s.stray n d) = t
  dsimp only [State.stray] at h
  (repeat' split at h) <;> subst h <;> simp

@[simp] theorem State.timeHeard_frame (n : StationNo) (a b : LineTime) (j : Bool) (order : List Dependant) :
    (s.timeHeard n a b j order).pending = s.pending ∧ (s.timeHeard n a b j order).stationNo = s.stationNo ∧
    (s.timeHeard n a b j order).config = s.config ∧ (s.timeHeard n a b j order).svp = s.svp ∧
    (s.timeHeard n a b j order).own = s.own ∧ (s.timeHeard n a b j order).awaitMclk = s.awaitMclk ∧
    (s.timeHeard n a b j order).pulses = s.pulses ∧ (s.timeHeard n a b j order).captures = s.captures ∧
    (s.timeHeard n a b j order).tsv = s.tsv ∧ (s.timeHeard n a b j order).hmt = s.hmt := by
  generalize h : (s.timeHeard n a b j order) = t
  dsimp only [State.timeHeard] at h
  (repeat' split at h) <;> subst h <;> simp

@[simp] theorem State.fallSilent_frame (n : StationNo) :
    (s.fallSilent n).pending = s.pending ∧ (s.fallSilent n).stationNo = s.stationNo ∧
    (s.fallSilent n).config = s.config ∧ (s.fallSilent n).svp = s.svp ∧ (s.fallSilent n).own = s.own ∧
    (s.fallSilent n).tmu = s.tmu ∧ (s.fallSilent n).awaitMclk = s.awaitMclk ∧ (s.fallSilent n).pulses = s.pulses ∧
    (s.fallSilent n).channels = s.channels ∧ (s.fallSilent n).groups = s.groups ∧
    (s.fallSilent n).captures = s.captures ∧ (s.fallSilent n).tsv = s.tsv ∧ (s.fallSilent n).hmt = s.hmt ∧
    (s.fallSilent n).scw = s.scw ∧ (s.fallSilent n).units = s.units ∧ (s.fallSilent n).outputs = s.outputs := by
  generalize h : (s.fallSilent n) = t
  dsimp only [State.fallSilent] at h
  subst h
  simp

@[simp] theorem State.writeRow_frame (n : StationNo) (r : PeerRow) :
    (s.writeRow n r).pending = s.pending ∧ (s.writeRow n r).stationNo = s.stationNo ∧
    (s.writeRow n r).config = s.config ∧ (s.writeRow n r).svp = s.svp ∧ (s.writeRow n r).attention = s.attention ∧
    (s.writeRow n r).own = s.own ∧ (s.writeRow n r).tmu = s.tmu ∧ (s.writeRow n r).awaitMclk = s.awaitMclk ∧
    (s.writeRow n r).pulses = s.pulses ∧ (s.writeRow n r).channels = s.channels ∧ (s.writeRow n r).groups = s.groups ∧
    (s.writeRow n r).captures = s.captures ∧ (s.writeRow n r).tsv = s.tsv ∧ (s.writeRow n r).hmt = s.hmt ∧
    (s.writeRow n r).scw = s.scw ∧ (s.writeRow n r).units = s.units ∧ (s.writeRow n r).outputs = s.outputs := by
  generalize h : (s.writeRow n r) = t
  dsimp only [State.writeRow] at h
  (repeat' split at h) <;> subst h <;> simp

@[simp] theorem State.hearTime_frame (n : StationNo) (p : List Byte) (order : List Dependant) :
    (s.hearTime n p order).pending = s.pending ∧ (s.hearTime n p order).stationNo = s.stationNo ∧
    (s.hearTime n p order).config = s.config ∧ (s.hearTime n p order).svp = s.svp ∧
    (s.hearTime n p order).own = s.own ∧ (s.hearTime n p order).awaitMclk = s.awaitMclk ∧
    (s.hearTime n p order).pulses = s.pulses ∧ (s.hearTime n p order).captures = s.captures ∧
    (s.hearTime n p order).hmt = s.hmt := by
  generalize h : (s.hearTime n p order) = t
  dsimp only [State.hearTime] at h
  (repeat' split at h) <;> subst h <;> simp

@[simp] theorem State.hearTrip_frame (n : StationNo) (p : List Byte) (order : List Dependant) :
    (s.hearTrip n p order).pending = s.pending ∧ (s.hearTrip n p order).stationNo = s.stationNo ∧
    (s.hearTrip n p order).config = s.config ∧ (s.hearTrip n p order).svp = s.svp ∧
    (s.hearTrip n p order).own = s.own ∧ (s.hearTrip n p order).tmu = s.tmu ∧
    (s.hearTrip n p order).awaitMclk = s.awaitMclk ∧ (s.hearTrip n p order).pulses = s.pulses ∧
    (s.hearTrip n p order).channels = s.channels ∧ (s.hearTrip n p order).groups = s.groups ∧
    (s.hearTrip n p order).captures = s.captures ∧ (s.hearTrip n p order).hmt = s.hmt ∧
    (s.hearTrip n p order).scw = s.scw := by
  generalize h : (s.hearTrip n p order) = t
  dsimp only [State.hearTrip] at h
  subst h
  simp

@[simp] theorem State.hearClear_frame (n : StationNo) (p : List Byte) (order : List Dependant) :
    (s.hearClear n p order).pending = s.pending ∧ (s.hearClear n p order).stationNo = s.stationNo ∧
    (s.hearClear n p order).config = s.config ∧ (s.hearClear n p order).svp = s.svp ∧
    (s.hearClear n p order).own = s.own ∧ (s.hearClear n p order).tmu = s.tmu ∧
    (s.hearClear n p order).awaitMclk = s.awaitMclk ∧ (s.hearClear n p order).pulses = s.pulses ∧
    (s.hearClear n p order).channels = s.channels ∧ (s.hearClear n p order).groups = s.groups ∧
    (s.hearClear n p order).captures = s.captures ∧ (s.hearClear n p order).hmt = s.hmt ∧
    (s.hearClear n p order).scw = s.scw := by
  generalize h : (s.hearClear n p order) = t
  dsimp only [State.hearClear] at h
  subst h
  simp

@[simp] theorem State.hear_frame (k : Nat) (n : StationNo) (p : List Byte) (order : List Dependant) :
    (s.hear k n p order).pending = s.pending ∧ (s.hear k n p order).stationNo = s.stationNo ∧
    (s.hear k n p order).config = s.config ∧ (s.hear k n p order).svp = s.svp ∧ (s.hear k n p order).own = s.own ∧
    (s.hear k n p order).awaitMclk = s.awaitMclk ∧ (s.hear k n p order).pulses = s.pulses ∧
    (s.hear k n p order).captures = s.captures ∧ (s.hear k n p order).hmt = s.hmt := by
  generalize h : (s.hear k n p order) = t
  dsimp only [State.hear] at h
  (repeat' split at h) <;> subst h <;> simp

@[simp] theorem State.validate_frame (k : Nat) (n : StationNo) (p : List Byte) (order : List Dependant) :
    (s.validate k n p order).pending = s.pending ∧ (s.validate k n p order).stationNo = s.stationNo ∧
    (s.validate k n p order).config = s.config ∧ (s.validate k n p order).svp = s.svp ∧
    (s.validate k n p order).own = s.own ∧ (s.validate k n p order).awaitMclk = s.awaitMclk ∧
    (s.validate k n p order).pulses = s.pulses ∧ (s.validate k n p order).captures = s.captures ∧
    (s.validate k n p order).hmt = s.hmt := by
  generalize h : (s.validate k n p order) = t
  dsimp only [State.validate] at h
  (repeat' split at h) <;> subst h <;> simp

@[simp] theorem State.frameComplete_frame (b : List Byte) (o : Bool) (c : Byte) (order : List Dependant) :
    (s.frameComplete b o c order).pending = s.pending ∧ (s.frameComplete b o c order).stationNo = s.stationNo ∧
    (s.frameComplete b o c order).config = s.config ∧ (s.frameComplete b o c order).svp = s.svp ∧
    (s.frameComplete b o c order).own = s.own ∧ (s.frameComplete b o c order).awaitMclk = s.awaitMclk ∧
    (s.frameComplete b o c order).pulses = s.pulses ∧ (s.frameComplete b o c order).captures = s.captures ∧
    (s.frameComplete b o c order).hmt = s.hmt := by
  generalize h : (s.frameComplete b o c order) = t
  dsimp only [State.frameComplete] at h
  (repeat' split at h) <;> subst h <;> simp

@[simp] theorem State.tellSent_frame (n : Notice) :
    (s.tellSent n).pending = s.pending ∧ (s.tellSent n).stationNo = s.stationNo ∧ (s.tellSent n).config = s.config ∧
    (s.tellSent n).svp = s.svp ∧ (s.tellSent n).attention = s.attention ∧ (s.tellSent n).lif = s.lif ∧
    (s.tellSent n).peers = s.peers ∧ (s.tellSent n).own = s.own ∧ (s.tellSent n).tmu = s.tmu ∧
    (s.tellSent n).awaitMclk = s.awaitMclk ∧ (s.tellSent n).pulses = s.pulses ∧ (s.tellSent n).channels = s.channels ∧
    (s.tellSent n).groups = s.groups ∧ (s.tellSent n).captures = s.captures ∧ (s.tellSent n).tsv = s.tsv ∧
    (s.tellSent n).hmt = s.hmt ∧ (s.tellSent n).scw = s.scw ∧ (s.tellSent n).units = s.units ∧
    (s.tellSent n).outputs = s.outputs ∧ (s.tellSent n).freeNext = s.freeNext := by
  generalize h : (s.tellSent n) = t
  dsimp only [State.tellSent] at h
  (repeat' split at h) <;> subst h <;> simp

@[simp] theorem State.tellDiscarded_frame (n : Notice) :
    (s.tellDiscarded n).pending = s.pending ∧ (s.tellDiscarded n).stationNo = s.stationNo ∧
    (s.tellDiscarded n).config = s.config ∧ (s.tellDiscarded n).svp = s.svp ∧ (s.tellDiscarded n).peers = s.peers ∧
    (s.tellDiscarded n).own = s.own ∧ (s.tellDiscarded n).tmu = s.tmu ∧ (s.tellDiscarded n).awaitMclk = s.awaitMclk ∧
    (s.tellDiscarded n).pulses = s.pulses ∧ (s.tellDiscarded n).channels = s.channels ∧
    (s.tellDiscarded n).groups = s.groups ∧ (s.tellDiscarded n).captures = s.captures ∧
    (s.tellDiscarded n).tsv = s.tsv ∧ (s.tellDiscarded n).hmt = s.hmt ∧ (s.tellDiscarded n).scw = s.scw ∧
    (s.tellDiscarded n).units = s.units ∧ (s.tellDiscarded n).outputs = s.outputs ∧
    (s.tellDiscarded n).freeNext = s.freeNext := by
  generalize h : (s.tellDiscarded n) = t
  dsimp only [State.tellDiscarded] at h
  (repeat' split at h) <;> subst h <;> simp

@[simp] theorem State.jam_frame (n : Notice) :
    (s.jam n).pending = s.pending ∧ (s.jam n).stationNo = s.stationNo ∧ (s.jam n).config = s.config ∧
    (s.jam n).svp = s.svp ∧ (s.jam n).peers = s.peers ∧ (s.jam n).own = s.own ∧ (s.jam n).tmu = s.tmu ∧
    (s.jam n).awaitMclk = s.awaitMclk ∧ (s.jam n).pulses = s.pulses ∧ (s.jam n).channels = s.channels ∧
    (s.jam n).groups = s.groups ∧ (s.jam n).captures = s.captures ∧ (s.jam n).tsv = s.tsv ∧ (s.jam n).hmt = s.hmt ∧
    (s.jam n).scw = s.scw ∧ (s.jam n).units = s.units ∧ (s.jam n).outputs = s.outputs ∧
    (s.jam n).freeNext = s.freeNext := by
  generalize h : (s.jam n) = t
  dsimp only [State.jam] at h
  subst h
  simp

@[simp] theorem State.silenceCheck_frame (n : StationNo) :
    (s.silenceCheck n).pending = s.pending ∧ (s.silenceCheck n).stationNo = s.stationNo ∧
    (s.silenceCheck n).config = s.config ∧ (s.silenceCheck n).svp = s.svp ∧ (s.silenceCheck n).own = s.own ∧
    (s.silenceCheck n).tmu = s.tmu ∧ (s.silenceCheck n).awaitMclk = s.awaitMclk ∧
    (s.silenceCheck n).pulses = s.pulses ∧ (s.silenceCheck n).channels = s.channels ∧
    (s.silenceCheck n).groups = s.groups ∧ (s.silenceCheck n).captures = s.captures ∧ (s.silenceCheck n).tsv = s.tsv ∧
    (s.silenceCheck n).hmt = s.hmt ∧ (s.silenceCheck n).scw = s.scw ∧ (s.silenceCheck n).units = s.units ∧
    (s.silenceCheck n).outputs = s.outputs := by
  generalize h : (s.silenceCheck n) = t
  dsimp only [State.silenceCheck] at h
  (repeat' split at h) <;> subst h <;> simp

@[simp] theorem State.setStation_frame (c : StationConfig) :
    (s.setStation c).pending = s.pending ∧ (s.setStation c).stationNo = s.stationNo ∧ (s.setStation c).svp = s.svp ∧
    (s.setStation c).own = s.own ∧ (s.setStation c).tmu = s.tmu ∧ (s.setStation c).awaitMclk = s.awaitMclk ∧
    (s.setStation c).pulses = s.pulses ∧ (s.setStation c).channels = s.channels ∧ (s.setStation c).groups = s.groups ∧
    (s.setStation c).captures = s.captures ∧ (s.setStation c).tsv = s.tsv ∧ (s.setStation c).hmt = s.hmt ∧
    (s.setStation c).scw = s.scw ∧ (s.setStation c).units = s.units ∧ (s.setStation c).outputs = s.outputs := by
  simp only [State.setStation]
  and_intros
  all_goals
    refine (foldl_keeps State.silenceCheck _ ?_ _ _).trans rfl
    intro s n; simp

@[simp] theorem State.enterGroup_frame (g : GroupNo) :
    (s.enterGroup g).pending = s.pending ∧ (s.enterGroup g).stationNo = s.stationNo ∧
    (s.enterGroup g).config = s.config ∧ (s.enterGroup g).svp = s.svp ∧ (s.enterGroup g).attention = s.attention ∧
    (s.enterGroup g).lif = s.lif ∧ (s.enterGroup g).peers = s.peers ∧ (s.enterGroup g).own = s.own ∧
    (s.enterGroup g).tmu = s.tmu ∧ (s.enterGroup g).awaitMclk = s.awaitMclk ∧ (s.enterGroup g).pulses = s.pulses ∧
    (s.enterGroup g).channels = s.channels ∧ (s.enterGroup g).captures = s.captures ∧ (s.enterGroup g).tsv = s.tsv ∧
    (s.enterGroup g).hmt = s.hmt ∧ (s.enterGroup g).scw = s.scw ∧ (s.enterGroup g).spl = s.spl ∧
    (s.enterGroup g).units = s.units ∧ (s.enterGroup g).outputs = s.outputs ∧ (s.enterGroup g).freeNext = s.freeNext := by
  generalize h : (s.enterGroup g) = t
  dsimp only [State.enterGroup] at h
  (repeat' split at h) <;> subst h <;> simp

@[simp] theorem State.enterCapture_frame (u : CaptureNo) :
    (s.enterCapture u).pending = s.pending ∧ (s.enterCapture u).stationNo = s.stationNo ∧
    (s.enterCapture u).config = s.config ∧ (s.enterCapture u).svp = s.svp ∧
    (s.enterCapture u).attention = s.attention ∧ (s.enterCapture u).lif = s.lif ∧
    (s.enterCapture u).peers = s.peers ∧ (s.enterCapture u).own = s.own ∧ (s.enterCapture u).tmu = s.tmu ∧
    (s.enterCapture u).awaitMclk = s.awaitMclk ∧ (s.enterCapture u).pulses = s.pulses ∧
    (s.enterCapture u).channels = s.channels ∧ (s.enterCapture u).groups = s.groups ∧ (s.enterCapture u).tsv = s.tsv ∧
    (s.enterCapture u).hmt = s.hmt ∧ (s.enterCapture u).scw = s.scw ∧ (s.enterCapture u).spl = s.spl ∧
    (s.enterCapture u).units = s.units ∧ (s.enterCapture u).outputs = s.outputs ∧
    (s.enterCapture u).freeNext = s.freeNext :=
  ⟨rfl, rfl, rfl, rfl, rfl, rfl, rfl, rfl, rfl, rfl, rfl, rfl, rfl, rfl, rfl, rfl, rfl, rfl, rfl, rfl⟩

@[simp] theorem State.enterTurbine_frame :
    (s.enterTurbine).pending = s.pending ∧ (s.enterTurbine).stationNo = s.stationNo ∧
    (s.enterTurbine).config = s.config ∧ (s.enterTurbine).svp = s.svp ∧ (s.enterTurbine).attention = s.attention ∧
    (s.enterTurbine).lif = s.lif ∧ (s.enterTurbine).peers = s.peers ∧ (s.enterTurbine).own = s.own ∧
    (s.enterTurbine).tmu = s.tmu ∧ (s.enterTurbine).awaitMclk = s.awaitMclk ∧ (s.enterTurbine).pulses = s.pulses ∧
    (s.enterTurbine).channels = s.channels ∧ (s.enterTurbine).groups = s.groups ∧
    (s.enterTurbine).captures = s.captures ∧ (s.enterTurbine).hmt = s.hmt ∧ (s.enterTurbine).scw = s.scw ∧
    (s.enterTurbine).spl = s.spl ∧ (s.enterTurbine).units = s.units ∧ (s.enterTurbine).outputs = s.outputs ∧
    (s.enterTurbine).freeNext = s.freeNext :=
  ⟨rfl, rfl, rfl, rfl, rfl, rfl, rfl, rfl, rfl, rfl, rfl, rfl, rfl, rfl, rfl, rfl, rfl, rfl, rfl, rfl⟩

@[simp] theorem State.enterWatch_frame :
    (s.enterWatch).pending = s.pending ∧ (s.enterWatch).stationNo = s.stationNo ∧ (s.enterWatch).config = s.config ∧
    (s.enterWatch).svp = s.svp ∧ (s.enterWatch).attention = s.attention ∧ (s.enterWatch).lif = s.lif ∧
    (s.enterWatch).peers = s.peers ∧ (s.enterWatch).own = s.own ∧ (s.enterWatch).tmu = s.tmu ∧
    (s.enterWatch).awaitMclk = s.awaitMclk ∧ (s.enterWatch).pulses = s.pulses ∧ (s.enterWatch).channels = s.channels ∧
    (s.enterWatch).groups = s.groups ∧ (s.enterWatch).captures = s.captures ∧ (s.enterWatch).tsv = s.tsv ∧
    (s.enterWatch).hmt = s.hmt ∧ (s.enterWatch).spl = s.spl ∧ (s.enterWatch).units = s.units ∧
    (s.enterWatch).outputs = s.outputs ∧ (s.enterWatch).freeNext = s.freeNext := by
  generalize h : (s.enterWatch) = t
  dsimp only [State.enterWatch] at h
  (repeat' split at h) <;> subst h <;> simp

@[simp] theorem State.enterRun_frame :
    (s.enterRun).pending = s.pending ∧ (s.enterRun).stationNo = s.stationNo ∧ (s.enterRun).config = s.config ∧
    (s.enterRun).attention = s.attention ∧ (s.enterRun).peers = s.peers ∧ (s.enterRun).own = s.own ∧
    (s.enterRun).channels = s.channels ∧ (s.enterRun).hmt = s.hmt ∧ (s.enterRun).spl = s.spl ∧
    (s.enterRun).units = s.units ∧ (s.enterRun).outputs = s.outputs ∧ (s.enterRun).freeNext = s.freeNext := by
  simp only [State.enterRun, groupNumbers, captureNumbers, List.foldl_cons, List.foldl_nil]
  simp

end Sys2Proof.Machine
end

