-- ==== Sys2Proof/Laws/Exec.lean ====
section
/-! SUPPORT. What each command leaves unchanged: one lemma for each meaning, over the parts of the state. -/

namespace Sys2Proof.Machine

/-- A property of every part, part by part. -/
theorem Part.all (P : Part → Prop) : (∀ p, P p) ↔
    P .stationNo ∧ P .config ∧ P .svp ∧ P .attention ∧ P .lif ∧ P .peers ∧ P .own ∧ P .tmu ∧ P .awaitMclk ∧ P .channels
      ∧ P .groups ∧ P .pulses ∧ P .captures ∧ P .tsv ∧ P .hmt ∧ P .scw ∧ P .spl ∧ P .units ∧ P .outputs ∧ P .freeNext := by
  refine ⟨fun h => ⟨h _, h _, h _, h _, h _, h _, h _, h _, h _, h _, h _, h _, h _, h _, h _, h _, h _, h _, h _, h _⟩, ?_⟩
  rintro ⟨h1, h2, h3, h4, h5, h6, h7, h8, h9, h10, h11, h12, h13, h14, h15, h16, h17, h18, h19, h20⟩ p
  cases p <;> assumption

/-- A state changes nothing of itself. -/
theorem State.onlyChanges_refl (s : State) (parts : List Part) : s.onlyChanges s parts :=
  ⟨rfl, fun p _ => by cases p <;> rfl⟩

/-- Two changes one after the other change the parts of both. -/
theorem State.onlyChanges_trans {s t u : State} {parts : List Part} (h : s.onlyChanges t parts)
    (g : t.onlyChanges u parts) : s.onlyChanges u parts := by
  refine ⟨g.1.trans h.1, fun p hp => ?_⟩
  have a := h.2 p hp
  have b := g.2 p hp
  cases p <;> exact b.trans a

/-- A request changes the service port and what carrying it out changes (R197). -/
theorem State.request_only (s : State) (code : Nat) (cls : RequestClass) (lengths : List Nat) (payload : List Byte)
    (act : State → Answer) (parts : List Part) (svp : Part.svp ∈ parts)
    (carried : ∀ s : State, s.onlyChanges (act s).1 parts) :
    s.onlyChanges (s.request code cls lengths payload act) parts := by
  have port : ∀ (s : State) (x : Svp), s.onlyChanges (s.putSvp x) parts := by
    intro s x
    refine ⟨rfl, fun p hp => ?_⟩
    cases p <;> first | rfl | exact absurd svp hp
  have served : ∀ (ok : Bool) (s : State), s.onlyChanges (State.serve cls ok act s).1 parts := by
    intro ok s
    unfold State.serve
    repeat' split
    all_goals first | exact carried s | exact s.onlyChanges_refl parts
  unfold State.request State.arrive
  split
  · exact s.onlyChanges_refl parts
  split
  · exact port s _
  · exact State.onlyChanges_trans (State.onlyChanges_trans (port s _) (served _ _)) (port _ _)

/-- The parts that a reset sets: every one but the free values (R204). -/
abbrev resetParts : List Part :=
  [.stationNo, .config, .svp, .attention, .lif, .peers, .own, .tmu, .awaitMclk, .channels, .groups, .pulses, .captures,
    .tsv, .hmt, .scw, .spl, .units, .outputs]

variable (s : State)

theorem execPowerOn_only (straps : StationNo) (serviceHigh : Bool) :
    ∃ t, execPowerOn straps serviceHigh s = .next t ∧ s.onlyChanges t resetParts := by
  refine ⟨_, rfl, ?_⟩
  simp [State.onlyChanges, Part.all, Part.same, State.resetBy, State.afterReset]

theorem execResetPin_only (straps : StationNo) (serviceHigh : Bool) (powerOnInProgress : Bool) :
    ∃ t, execResetPin straps serviceHigh powerOnInProgress s = .next t ∧ s.onlyChanges t resetParts := by
  refine ⟨_, rfl, ?_⟩
  simp [State.onlyChanges, Part.all, Part.same, State.resetBy, State.afterReset]

theorem execServiceBreak_only (straps : StationNo) (seenHigh : Bool) :
    ∃ t, execServiceBreak straps seenHigh s = .next t ∧ s.onlyChanges t resetParts := by
  suffices H : ∀ t, execServiceBreak straps seenHigh s = .next t → s.onlyChanges t resetParts from ⟨_, rfl, H _ rfl⟩
  intro t h
  dsimp only [execServiceBreak, State.resetBy, State.afterReset] at h
  injection h with h
  (repeat' split at h) <;> subst h <;> simp [State.onlyChanges, Part.all, Part.same]

theorem execBootCheckEnd_only (passed : Bool) (lineHigh : Bool) :
    ∃ t, execBootCheckEnd passed lineHigh s = .next t ∧ s.onlyChanges t [.svp, .attention, .lif, .freeNext] := by
  suffices H : ∀ t, execBootCheckEnd passed lineHigh s = .next t → s.onlyChanges t [.svp, .attention, .lif, .freeNext] from ⟨_, rfl, H _ rfl⟩
  intro t h
  dsimp only [execBootCheckEnd, State.enterConfig, State.enterFault] at h
  injection h with h
  (repeat' split at h) <;> subst h <;> simp [State.onlyChanges, Part.all, Part.same]

theorem execCharacterError_only (stopBit : Bool) :
    ∃ t, execCharacterError stopBit s = .next t ∧ s.onlyChanges t [.lif] := by
  suffices H : ∀ t, execCharacterError stopBit s = .next t → s.onlyChanges t [.lif] from ⟨_, rfl, H _ rfl⟩
  intro t h
  dsimp only [execCharacterError] at h
  injection h with h
  (repeat' split at h) <;> subst h <;> simp [State.onlyChanges, Part.all, Part.same]

theorem execLongFrame_only (length : Byte) :
    ∃ t, execLongFrame length s = .next t ∧ s.onlyChanges t [.lif] := by
  suffices H : ∀ t, execLongFrame length s = .next t → s.onlyChanges t [.lif] from ⟨_, rfl, H _ rfl⟩
  intro t h
  dsimp only [execLongFrame] at h
  injection h with h
  (repeat' split at h) <;> subst h <;> simp [State.onlyChanges, Part.all, Part.same]

theorem execGap_only :
    ∃ t, execGap s = .next t ∧ s.onlyChanges t [.lif] := by
  suffices H : ∀ t, execGap s = .next t → s.onlyChanges t [.lif] from ⟨_, rfl, H _ rfl⟩
  intro t h
  dsimp only [execGap] at h
  injection h with h
  (repeat' split at h) <;> subst h <;> simp [State.onlyChanges, Part.all, Part.same]

theorem execQuietMoment_only :
    ∃ t, execQuietMoment s = .next t ∧ s.onlyChanges t [.lif] := by
  suffices H : ∀ t, execQuietMoment s = .next t → s.onlyChanges t [.lif] from ⟨_, rfl, H _ rfl⟩
  intro t h
  dsimp only [execQuietMoment] at h
  injection h with h
  (repeat' split at h) <;> subst h <;> simp [State.onlyChanges, Part.all, Part.same]

theorem execFrameReceived_only (check : Byte) (order : List Dependant) :
    ∃ t, execFrameReceived check order s = .next t ∧ s.onlyChanges t [.attention, .lif, .peers, .tmu, .channels, .groups, .tsv, .scw, .spl, .units, .outputs, .freeNext] := by
  suffices H : ∀ t, execFrameReceived check order s = .next t → s.onlyChanges t [.attention, .lif, .peers, .tmu, .channels, .groups, .tsv, .scw, .spl, .units, .outputs, .freeNext] from ⟨_, rfl, H _ rfl⟩
  intro t h
  dsimp only [execFrameReceived] at h
  injection h with h
  (repeat' split at h) <;> subst h <;> simp [State.onlyChanges, Part.all, Part.same]

theorem execNoticeStart_only :
    ∃ t, execNoticeStart s = .next t ∧ s.onlyChanges t [.lif] := by
  suffices H : ∀ t, execNoticeStart s = .next t → s.onlyChanges t [.lif] from ⟨_, rfl, H _ rfl⟩
  intro t h
  dsimp only [execNoticeStart] at h
  injection h with h
  (repeat' split at h) <;> subst h <;> simp [State.onlyChanges, Part.all, Part.same]

theorem execCollision_only :
    ∃ t, execCollision s = .next t ∧ s.onlyChanges t [.attention, .lif, .spl] := by
  suffices H : ∀ t, execCollision s = .next t → s.onlyChanges t [.attention, .lif, .spl] from ⟨_, rfl, H _ rfl⟩
  intro t h
  dsimp only [execCollision] at h
  injection h with h
  (repeat' split at h) <;> subst h <;> simp [State.onlyChanges, Part.all, Part.same]

theorem execNoticeSentWhole_only :
    ∃ t, execNoticeSentWhole s = .next t ∧ s.onlyChanges t [.lif, .own, .spl] := by
  suffices H : ∀ t, execNoticeSentWhole s = .next t → s.onlyChanges t [.lif, .own, .spl] from ⟨_, rfl, H _ rfl⟩
  intro t h
  dsimp only [execNoticeSentWhole] at h
  injection h with h
  (repeat' split at h) <;> subst h <;> simp [State.onlyChanges, Part.all, Part.same]

theorem execPeerSilence_only (station : StationNo) :
    ∃ t, execPeerSilence station s = .next t ∧ s.onlyChanges t [.attention, .lif, .peers, .spl, .freeNext] := by
  suffices H : ∀ t, execPeerSilence station s = .next t → s.onlyChanges t [.attention, .lif, .peers, .spl, .freeNext] from ⟨_, rfl, H _ rfl⟩
  intro t h
  dsimp only [execPeerSilence] at h
  injection h with h
  (repeat' split at h) <;> subst h <;> simp [State.onlyChanges, Part.all, Part.same]

theorem execSilenceTimerStop_only (station : StationNo) :
    ∃ t, execSilenceTimerStop station s = .next t ∧ s.onlyChanges t [.peers] := by
  suffices H : ∀ t, execSilenceTimerStop station s = .next t → s.onlyChanges t [.peers] from ⟨_, rfl, H _ rfl⟩
  intro t h
  dsimp only [execSilenceTimerStop] at h
  injection h with h
  (repeat' split at h) <;> subst h <;> simp [State.onlyChanges, Part.all, Part.same]

theorem execBeacon_only :
    ∃ t, execBeacon s = .next t ∧ s.onlyChanges t [.lif, .tmu, .spl] := by
  suffices H : ∀ t, execBeacon s = .next t → s.onlyChanges t [.lif, .tmu, .spl] from ⟨_, rfl, H _ rfl⟩
  intro t h
  dsimp only [execBeacon] at h
  injection h with h
  (repeat' split at h) <;> subst h <;> simp [State.onlyChanges, Part.all, Part.same]

theorem execJoinTimerExpiry_only :
    ∃ t, execJoinTimerExpiry s = .next t ∧ s.onlyChanges t [.tmu] := by
  suffices H : ∀ t, execJoinTimerExpiry s = .next t → s.onlyChanges t [.tmu] from ⟨_, rfl, H _ rfl⟩
  intro t h
  dsimp only [execJoinTimerExpiry] at h
  injection h with h
  (repeat' split at h) <;> subst h <;> simp [State.onlyChanges, Part.all, Part.same]

theorem execChannelStart_only :
    ∃ t, execChannelStart s = .next t ∧ s.onlyChanges t [.awaitMclk, .channels] := by
  refine ⟨_, rfl, ?_⟩
  split
  · refine ⟨?_, fun p hp => ?_⟩
    · refine (foldl_keeps State.startChannel State.pending ?_ _ _).trans rfl
      intro s c; simp
    · cases p
      all_goals first
        | exact absurd (by decide) hp
        | (refine (foldl_keeps State.startChannel _ ?_ _ _).trans rfl; intro s c; simp)
  · exact s.onlyChanges_refl _

theorem execMainOutput_only (channel : ChannelNo) (bits : List Bool) :
    ∃ t, execMainOutput channel bits s = .next t ∧ s.onlyChanges t [.attention, .channels, .groups] := by
  suffices H : ∀ t, execMainOutput channel bits s = .next t → s.onlyChanges t [.attention, .channels, .groups] from ⟨_, rfl, H _ rfl⟩
  intro t h
  dsimp only [execMainOutput] at h
  injection h with h
  (repeat' split at h) <;> subst h <;> simp [State.onlyChanges, Part.all, Part.same]

theorem execGuardOutput_only (channel : ChannelNo) (bits : List Bool) :
    ∃ t, execGuardOutput channel bits s = .next t ∧ s.onlyChanges t [.attention, .lif, .channels, .spl, .units, .outputs, .freeNext] := by
  suffices H : ∀ t, execGuardOutput channel bits s = .next t → s.onlyChanges t [.attention, .lif, .channels, .spl, .units, .outputs, .freeNext] from ⟨_, rfl, H _ rfl⟩
  intro t h
  dsimp only [execGuardOutput] at h
  injection h with h
  (repeat' split at h) <;> subst h <;> simp [State.onlyChanges, Part.all, Part.same]

theorem execSetBoundary_only (group : GroupNo) :
    ∃ t, execSetBoundary group s = .next t ∧ s.onlyChanges t [.attention, .channels, .groups, .scw] := by
  suffices H : ∀ t, execSetBoundary group s = .next t → s.onlyChanges t [.attention, .channels, .groups, .scw] from ⟨_, rfl, H _ rfl⟩
  intro t h
  dsimp only [execSetBoundary] at h
  injection h with h
  (repeat' split at h) <;> subst h <;> simp [State.onlyChanges, Part.all, Part.same]

theorem execSlaveEdge_only (unit : CaptureNo) (edge : PulseEdge) :
    ∃ t, execSlaveEdge unit edge s = .next t ∧ s.onlyChanges t [.attention, .lif, .pulses, .captures, .tsv, .spl, .units, .outputs, .freeNext] := by
  suffices H : ∀ t, execSlaveEdge unit edge s = .next t → s.onlyChanges t [.attention, .lif, .pulses, .captures, .tsv, .spl, .units, .outputs, .freeNext] from ⟨_, rfl, H _ rfl⟩
  intro t h
  dsimp only [execSlaveEdge, State.slaveEdgeAt] at h
  injection h with h
  (repeat' split at h) <;> subst h <;> simp [State.onlyChanges, Part.all, Part.same]

theorem execMasterEdge_only (unit : CaptureNo) (edge : PulseEdge) :
    ∃ t, execMasterEdge unit edge s = .next t ∧ s.onlyChanges t [.attention, .lif, .pulses, .captures, .tsv, .hmt, .scw, .spl, .units, .outputs, .freeNext] := by
  suffices H : ∀ t, execMasterEdge unit edge s = .next t → s.onlyChanges t [.attention, .lif, .pulses, .captures, .tsv, .hmt, .scw, .spl, .units, .outputs, .freeNext] from ⟨_, rfl, H _ rfl⟩
  intro t h
  dsimp only [execMasterEdge, State.masterEdgeAt] at h
  injection h with h
  (repeat' split at h) <;> subst h <;> simp [State.onlyChanges, Part.all, Part.same]

theorem execPollTimerExpiry_only (unit : CaptureNo) :
    ∃ t, execPollTimerExpiry unit s = .next t ∧ s.onlyChanges t [.captures] := by
  suffices H : ∀ t, execPollTimerExpiry unit s = .next t → s.onlyChanges t [.captures] from ⟨_, rfl, H _ rfl⟩
  intro t h
  dsimp only [execPollTimerExpiry] at h
  injection h with h
  (repeat' split at h) <;> subst h <;> simp [State.onlyChanges, Part.all, Part.same]

theorem execReferenceAgeing_only (which : SpeedReference) :
    ∃ t, execReferenceAgeing which s = .next t ∧ s.onlyChanges t [.tsv] := by
  suffices H : ∀ t, execReferenceAgeing which s = .next t → s.onlyChanges t [.tsv] from ⟨_, rfl, H _ rfl⟩
  intro t h
  dsimp only [execReferenceAgeing] at h
  injection h with h
  (repeat' split at h) <;> subst h <;> simp [State.onlyChanges, Part.all, Part.same]

theorem execStall_only :
    ∃ t, execStall s = .next t ∧ s.onlyChanges t [.attention, .lif, .tsv, .spl, .units, .outputs, .freeNext] := by
  suffices H : ∀ t, execStall s = .next t → s.onlyChanges t [.attention, .lif, .tsv, .spl, .units, .outputs, .freeNext] from ⟨_, rfl, H _ rfl⟩
  intro t h
  dsimp only [execStall] at h
  injection h with h
  (repeat' split at h) <;> subst h <;> simp [State.onlyChanges, Part.all, Part.same]

theorem execIntervalBoundary_only :
    ∃ t, execIntervalBoundary s = .next t ∧ s.onlyChanges t [.attention, .lif, .own, .scw, .spl, .freeNext] := by
  suffices H : ∀ t, execIntervalBoundary s = .next t → s.onlyChanges t [.attention, .lif, .own, .scw, .spl, .freeNext] from ⟨_, rfl, H _ rfl⟩
  intro t h
  dsimp only [execIntervalBoundary] at h
  injection h with h
  (repeat' split at h) <;> subst h <;> simp [State.onlyChanges, Part.all, Part.same]

theorem execOwnStartReached_only (slot : SlotNo) :
    ∃ t, execOwnStartReached slot s = .next t ∧ s.onlyChanges t [.attention, .lif, .spl, .freeNext] := by
  suffices H : ∀ t, execOwnStartReached slot s = .next t → s.onlyChanges t [.attention, .lif, .spl, .freeNext] from ⟨_, rfl, H _ rfl⟩
  intro t h
  dsimp only [execOwnStartReached] at h
  injection h with h
  (repeat' split at h) <;> subst h <;> simp [State.onlyChanges, Part.all, Part.same]

theorem execEntryExpiry_only :
    ∃ t, execEntryExpiry s = .next t ∧ s.onlyChanges t [.lif, .spl] := by
  suffices H : ∀ t, execEntryExpiry s = .next t → s.onlyChanges t [.lif, .spl] from ⟨_, rfl, H _ rfl⟩
  intro t h
  dsimp only [execEntryExpiry] at h
  injection h with h
  (repeat' split at h) <;> subst h <;> simp [State.onlyChanges, Part.all, Part.same]

theorem execSettleTimerExpiry_only (slot : SlotNo) :
    ∃ t, execSettleTimerExpiry slot s = .next t ∧ s.onlyChanges t [.attention, .lif, .spl, .units, .outputs, .freeNext] := by
  suffices H : ∀ t, execSettleTimerExpiry slot s = .next t → s.onlyChanges t [.attention, .lif, .spl, .units, .outputs, .freeNext] from ⟨_, rfl, H _ rfl⟩
  intro t h
  dsimp only [execSettleTimerExpiry] at h
  injection h with h
  (repeat' split at h) <;> subst h <;> simp [State.onlyChanges, Part.all, Part.same]

theorem execEdgeDue_only (unit : UnitNo) :
    ∃ t, execEdgeDue unit s = .next t ∧ s.onlyChanges t [.lif, .spl, .units, .outputs, .freeNext] := by
  refine ⟨_, rfl, ?_⟩
  split
  · refine ⟨?_, fun p hp => ?_⟩
    · refine State.takeEdges_keeps State.pending _ _ _ ?_ _ _
      intro s e; simp
    · cases p
      all_goals first
        | exact absurd (by decide) hp
        | (refine State.takeEdges_keeps _ _ _ _ ?_ _ _; intro s e; simp)
  · exact s.onlyChanges_refl _

theorem execReadStatus_only (payload : List Byte) :
    ∃ t, execReadStatus payload s = .next t ∧ s.onlyChanges t [.svp] := by
  exact ⟨_, rfl, State.request_only _ _ _ _ _ _ _ (by decide) fun s => s.onlyChanges_refl _⟩

theorem execReadPeer_only (payload : List Byte) :
    ∃ t, execReadPeer payload s = .next t ∧ s.onlyChanges t [.svp] := by
  refine ⟨_, rfl, State.request_only _ _ _ _ _ _ _ (by decide) fun s => ?_⟩
  unfold State.ranged
  (repeat' split) <;> exact s.onlyChanges_refl _

theorem execReadTime_only (payload : List Byte) :
    ∃ t, execReadTime payload s = .next t ∧ s.onlyChanges t [.svp] := by
  exact ⟨_, rfl, State.request_only _ _ _ _ _ _ _ (by decide) fun s => s.onlyChanges_refl _⟩

theorem execReadSamples_only (payload : List Byte) :
    ∃ t, execReadSamples payload s = .next t ∧ s.onlyChanges t [.svp, .groups] := by
  refine ⟨_, rfl, State.request_only _ _ _ _ _ _ _ (by decide) fun s => ?_⟩
  generalize h : Prod.fst _ = t
  dsimp only [State.ranged, State.readSamples] at h
  (repeat' split at h) <;> subst h <;> simp [State.onlyChanges, Part.all, Part.same, State.refuse, State.succeed]

theorem execReadChannel_only (payload : List Byte) :
    ∃ t, execReadChannel payload s = .next t ∧ s.onlyChanges t [.svp] := by
  refine ⟨_, rfl, State.request_only _ _ _ _ _ _ _ (by decide) fun s => ?_⟩
  unfold State.ranged
  (repeat' split) <;> exact s.onlyChanges_refl _

theorem execReadCapture_only (payload : List Byte) :
    ∃ t, execReadCapture payload s = .next t ∧ s.onlyChanges t [.svp] := by
  refine ⟨_, rfl, State.request_only _ _ _ _ _ _ _ (by decide) fun s => ?_⟩
  unfold State.ranged
  (repeat' split) <;> exact s.onlyChanges_refl _

theorem execReadTurbine_only (payload : List Byte) :
    ∃ t, execReadTurbine payload s = .next t ∧ s.onlyChanges t [.svp] := by
  exact ⟨_, rfl, State.request_only _ _ _ _ _ _ _ (by decide) fun s => s.onlyChanges_refl _⟩

theorem execReadHeat_only (payload : List Byte) :
    ∃ t, execReadHeat payload s = .next t ∧ s.onlyChanges t [.svp] := by
  exact ⟨_, rfl, State.request_only _ _ _ _ _ _ _ (by decide) fun s => s.onlyChanges_refl _⟩

theorem execReadScaling_only (payload : List Byte) :
    ∃ t, execReadScaling payload s = .next t ∧ s.onlyChanges t [.svp] := by
  exact ⟨_, rfl, State.request_only _ _ _ _ _ _ _ (by decide) fun s => s.onlyChanges_refl _⟩

theorem execReadWindows_only (payload : List Byte) :
    ∃ t, execReadWindows payload s = .next t ∧ s.onlyChanges t [.svp] := by
  exact ⟨_, rfl, State.request_only _ _ _ _ _ _ _ (by decide) fun s => s.onlyChanges_refl _⟩

theorem execReadUnit_only (payload : List Byte) :
    ∃ t, execReadUnit payload s = .next t ∧ s.onlyChanges t [.svp] := by
  refine ⟨_, rfl, State.request_only _ _ _ _ _ _ _ (by decide) fun s => ?_⟩
  unfold State.ranged
  (repeat' split) <;> exact s.onlyChanges_refl _

theorem execReadWatch_only (payload : List Byte) :
    ∃ t, execReadWatch payload s = .next t ∧ s.onlyChanges t [.svp] := by
  refine ⟨_, rfl, State.request_only _ _ _ _ _ _ _ (by decide) fun s => ?_⟩
  dsimp only
  (repeat' split) <;> exact s.onlyChanges_refl _

theorem execStartPump_only (payload : List Byte) :
    ∃ t, execStartPump payload s = .next t ∧ s.onlyChanges t [.svp, .lif, .spl] := by
  refine ⟨_, rfl, State.request_only _ _ _ _ _ _ _ (by decide) fun s => ?_⟩
  generalize h : Prod.fst _ = t
  dsimp only [State.ranged, State.startPump, State.takeSlot] at h
  (repeat' split at h) <;> subst h <;> simp [State.onlyChanges, Part.all, Part.same, State.refuse, State.succeed]

theorem execStopPump_only (payload : List Byte) :
    ∃ t, execStopPump payload s = .next t ∧ s.onlyChanges t [.svp, .attention, .lif, .spl, .units, .outputs, .freeNext] := by
  refine ⟨_, rfl, State.request_only _ _ _ _ _ _ _ (by decide) fun s => ?_⟩
  generalize h : Prod.fst _ = t
  dsimp only [State.ranged, State.stopPump, State.stopUnit] at h
  (repeat' split at h) <;> subst h <;> simp [State.onlyChanges, Part.all, Part.same, State.refuse, State.succeed]

theorem execTrip_only (payload : List Byte) (order : List Dependant) :
    ∃ t, execTrip payload order s = .next t ∧ s.onlyChanges t [.svp, .attention, .lif, .tsv, .spl, .units, .outputs, .freeNext] := by
  refine ⟨_, rfl, State.request_only _ _ _ _ _ _ _ (by decide) fun s => ?_⟩
  generalize h : Prod.fst _ = t
  dsimp only [State.ranged, State.hostTrip] at h
  subst h
  simp [State.onlyChanges, Part.all, Part.same, State.succeed]

theorem execResetTrip_only (payload : List Byte) :
    ∃ t, execResetTrip payload s = .next t ∧ s.onlyChanges t [.svp, .attention, .lif, .tsv, .spl, .units, .outputs, .freeNext] := by
  refine ⟨_, rfl, State.request_only _ _ _ _ _ _ _ (by decide) fun s => ?_⟩
  generalize h : Prod.fst _ = t
  dsimp only [State.ranged, State.resetTrip] at h
  (repeat' split at h) <;> subst h <;> simp [State.onlyChanges, Part.all, Part.same, State.refuse, State.succeed]

theorem execAckScaling_only (payload : List Byte) :
    ∃ t, execAckScaling payload s = .next t ∧ s.onlyChanges t [.svp, .lif, .own, .scw] := by
  refine ⟨_, rfl, State.request_only _ _ _ _ _ _ _ (by decide) fun s => ?_⟩
  generalize h : Prod.fst _ = t
  dsimp only [State.ranged, State.ackScaling] at h
  (repeat' split at h) <;> subst h <;> simp [State.onlyChanges, Part.all, Part.same, State.refuse, State.succeed]

theorem execCaptureBaseline_only (payload : List Byte) :
    ∃ t, execCaptureBaseline payload s = .next t ∧ s.onlyChanges t [.svp, .scw] := by
  refine ⟨_, rfl, State.request_only _ _ _ _ _ _ _ (by decide) fun s => ?_⟩
  generalize h : Prod.fst _ = t
  dsimp only [State.ranged, State.captureBaseline] at h
  (repeat' split at h) <;> subst h <;> simp [State.onlyChanges, Part.all, Part.same, State.refuse, State.succeed]

theorem execClearHeat_only (payload : List Byte) :
    ∃ t, execClearHeat payload s = .next t ∧ s.onlyChanges t [.svp, .hmt] := by
  refine ⟨_, rfl, State.request_only _ _ _ _ _ _ _ (by decide) fun s => ?_⟩
  generalize h : Prod.fst _ = t
  dsimp only [State.ranged, State.clearHeat] at h
  subst h
  simp [State.onlyChanges, Part.all, Part.same, State.succeed]

/-- Clearing causes changes the attention set and the flags of channels and turbine (R209). -/
theorem State.clearCauses_only (kinds subjects : Nat) :
    s.onlyChanges (s.clearCauses kinds subjects) [.svp, .attention, .channels, .tsv] := by
  refine foldl_holds _ (fun t => s.onlyChanges t [.svp, .attention, .channels, .tsv]) ?_ _ _ ?_
  · intro t p h
    refine State.onlyChanges_trans h ?_
    unfold State.clearFlag
    split <;> simp [State.onlyChanges, Part.all, Part.same]
  · simp [State.onlyChanges, Part.all, Part.same]

theorem execClearAttention_only (payload : List Byte) :
    ∃ t, execClearAttention payload s = .next t ∧ s.onlyChanges t [.svp, .attention, .channels, .tsv] := by
  refine ⟨_, rfl, State.request_only _ _ _ _ _ _ _ (by decide) fun s => ?_⟩
  generalize h : Prod.fst _ = t
  dsimp only [State.clearAttention] at h
  split at h <;> subst h
  · exact s.onlyChanges_refl _
  · exact s.clearCauses_only _ _

theorem execSetStation_only (payload : List Byte) :
    ∃ t, execSetStation payload s = .next t ∧ s.onlyChanges t [.config, .svp, .attention, .lif, .peers, .spl, .freeNext] := by
  refine ⟨_, rfl, State.request_only _ _ _ _ _ _ _ (by decide) fun s => ?_⟩
  generalize h : Prod.fst _ = t
  dsimp only [State.ranged] at h
  (repeat' split at h) <;> subst h <;> simp [State.onlyChanges, Part.all, Part.same, State.refuse, State.succeed]

theorem execSetChannel_only (payload : List Byte) :
    ∃ t, execSetChannel payload s = .next t ∧ s.onlyChanges t [.svp, .channels] := by
  refine ⟨_, rfl, State.request_only _ _ _ _ _ _ _ (by decide) fun s => ?_⟩
  generalize h : Prod.fst _ = t
  dsimp only [State.ranged] at h
  (repeat' split at h) <;> subst h <;> simp [State.onlyChanges, Part.all, Part.same, State.refuse, State.succeed]

theorem execSetGroup_only (payload : List Byte) :
    ∃ t, execSetGroup payload s = .next t ∧ s.onlyChanges t [.svp, .groups] := by
  refine ⟨_, rfl, State.request_only _ _ _ _ _ _ _ (by decide) fun s => ?_⟩
  generalize h : Prod.fst _ = t
  dsimp only [State.ranged] at h
  (repeat' split at h) <;> subst h <;> simp [State.onlyChanges, Part.all, Part.same, State.refuse, State.succeed]

theorem execSetCapture_only (payload : List Byte) :
    ∃ t, execSetCapture payload s = .next t ∧ s.onlyChanges t [.svp, .captures] := by
  refine ⟨_, rfl, State.request_only _ _ _ _ _ _ _ (by decide) fun s => ?_⟩
  generalize h : Prod.fst _ = t
  dsimp only [State.ranged] at h
  (repeat' split at h) <;> subst h <;> simp [State.onlyChanges, Part.all, Part.same, State.refuse, State.succeed]

theorem execSetTurbine_only (payload : List Byte) :
    ∃ t, execSetTurbine payload s = .next t ∧ s.onlyChanges t [.svp, .tsv] := by
  refine ⟨_, rfl, State.request_only _ _ _ _ _ _ _ (by decide) fun s => ?_⟩
  generalize h : Prod.fst _ = t
  dsimp only [State.ranged] at h
  (repeat' split at h) <;> subst h <;> simp [State.onlyChanges, Part.all, Part.same, State.refuse, State.succeed]

theorem execSetHeat_only (payload : List Byte) :
    ∃ t, execSetHeat payload s = .next t ∧ s.onlyChanges t [.svp, .hmt] := by
  refine ⟨_, rfl, State.request_only _ _ _ _ _ _ _ (by decide) fun s => ?_⟩
  generalize h : Prod.fst _ = t
  dsimp only [State.ranged] at h
  (repeat' split at h) <;> subst h <;> simp [State.onlyChanges, Part.all, Part.same, State.refuse, State.succeed]

theorem execSetScaling_only (payload : List Byte) :
    ∃ t, execSetScaling payload s = .next t ∧ s.onlyChanges t [.svp, .scw] := by
  refine ⟨_, rfl, State.request_only _ _ _ _ _ _ _ (by decide) fun s => ?_⟩
  generalize h : Prod.fst _ = t
  dsimp only [State.ranged] at h
  (repeat' split at h) <;> subst h <;> simp [State.onlyChanges, Part.all, Part.same, State.refuse, State.succeed]

theorem execSetWindow_only (payload : List Byte) :
    ∃ t, execSetWindow payload s = .next t ∧ s.onlyChanges t [.svp, .spl] := by
  refine ⟨_, rfl, State.request_only _ _ _ _ _ _ _ (by decide) fun s => ?_⟩
  generalize h : Prod.fst _ = t
  dsimp only [State.ranged, State.addWindow, State.clearWindows] at h
  (repeat' split at h) <;> subst h <;> simp [State.onlyChanges, Part.all, Part.same, State.refuse, State.succeed]

theorem execSetWindowClear_only :
    ∃ t, execSetWindowClear s = .next t ∧ s.onlyChanges t [.svp, .spl] := by
  refine ⟨_, rfl, State.request_only _ _ _ _ _ _ _ (by decide) fun s => ?_⟩
  generalize h : Prod.fst _ = t
  dsimp only [State.ranged, State.clearWindows] at h
  subst h
  simp [State.onlyChanges, Part.all, Part.same, State.succeed]

theorem execSetUnit_only (payload : List Byte) :
    ∃ t, execSetUnit payload s = .next t ∧ s.onlyChanges t [.svp, .units] := by
  refine ⟨_, rfl, State.request_only _ _ _ _ _ _ _ (by decide) fun s => ?_⟩
  generalize h : Prod.fst _ = t
  dsimp only [State.ranged] at h
  (repeat' split at h) <;> subst h <;> simp [State.onlyChanges, Part.all, Part.same, State.refuse, State.succeed]

theorem execSetEdge_only (payload : List Byte) :
    ∃ t, execSetEdge payload s = .next t ∧ s.onlyChanges t [.svp, .units] := by
  refine ⟨_, rfl, State.request_only _ _ _ _ _ _ _ (by decide) fun s => ?_⟩
  generalize h : Prod.fst _ = t
  dsimp only [State.ranged] at h
  (repeat' split at h) <;> subst h <;> simp [State.onlyChanges, Part.all, Part.same, State.refuse, State.succeed]

theorem execSetWatchList_only (payload : List Byte) :
    ∃ t, execSetWatchList payload s = .next t ∧ s.onlyChanges t [.svp] := by
  refine ⟨_, rfl, State.request_only _ _ _ _ _ _ _ (by decide) fun s => ?_⟩
  simp only [State.ranged]
  split <;> simp [State.onlyChanges, Part.all, Part.same, State.refuse, State.succeed]

theorem execStartStation_only (payload : List Byte) :
    ∃ t, execStartStation payload s = .next t ∧ s.onlyChanges t [.svp, .lif, .tmu, .awaitMclk, .groups, .pulses, .captures, .tsv, .scw] := by
  refine ⟨_, rfl, State.request_only _ _ _ _ _ _ _ (by decide) fun s => ?_⟩
  generalize h : Prod.fst _ = t
  dsimp only [State.ranged, State.startStation] at h
  (repeat' split at h) <;> subst h <;> simp [State.onlyChanges, Part.all, Part.same, State.succeed]

theorem execUnknownRequest_only (code : Byte) (payload : List Byte) :
    ∃ t, execUnknownRequest code payload s = .next t ∧ s.onlyChanges t [.svp] := by
  suffices H : ∀ t, execUnknownRequest code payload s = .next t → s.onlyChanges t [.svp] from ⟨_, rfl, H _ rfl⟩
  intro t h
  dsimp only [execUnknownRequest, State.arrive] at h
  injection h with h
  (repeat' split at h) <;> subst h <;> simp [State.onlyChanges, Part.all, Part.same, State.refuse]

theorem execRequestTooLong_only (length : Byte) :
    ∃ t, execRequestTooLong length s = .next t ∧ s.onlyChanges t [.svp] := by
  suffices H : ∀ t, execRequestTooLong length s = .next t → s.onlyChanges t [.svp] from ⟨_, rfl, H _ rfl⟩
  intro t h
  dsimp only [execRequestTooLong] at h
  injection h with h
  (repeat' split at h) <;> subst h <;> simp [State.onlyChanges, Part.all, Part.same]

theorem execServiceCharacterError_only (stopBit : Bool) :
    ∃ t, execServiceCharacterError stopBit s = .next t ∧ s.onlyChanges t [.svp] := by
  suffices H : ∀ t, execServiceCharacterError stopBit s = .next t → s.onlyChanges t [.svp] from ⟨_, rfl, H _ rfl⟩
  intro t h
  dsimp only [execServiceCharacterError] at h
  injection h with h
  (repeat' split at h) <;> subst h <;> simp [State.onlyChanges, Part.all, Part.same]

theorem execServiceGap_only :
    ∃ t, execServiceGap s = .next t ∧ s.onlyChanges t [.svp] := by
  suffices H : ∀ t, execServiceGap s = .next t → s.onlyChanges t [.svp] from ⟨_, rfl, H _ rfl⟩
  intro t h
  dsimp only [execServiceGap] at h
  injection h with h
  (repeat' split at h) <;> subst h <;> simp [State.onlyChanges, Part.all, Part.same]

theorem execStartBitWhileReplying_only :
    ∃ t, execStartBitWhileReplying s = .next t ∧ s.onlyChanges t [.svp] := by
  suffices H : ∀ t, execStartBitWhileReplying s = .next t → s.onlyChanges t [.svp] from ⟨_, rfl, H _ rfl⟩
  intro t h
  dsimp only [execStartBitWhileReplying] at h
  injection h with h
  (repeat' split at h) <;> subst h <;> simp [State.onlyChanges, Part.all, Part.same]

theorem execReplyComplete_only :
    ∃ t, execReplyComplete s = .next t ∧ s.onlyChanges t [.svp] := by
  suffices H : ∀ t, execReplyComplete s = .next t → s.onlyChanges t [.svp] from ⟨_, rfl, H _ rfl⟩
  intro t h
  dsimp only [execReplyComplete] at h
  injection h with h
  (repeat' split at h) <;> subst h <;> simp [State.onlyChanges, Part.all, Part.same]

theorem execSyncTaken_only (byte : Byte) (startEdge : LineTime) :
    ∃ t, execSyncTaken byte startEdge s = .next t ∧ s.onlyChanges t [.lif] := by
  suffices H : ∀ t, execSyncTaken byte startEdge s = .next t → s.onlyChanges t [.lif] from ⟨_, rfl, H _ rfl⟩
  intro t h
  dsimp only [execSyncTaken] at h
  injection h with h
  (repeat' split at h) <;> subst h <;> simp [State.onlyChanges, Part.all, Part.same]

theorem execRequestSyncTaken_only :
    ∃ t, execRequestSyncTaken s = .next t ∧ s.onlyChanges t [.svp] := by
  suffices H : ∀ t, execRequestSyncTaken s = .next t → s.onlyChanges t [.svp] from ⟨_, rfl, H _ rfl⟩
  intro t h
  dsimp only [execRequestSyncTaken] at h
  injection h with h
  (repeat' split at h) <;> subst h <;> simp [State.onlyChanges, Part.all, Part.same]

theorem execRequestBadCheck_only (code : Byte) (payload : List Byte) (check : Byte) :
    ∃ t, execRequestBadCheck code payload check s = .next t ∧ s.onlyChanges t [.svp] := by
  suffices H : ∀ t, execRequestBadCheck code payload check s = .next t → s.onlyChanges t [.svp] from ⟨_, rfl, H _ rfl⟩
  intro t h
  dsimp only [execRequestBadCheck, State.arrive] at h
  injection h with h
  (repeat' split at h) <;> subst h <;> simp [State.onlyChanges, Part.all, Part.same, State.refuse]

/-- Every command answers a next state and leaves the queue of waiting commands to the step. -/
theorem exec_next (c : Instr) : ∃ t, exec c s = .next t ∧ t.pending = s.pending :=
  match c with
  | .powerOn straps serviceHigh => execPowerOn_only s straps serviceHigh |>.imp fun _ h => ⟨h.1, h.2.1⟩
  | .resetPin straps serviceHigh powerOnInProgress => execResetPin_only s straps serviceHigh powerOnInProgress |>.imp fun _ h => ⟨h.1, h.2.1⟩
  | .serviceBreak straps seenHigh => execServiceBreak_only s straps seenHigh |>.imp fun _ h => ⟨h.1, h.2.1⟩
  | .bootCheckEnd passed lineHigh => execBootCheckEnd_only s passed lineHigh |>.imp fun _ h => ⟨h.1, h.2.1⟩
  | .characterError stopBit => execCharacterError_only s stopBit |>.imp fun _ h => ⟨h.1, h.2.1⟩
  | .longFrame length => execLongFrame_only s length |>.imp fun _ h => ⟨h.1, h.2.1⟩
  | .gap => execGap_only s |>.imp fun _ h => ⟨h.1, h.2.1⟩
  | .quietMoment => execQuietMoment_only s |>.imp fun _ h => ⟨h.1, h.2.1⟩
  | .frameReceived check order => execFrameReceived_only s check order |>.imp fun _ h => ⟨h.1, h.2.1⟩
  | .noticeStart => execNoticeStart_only s |>.imp fun _ h => ⟨h.1, h.2.1⟩
  | .collision => execCollision_only s |>.imp fun _ h => ⟨h.1, h.2.1⟩
  | .noticeSentWhole => execNoticeSentWhole_only s |>.imp fun _ h => ⟨h.1, h.2.1⟩
  | .peerSilence station => execPeerSilence_only s station |>.imp fun _ h => ⟨h.1, h.2.1⟩
  | .silenceTimerStop station => execSilenceTimerStop_only s station |>.imp fun _ h => ⟨h.1, h.2.1⟩
  | .beacon => execBeacon_only s |>.imp fun _ h => ⟨h.1, h.2.1⟩
  | .joinTimerExpiry => execJoinTimerExpiry_only s |>.imp fun _ h => ⟨h.1, h.2.1⟩
  | .channelStart => execChannelStart_only s |>.imp fun _ h => ⟨h.1, h.2.1⟩
  | .mainOutput channel bits => execMainOutput_only s channel bits |>.imp fun _ h => ⟨h.1, h.2.1⟩
  | .guardOutput channel bits => execGuardOutput_only s channel bits |>.imp fun _ h => ⟨h.1, h.2.1⟩
  | .setBoundary group => execSetBoundary_only s group |>.imp fun _ h => ⟨h.1, h.2.1⟩
  | .slaveEdge unit edge => execSlaveEdge_only s unit edge |>.imp fun _ h => ⟨h.1, h.2.1⟩
  | .masterEdge unit edge => execMasterEdge_only s unit edge |>.imp fun _ h => ⟨h.1, h.2.1⟩
  | .pollTimerExpiry unit => execPollTimerExpiry_only s unit |>.imp fun _ h => ⟨h.1, h.2.1⟩
  | .referenceAgeing which => execReferenceAgeing_only s which |>.imp fun _ h => ⟨h.1, h.2.1⟩
  | .stall => execStall_only s |>.imp fun _ h => ⟨h.1, h.2.1⟩
  | .intervalBoundary => execIntervalBoundary_only s |>.imp fun _ h => ⟨h.1, h.2.1⟩
  | .ownStartReached slot => execOwnStartReached_only s slot |>.imp fun _ h => ⟨h.1, h.2.1⟩
  | .entryExpiry => execEntryExpiry_only s |>.imp fun _ h => ⟨h.1, h.2.1⟩
  | .settleTimerExpiry slot => execSettleTimerExpiry_only s slot |>.imp fun _ h => ⟨h.1, h.2.1⟩
  | .edgeDue unit => execEdgeDue_only s unit |>.imp fun _ h => ⟨h.1, h.2.1⟩
  | .readStatus payload => execReadStatus_only s payload |>.imp fun _ h => ⟨h.1, h.2.1⟩
  | .readPeer payload => execReadPeer_only s payload |>.imp fun _ h => ⟨h.1, h.2.1⟩
  | .readTime payload => execReadTime_only s payload |>.imp fun _ h => ⟨h.1, h.2.1⟩
  | .readSamples payload => execReadSamples_only s payload |>.imp fun _ h => ⟨h.1, h.2.1⟩
  | .readChannel payload => execReadChannel_only s payload |>.imp fun _ h => ⟨h.1, h.2.1⟩
  | .readCapture payload => execReadCapture_only s payload |>.imp fun _ h => ⟨h.1, h.2.1⟩
  | .readTurbine payload => execReadTurbine_only s payload |>.imp fun _ h => ⟨h.1, h.2.1⟩
  | .readHeat payload => execReadHeat_only s payload |>.imp fun _ h => ⟨h.1, h.2.1⟩
  | .readScaling payload => execReadScaling_only s payload |>.imp fun _ h => ⟨h.1, h.2.1⟩
  | .readWindows payload => execReadWindows_only s payload |>.imp fun _ h => ⟨h.1, h.2.1⟩
  | .readUnit payload => execReadUnit_only s payload |>.imp fun _ h => ⟨h.1, h.2.1⟩
  | .readWatch payload => execReadWatch_only s payload |>.imp fun _ h => ⟨h.1, h.2.1⟩
  | .startPump payload => execStartPump_only s payload |>.imp fun _ h => ⟨h.1, h.2.1⟩
  | .stopPump payload => execStopPump_only s payload |>.imp fun _ h => ⟨h.1, h.2.1⟩
  | .trip payload order => execTrip_only s payload order |>.imp fun _ h => ⟨h.1, h.2.1⟩
  | .resetTrip payload => execResetTrip_only s payload |>.imp fun _ h => ⟨h.1, h.2.1⟩
  | .ackScaling payload => execAckScaling_only s payload |>.imp fun _ h => ⟨h.1, h.2.1⟩
  | .captureBaseline payload => execCaptureBaseline_only s payload |>.imp fun _ h => ⟨h.1, h.2.1⟩
  | .clearHeat payload => execClearHeat_only s payload |>.imp fun _ h => ⟨h.1, h.2.1⟩
  | .clearAttention payload => execClearAttention_only s payload |>.imp fun _ h => ⟨h.1, h.2.1⟩
  | .setStation payload => execSetStation_only s payload |>.imp fun _ h => ⟨h.1, h.2.1⟩
  | .setChannel payload => execSetChannel_only s payload |>.imp fun _ h => ⟨h.1, h.2.1⟩
  | .setGroup payload => execSetGroup_only s payload |>.imp fun _ h => ⟨h.1, h.2.1⟩
  | .setCapture payload => execSetCapture_only s payload |>.imp fun _ h => ⟨h.1, h.2.1⟩
  | .setTurbine payload => execSetTurbine_only s payload |>.imp fun _ h => ⟨h.1, h.2.1⟩
  | .setHeat payload => execSetHeat_only s payload |>.imp fun _ h => ⟨h.1, h.2.1⟩
  | .setScaling payload => execSetScaling_only s payload |>.imp fun _ h => ⟨h.1, h.2.1⟩
  | .setWindow payload => execSetWindow_only s payload |>.imp fun _ h => ⟨h.1, h.2.1⟩
  | .setWindowClear => execSetWindowClear_only s |>.imp fun _ h => ⟨h.1, h.2.1⟩
  | .setUnit payload => execSetUnit_only s payload |>.imp fun _ h => ⟨h.1, h.2.1⟩
  | .setEdge payload => execSetEdge_only s payload |>.imp fun _ h => ⟨h.1, h.2.1⟩
  | .setWatchList payload => execSetWatchList_only s payload |>.imp fun _ h => ⟨h.1, h.2.1⟩
  | .startStation payload => execStartStation_only s payload |>.imp fun _ h => ⟨h.1, h.2.1⟩
  | .unknownRequest code payload => execUnknownRequest_only s code payload |>.imp fun _ h => ⟨h.1, h.2.1⟩
  | .requestTooLong length => execRequestTooLong_only s length |>.imp fun _ h => ⟨h.1, h.2.1⟩
  | .serviceCharacterError stopBit => execServiceCharacterError_only s stopBit |>.imp fun _ h => ⟨h.1, h.2.1⟩
  | .serviceGap => execServiceGap_only s |>.imp fun _ h => ⟨h.1, h.2.1⟩
  | .startBitWhileReplying => execStartBitWhileReplying_only s |>.imp fun _ h => ⟨h.1, h.2.1⟩
  | .replyComplete => execReplyComplete_only s |>.imp fun _ h => ⟨h.1, h.2.1⟩
  | .syncTaken byte startEdge => execSyncTaken_only s byte startEdge |>.imp fun _ h => ⟨h.1, h.2.1⟩
  | .requestSyncTaken => execRequestSyncTaken_only s |>.imp fun _ h => ⟨h.1, h.2.1⟩
  | .requestBadCheck code payload check => execRequestBadCheck_only s code payload check |>.imp fun _ h => ⟨h.1, h.2.1⟩

end Sys2Proof.Machine
end

