-- ==== Sys2Proof/Tests/Slice0.lean ====
section
/-! SUPPORT. Tests: ill-formed commands, the spec's worked examples, and for each statement with hypotheses a state and
operands that meet them. -/

namespace Sys2Proof.Tests

open Sys2Proof Sys2Proof.Machine

set_option Elab.async false

/-! Ill-formed commands, one for each check. -/

theorem test_long_frame_of_24_is_ill_formed : (Instr.longFrame 24).wellFormed = false := by decide
theorem test_main_output_of_33_bits_is_ill_formed :
    (Instr.mainOutput 0 (List.replicate 33 true)).wellFormed = false := by decide
theorem test_guard_output_of_64_bits_is_ill_formed :
    (Instr.guardOutput 0 (List.replicate 64 true)).wellFormed = false := by decide
theorem test_length_of_64_is_not_too_long : (Instr.requestTooLong 64).wellFormed = false := by decide
theorem test_a_named_code_is_not_unknown : (Instr.unknownRequest 0x4B []).wellFormed = false := by decide
/-- 0x5C + (255 − (0x03 + 0x00)) is 0x158, mod 256 0x58 (R2). -/
theorem test_a_good_check_byte_is_not_bad :
    (Instr.requestBadCheck 0x03 [] 0x58).wellFormed = false ∧ (Instr.requestBadCheck 0x03 [] 0x57).wellFormed = true := by
  decide
theorem test_a_payload_of_65_bytes_is_ill_formed : (Instr.readTime (List.replicate 65 0)).wellFormed = false := by decide

/-! States for the tests. -/

/-- Station 5 in CONFIG, its boot check passed. -/
def inConfig : State := { State.reset with stationNo := 5, svp := { station := .config, bootResult := .passed } }
/-- Station 5 in RUN. -/
def inRun : State := inConfig.putSvp { inConfig.svp with station := .run }
/-- A state whose receiver holds a whole frame that waits for its check byte. -/
def holding (s : State) (kind : Nat) (sender : StationNo) (payload : List Byte) : State :=
  s.putLif { s.lif with rx := .frame, buffer := lineBody kind sender payload }
/-- A state at a line time and a local count. -/
def timed (s : State) (now count : Nat) : State :=
  s.putTmu { s.tmu with lineTime := BitVec.ofNat 32 now, localCount := BitVec.ofNat 32 count }
/-- The next state of a command. -/
def after (c : Instr) (s : State) : State :=
  match exec c s with
  | .next t => t
  | .fault _ => s
  | .refused _ => s
/-- The payload of the reply that a command leaves. -/
def reply (c : Instr) (s : State) : Option Reply := (after c s).svp.reply

/-! Worked example of 1.2.3: a CLEAR frame. -/

theorem test_clear_frame_bytes :
    lineFrame 5 3 (bytesOf 4 1234567) = [0xB5, 0x53, 0x04, 0x87, 0xD6, 0x12, 0x00, 0x95] := by decide

theorem test_clear_frame_is_heard :
    let t := after (.frameReceived 0x95 []) (holding inConfig 5 3 [0x87, 0xD6, 0x12, 0x00])
    t.lif.counters.validFrame = 1 ∧ t.peers[(3 : StationNo)].heard = true
      ∧ t.tsv.lastPeerClear = some { sender := 3, time := 0x0012D687 } := by decide

/-! Example of 1.3.7: a SCALE notice. -/

/-- Station 2 before the notice of the example. -/
def scaleExample : State :=
  let s := { inConfig with stationNo := 2 }
  let s := s.putPeer 9 { heard := true, silence := .running 0, scaling := .watch, lastIndex := some 612 }
  holding s 7 9 ([0x02] ++ bytesOf 2 540 ++ bytesOf 4 0x7A120000)

theorem test_scale_notice_example :
    let t := after (.frameReceived (checkByte scaleExample.lif.buffer) []) scaleExample
    let row := t.peers[(9 : StationNo)]
    row.scaling = .alarm ∧ row.acknowledged = false ∧ row.scalingChange = 0x7A120000 ∧ row.lastIndex = some 540
      ∧ row.silent = false ∧ t.spl.scalingHold = true := by decide

/-! Worked example of 3.4: from raw output to reading. -/

theorem test_readings_of_the_example :
    let config : ChannelConfig := { k := 7, span := 20000 }
    ([1234567, -1234592, 2097152].map fun r => (normaliseMain 7 r, config.reading (normaliseMain 7 r)))
      = [(19290, 11774), (-19291, -11774), (32767, 19999)] := by decide

/-! Example of 6.2: k at and near the ends of the table. -/

theorem test_k_of_the_example :
    ([-150, 0, 1, 4520, 5515, 14999, 15000, 16230].map fun tr => kFactor ({} : HeatConfig).kTable tr)
      = [4217, 4217, 4217, 4139, 4123, 3953, 3952, 3952] := by decide

/-! Worked example of 8.5: a plan around entries and a fixed window. -/

/-- An entry of a peer in granules. -/
def peerEntry (n : StationNo) (granule length : Nat) : Claim :=
  { station := n, slot := 0, unit := 0, start := BitVec.ofNat 32 (1024 * granule), length := length, firm := false }
/-- The window of the example. -/
def window64 : FixedWindow := { exponent := 20, offset := 0, length := 64 }
/-- A unit with a start edge and a stop edge of output 0 and a window of 20 granules. -/
def pump : SwUnit :=
  { config := { windowLength := 20 }
    defs := #v[{ enabled := true, high := true }, { enabled := true, basis := .stop }, {}, {}, {}, {}] }
/-- Station 5 in RUN with a pump as unit 1 and the example's window. -/
def plant : State := (timed (inRun.putUnit 1 pump) 10000000 80000000).putSpl { windows := [window64] }
/-- The plant with the entries of stations 2 and 9. -/
def planExample : State := plant.putClaims [peerEntry 2 9830 20, peerEntry 9 9860 40]

theorem test_plan_example :
    reply (.startPump [1]) planExample = some (success ([0, 0, 0, 0, 2] ++ bytesOf 4 10137600 ++ bytesOf 4 20)) := by decide +kernel

theorem test_plan_example_with_an_earliest_time :
    reply (.startPump (1 :: bytesOf 4 10470000)) planExample
      = some (success ([0, 0, 0, 0, 2] ++ bytesOf 4 10551296 ++ bytesOf 4 20)) := by decide +kernel

/-! Worked sequence of 8.7: stations 2 and 5 claim the same window. -/

/-- Station 5 of the sequence, after its Start Pump, as station 2's CLAIM stands in its receiver. -/
def contestExample : State :=
  let s := after .replyComplete (after (.startPump [1]) (plant.putClaims [peerEntry 9 9820 80]))
  holding (timed s 10001500 80012000) 2 2 ([0x00] ++ bytesOf 4 10137600 ++ bytesOf 2 20)

theorem test_contest_of_the_sequence :
    let t := after (.frameReceived (checkByte contestExample.lif.buffer) []) contestExample
    t.spl.slots[(0 : SlotNo)].withdrawals = 1 ∧ t.slotState 0 = .announced
      ∧ t.lif.queue.map (·.notice) = [.claim 0 1 10158080 20 false]
      ∧ t.spl.claims.map (fun c => (c.station.val, c.start.toNat)) = [(9, 9820 * 1024), (2, 10137600), (5, 10158080)] := by
  decide +kernel

/-! What the hypotheses of the statements take. -/

/-- Every command leads to the state that `after` names. -/
theorem exec_after (c : Instr) (s : State) : exec c s = .next (after c s) := by
  obtain ⟨t, h, -⟩ := exec_next s c
  simp [after, h]

theorem admitsRun_of {s : State} (h : s.svp.reply = none ∧ s.svp.receiver ≠ .discard ∧ s.svp.station = .run) :
    s.admitsRun := ⟨⟨h.1, h.2.1⟩, h.2.2⟩

theorem admitsReads_of {s : State} (h : s.svp.reply = none ∧ s.svp.receiver ≠ .discard ∧ s.svp.station = .run) :
    s.admitsReads := ⟨⟨h.1, h.2.1⟩, .inr h.2.2⟩

theorem admitsConfiguration_of {s : State}
    (h : s.svp.reply = none ∧ s.svp.receiver ≠ .discard ∧ s.svp.station = .config) : s.admitsConfiguration :=
  ⟨⟨h.1, h.2.1⟩, h.2.2⟩

theorem hears_of {s : State} {kind : Nat} {n : StationNo} {p : List Byte}
    (h : s.lineEnabled = true ∧ s.lif.rx = .frame ∧ s.lif.buffer = lineBody kind n p
      ∧ s.endsOwnFrame (frameCheck kind n p) = false ∧ n ≠ s.stationNo ∧ kindLength? kind = some p.length) : s.hears kind n p :=
  ⟨h.1, h.2.1, h.2.2.1, h.2.2.2.1, h.2.2.2.2.1, h.2.2.2.2.2⟩

/-- The computation of PumpsAgree. -/
def pumpsCheck (s : State) : Bool :=
  slotNumbers.all (fun k =>
    (match s.spl.claims.filter (s.isOwnEntry k) with
      | [] => !(s.slotState k).holdsEntry
      | [c] => (s.slotState k).holdsEntry && c.unit = s.spl.slots[k].unit
      | _ => false)
      && (!(s.slotState k).before || s.units[s.spl.slots[k].unit].state = .idle))
    && (s.slotState 0 = .free || s.slotState 1 = .free || s.spl.slots[(0 : SlotNo)].unit != s.spl.slots[(1 : SlotNo)].unit)
    && unitNumbers.all fun n =>
      let u := s.units[n]
      (u.state != .idle || u.queue.isEmpty) && (u.state != .running || u.queue.isEmpty)
        && (u.state != .starting || u.queue.all (·.origin = .start)) && (u.state != .stopping || u.queue.all (·.origin = .stop))
        && u.queue.all (fun e => e.origin != .start || e.startNumber = u.startNumber)
        && (!u.tripFlag || u.state != .starting)

theorem pumpsAgree_of {s : State} (h : pumpsCheck s = true) : PumpsAgree s := by
  simp only [pumpsCheck, Bool.and_eq_true, List.all_eq_true] at h
  obtain ⟨⟨hs, ha⟩, hu⟩ := h
  have hk : ∀ k : SlotNo, k ∈ slotNumbers := by decide
  have hn : ∀ n : UnitNo, n ∈ unitNumbers := by decide
  refine ⟨fun k he => ?_, fun k he => ?_, fun h0 h1 => ?_, fun k hb => ?_, fun n => ?_⟩
  · have := (hs k (hk k)).1
    split at this <;> simp_all
  · have := (hs k (hk k)).1
    split at this <;> simp_all
  · simpa [h0, h1] using ha
  · simpa [hb] using (hs k (hk k)).2
  · have := hu n (hn n)
    simp only [Bool.or_eq_true, bne_iff_ne, List.isEmpty_iff, List.all_eq_true, decide_eq_true_eq,
      Bool.not_eq_true'] at this
    obtain ⟨⟨⟨⟨⟨hi, hr⟩, hst⟩, hsp⟩, hp⟩, ht⟩ := this
    exact ⟨fun h => hi.resolve_left (· h), fun h => hr.resolve_left (· h), fun h => hst.resolve_left (· h),
      fun h => hsp.resolve_left (· h), fun e he h => (hp e he).resolve_left (· h),
        fun h => ht.resolve_left fun hf => Bool.noConfusion (hf.symm.trans h)⟩

theorem restOutsideRun_of_run {s : State} (h : s.svp.station = .run) : RestOutsideRun s :=
  ⟨fun n => absurd h n, fun n => absurd h n, fun n => absurd h n, fun n => absurd h n, fun n => absurd h n,
    fun n => absurd h n, fun n => absurd h n, fun n => absurd h n⟩

theorem restOutsideRun_inConfig : RestOutsideRun inConfig :=
  ⟨fun _ => by decide, fun _ => by unfold SwUnit.atRest; decide, fun _ => by decide, fun _ => by decide,
    fun _ => by decide, fun _ => by decide, fun _ => by decide, fun _ => by decide⟩

/-! Witnesses: for each statement, states and operands that meet its hypotheses, clause by clause at the bounds of their
ranges. -/

theorem witness_StepRunsFrontCommand : (inRun.putPending [.gap, .beacon]).pending = .gap :: [.beacon] := rfl

/-- Unit 1 of station 5 in a mode with a rising master edge at input 1 and a rising slave edge at input 2, all inputs low in the
period before, after edges at count 0 or none yet, with a tooth count. -/
def capturing (mode : CaptureMode) (poll first taken : Bool) (teeth count : Nat) : State :=
  let u : Capture :=
    { config := { mode := mode, master := { input := 1 }, slave := some { input := 2 }, poll := poll }
      running := true, firstMaster := first, firstSlave := first, pollTimer := some 0, taken := taken }
  let s := inRun.putTsv { effectiveTeeth := teeth, revolutionReference := some 0, toothReference := some 0,
                          stallTimer := some 0 }
  timed ((s.putCapture 1 u).putPulses { before := some 0 }) 0 count

/-- A sample with a high input that was low in the period before shows its rising edge. -/
theorem edgeComes_of {s : State} {source : PulseSource} {sample : BitVec 8}
    (h : s.pulses.now = none ∧ s.pulses.before = some 0 ∧ source.falling = false ∧ sample.getLsbD source.input.val = true) :
    s.edgeComes source sample := ⟨.inl h.1, 0, h.2.1, by simp [h.2.2.1], by simp [h.2.2.1, h.2.2.2]⟩

/-- Station 5 in RUN with a frame of 4 characters in flight, after some of them have been read back. -/
def flying (readBack : Nat) (collided : Bool) : State :=
  inRun.putLif { inRun.lif with
    inFlight := some { notice := .time, collisions := 0, payload := [], readBack := readBack, collided := collided } }

theorem witness_IdleStepPassesOnePeriod :
    let s := (capturing .general false true false 0 8).tellSample 0x02
    inRun.pending = [] ∧ s.pending = [] ∧ s.pulses.now = some 0x02 ∧ s.captures[(1 : CaptureNo)].running = true
      ∧ s.pulses.before = some 0 ∧ (1 : CaptureNo) ∉ s.pulses.masters ∧ inRun.owed = []
      ∧ s.owed = [.masterEdge 1 ⟨0x02, []⟩]
      ∧ (flying 0 true).pending = [] ∧ (flying 0 true).owed = [.collision]
      ∧ (flying 4 false).owed = [.noticeSentWhole] ∧ (flying 3 false).owed = [] := by decide +kernel

/-- The part in BOOT, 3 ms after a reset. -/
def booted : State := timed State.reset 3000 24000

theorem witness_ResetsAndBootCheck :
    booted.svp.station = .boot ∧ 24000 ≤ booted.tmu.localCount.toNat
      ∧ (timed State.reset 2999 23999).tmu.localCount.toNat < 24000
      ∧ inRun.svp.breakArmed = true ∧ inRun.svp.breakFrom = 0
      ∧ 800000 ≤ ((timed inRun 0 800000).tmu.localCount - 0).toNat ∧ ((timed inRun 0 799999).tmu.localCount - 0).toNat < 800000
      ∧ (after (.serviceBreak 5 true) (timed inRun 0 800000)).svp.breakArmed = false
      ∧ (after (.powerOn 5 false) inRun).svp.station = .boot := by decide +kernel

theorem witness_StationStateAndSealedConfiguration :
    (after (.powerOn 3 true) inRun).svp.station ≠ inRun.svp.station
      ∧ (after (.bootCheckEnd true true) booted).svp.station ≠ booted.svp.station
      ∧ (after (.startStation []) inConfig).svp.station ≠ inConfig.svp.station
      ∧ inRun.svp.station = .run ∧ Instr.isReset (.trip [] []) = false
      ∧ exec (.trip [] []) inRun = .next (after (.trip [] []) inRun) :=
  ⟨by decide +kernel, by decide +kernel, by decide +kernel, rfl, rfl, exec_after _ _⟩

/-- A TIME notice of station 2 with a line time and a joined flag, heard at station 5 with a SYNC time of 0. -/
def timeHeardAt (s : State) (time flags : Nat) : State :=
  holding s 1 2 (bytesOf 4 time ++ [BitVec.ofNat 8 flags, 0, 2])
/-- Station 5 in RUN and joined. -/
def joinedRun : State := inRun.putTmu { inRun.tmu with joined := true }
/-- The command that completes the frame in the receiver with a good check byte. -/
def goodCheck (s : State) : Instr := .frameReceived (checkByte s.lif.buffer) []

theorem witness_LineTimeMovesOnlyByAdoption :
    (∀ s ∈ [timeHeardAt inRun 5000 0x80, timeHeardAt joinedRun 1 0x80, timeHeardAt joinedRun (2 ^ 31 - 1) 0x80],
      (after (goodCheck s) s).tmu.lineTime ≠ s.tmu.lineTime ∧ (goodCheck s).isReset = false)
      ∧ ∀ c s, exec c s = .next (after c s) :=
  ⟨by decide +kernel, exec_after⟩

/-- The part in FAULT. -/
def inFault : State := after (.bootCheckEnd false true) booted

theorem witness_RequestsRefusedByTheirStation :
    (∀ s ∈ [State.reset, inConfig, inRun, inFault], s.svp.reply = none ∧ s.svp.receiver ≠ .discard)
      ∧ State.reset.svp.station = .boot ∧ inFault.svp.station = .fault
      ∧ requestOf (.readTime []) = some (⟨3, .read⟩, []) ∧ ([] : List Byte).length ∈ lengthsOf 3
      ∧ ([0] : List Byte).length ∉ lengthsOf 3 ∧ (List.replicate 64 (0 : Byte)).length ≤ 64
      ∧ requestOf (.clearHeat []) = some (⟨0x26, .run⟩, []) ∧ ([] : List Byte).length ∈ lengthsOf 0x26
      ∧ requestOf (.startStation []) = some (⟨0x4B, .configuration⟩, []) ∧ ([] : List Byte).length ∈ lengthsOf 0x4B
      ∧ (0x57 : Byte) ≠ checkByte [0x03, 0x00] ∧ (0xFF : Byte).toNat ∉ knownRequestCodes := by decide +kernel

theorem witness_RefusedRequestChangesNoBlock :
    requestOf (.resetTrip []) = some (⟨0x23, .run⟩, []) ∧ inRun.takesRequests
      ∧ exec (.resetTrip []) inRun = .next (after (.resetTrip []) inRun)
      ∧ (after (.resetTrip []) inRun).svp.reply = some { status := .notTripped, payload := [] }
      ∧ Status.notTripped ≠ Status.success :=
  ⟨rfl, ⟨rfl, by decide⟩, exec_after _ _, by decide +kernel, by decide⟩

/-- A break comes 800,000 periods after the line was last known to be high, and not a period earlier; the reset that it brings
leaves the measure not armed (R200). -/
theorem test_break_of_100_ms :
    let s := fun count => timed (inRun.putSvp { inRun.svp with breakFrom := 5, breakArmed := true }) 0 count
    let t := fun count => (after (.serviceBreak 5 false) (s count)).svp.station
    t 800005 = .boot ∧ t 800004 = .run
      ∧ (after (.serviceBreak 5 false) (timed (after (.serviceBreak 5 false) (s 800005)) 0 900000)).svp.resetCause = .serviceBreak
      ∧ (after (.serviceBreak 5 false) (s 800005)).svp.breakFrom = 0 := by decide +kernel

/-- A low level forms characters in error one after another: they start no break measure anew, and after a reset they do not arm
it (R200). -/
theorem test_low_level_forms_characters :
    let low := fun s count => after (.serviceCharacterError true) (timed s 0 count)
    let s := low (low (inRun.putSvp { inRun.svp with idle := .since 8000, breakFrom := 8000, breakArmed := true }) 10000) 11528
    let t := low (low (after (.powerOn 5 false) inRun) 1528) 3056
    s.svp.breakFrom = 10000 - 1528 ∧ s.svp.breakArmed = true ∧ (low s 20000).svp.breakFrom = 20000 - 1528
      ∧ t.svp.breakFrom = 0 ∧ t.svp.breakArmed = false ∧ t.svp.errors = 2 := by decide +kernel

/-- The service port in a receiver state, with a reply or none, and the line idle for a number of periods. -/
def served (r : ServiceState) (p : Option Reply) (idle : Nat) : State :=
  timed (inConfig.putSvp { inConfig.svp with receiver := r, reply := p, idle := .since 0 }) 0 idle

theorem witness_ServiceReceiverEvents :
    64 < (65 : Byte).toNat
      ∧ (∀ r ∈ [ServiceState.hunt, .request, .discard],
          (served r none 0).svp.reply = none ∧ (served r none 0).svp.receiver = r
            ∧ (served r (some (success [])) 0).svp.reply = some (success [])
            ∧ (served r (some (success [])) 0).svp.receiver = r)
      ∧ 160000 ≤ ((served .hunt none 160000).tmu.localCount - 0).toNat
      ∧ ((served .hunt none 159999).tmu.localCount - 0).toNat < 160000
      ∧ (served .hunt none 160000).svp.idle = (if true then .since 0 else .after 0)
      ∧ inConfig.svp.idle = (if false then .since 0 else .after 0) := by decide +kernel

/-- A start bit while replying restarts the idle measure: a gap comes no earlier than 160,000 periods later (R196, R198). -/
theorem test_gap_after_a_restart :
    let s := after .startBitWhileReplying (served .hunt (some (success [])) 1000)
    let gap := fun count => (after .serviceGap (timed s 0 count)).svp.receiver
    s.svp.receiver = .discard ∧ gap 1000 = .discard ∧ gap 160999 = .discard ∧ gap 161000 = .hunt := by decide +kernel

theorem witness_CheckByteEndsEveryFrame :
    let bytes : List Byte := [0x53, 0x04, 0x87, 0xD6, 0x12, 0x00]
    let s := holding inConfig 5 3 [0x87, 0xD6, 0x12, 0x00]
    (0x95 : Byte).toNat = (0x5C + (255 - (bytes.map (·.toNat)).sum % 256)) % 256
      ∧ lineBody 5 3 [0x87, 0xD6, 0x12, 0x00] = bytes
      ∧ s.lineEnabled = true ∧ s.lif.expectsCheck = true ∧ s.lif.buffer = bytes
      ∧ (0x5B : Byte).toNat = (0x5C + (255 - (([0, 0, 0] : List Byte).map (·.toNat)).sum % 256)) % 256
      ∧ bytesOf 1 Status.success.code ++ bytesOf 2 0 ++ [] = [0, 0, 0]
      ∧ (0x58 : Byte).toNat = (0x5C + (255 - (([3, 0] : List Byte).map (·.toNat)).sum % 256)) % 256 := by decide +kernel

theorem witness_ReadsAnswerWithoutChange :
    inConfig.takesRequests ∧ inConfig.svp.station ≠ .boot ∧ inRun.admitsReads
      ∧ inRun.svp.watchList.length = 0
      ∧ (inRun.putSvp { inRun.svp with watchList := [.joined, .lineTime] }).admitsReads
      ∧ (1 : Byte).toNat < 2 ∧ 2 ≤ (2 : Byte).toNat
      ∧ (∀ n ∈ [(1 : Byte), 16], 1 ≤ n.toNat ∧ n.toNat ≤ 16) ∧ (∀ n ∈ [(0 : Byte), 17], n.toNat = 0 ∨ 16 < n.toNat)
      ∧ 16 ≤ (16 : Byte).toNat ∧ 8 ≤ (8 : Byte).toNat ∧ 4 ≤ (4 : Byte).toNat :=
  ⟨⟨rfl, by decide⟩, by decide, admitsReads_of (by decide), rfl, admitsReads_of (by decide), by decide⟩

theorem witness_RecordsLaidOutAsTabled :
    let s := (inRun.queueNotice .time).raise .stall
    s.lif.queue.length < 256 ∧ s.attention.length < 256 ∧ (∀ e ∈ s.lif.queue, e.collisions < 16)
      ∧ (∀ x ∈ s.attention, x.raises < 256)
      ∧ s.statusPayload.drop 36 = [1, 1, 0, 0, 0xFF, 0xFF, 0x1F, 0, 1, 1, 10, 0xFF, 0, 0, 0, 0, 1, 0] := by decide +kernel

/-- An empty set of sequence number 0. -/
def firstSet : RingSet :=
  { record := { sequence := 0, endTime := 0, short := false, empty := true, readings := [] }, unread := true }
/-- Group A with one set in its ring. -/
def ringed : State := inRun.putGroup 0 { nextSequence := 1, ring := [firstSet] }

theorem witness_ReadSamplesCarriesItsSets :
    let x := ringed.groups[(0 : GroupNo)]
    let ahead := fun first : BitVec 32 => (first - firstSet.record.sequence).toNat
    ringed.admitsReads ∧ inRun.groups[(0 : GroupNo)].ring = [] ∧ x.ring = firstSet :: [] ∧ x.numbered ∧ x.ring.length ≤ 64
      ∧ ahead 0 < 1 ∧ 1 ≤ ahead 1 ∧ ahead 0x80000000 ≤ 2 ^ 31 ∧ 2 ^ 31 < ahead 0x80000001
      ∧ (∀ n ∈ [(1 : Byte), 8], 1 ≤ n.toNat ∧ n.toNat ≤ 8) ∧ ∀ n ∈ [(0 : Byte), 9], n.toNat = 0 ∨ 8 < n.toNat :=
  ⟨admitsReads_of (by decide), rfl, rfl, fun i h => by obtain rfl : i = 0 := Nat.lt_one_iff.mp h; rfl, by decide,
    by decide +kernel⟩

theorem witness_RaisedCauseIsRecorded :
    let p : Pending := { cause := .stall, first := 0, raises := 255, reason := none }
    (∀ q ∈ inRun.attention, q.cause ≠ .stall) ∧ ({ inRun with attention := [p] } : State).attention = [] ++ p :: []
      ∧ inRun.raiseClaimFailed 0 .jammed = inRun.raiseClaimFailed 0 .jammed := ⟨by decide, rfl, rfl⟩

theorem witness_ClearAttentionClearsTheNamed :
    inRun.admitsReads ∧ 2 ^ 21 - 1 < 2 ^ 21 ∧ 2 ^ 21 - 1 < 2 ^ 32 ∧ 2 ^ 21 ≤ 2 ^ 21 ∧ 2 ^ 16 - 1 < 2 ^ 16 :=
  ⟨admitsReads_of (by decide), by decide⟩

/-- The line receiver in a state, with a buffer, idle for a number of periods. -/
def receiving (r : RxState) (buffer : List Byte) (idle : Nat) : State :=
  timed (inConfig.putLif { inConfig.lif with rx := r, buffer := buffer, idle := .since 0 }) 0 idle

theorem witness_LineReceiverEvents :
    (∀ r ∈ [RxState.hunt, .waitGap, .frame], (receiving r [] 0).lineEnabled = true ∧ (receiving r [] 0).lif.rx = r)
      ∧ (receiving .frame [0x53] 0).lif.expectsCheck = false ∧ (receiving .frame [0x53] 0).lif.buffer.length = 1
      ∧ (24 : Byte).toNat ≤ 24 ∧ 24 < (25 : Byte).toNat
      ∧ 1408 < ((receiving .frame [] 1409).tmu.localCount - 0).toNat
      ∧ ((receiving .frame [] 1408).tmu.localCount - 0).toNat ≤ 1408
      ∧ (receiving .hunt [] 2816).lif.quiet = none ∧ 2816 ≤ ((receiving .hunt [] 2816).tmu.localCount - 0).toNat
      ∧ ((receiving .hunt [] 2815).tmu.localCount - 0).toNat < 2816
      ∧ (receiving .hunt [] 2816).lif.idle = (if true then .since 0 else .after 0)
      ∧ inConfig.lif.idle = (if false then .since 0 else .after 0) := by decide +kernel

/-- Station 5 in RUN with the CLEAR of 1.2.3, sent as its own, in flight after a number of characters read back good. -/
def sendingClear (readBack : Nat) : State :=
  let f : InFlight := { notice := .clear 1234567, collisions := 0, payload := bytesOf 4 1234567, readBack := readBack }
  holding (inRun.putLif { inRun.lif with inFlight := some f }) 5 5 (bytesOf 4 1234567)

/-- The check byte read back good ends the own frame, which counts nowhere, and only then has the notice been sent whole; the
sum of its bytes is 2 above that of station 3's, whose check byte is 0x95 (R2, R9, R24). -/
theorem test_own_frame_is_sent_whole :
    let s := sendingClear 7
    let t := after (.frameReceived 0x93 []) s
    after .noticeSentWhole s = s ∧ after .collision s = s
      ∧ t.lif.counters = {} ∧ t.attention = [] ∧ t.lif.rx = .hunt ∧ t.owed = [.noticeSentWhole]
      ∧ (after .noticeSentWhole t).lif.counters = { frameSent := 1 } ∧ (after .noticeSentWhole t).lif.inFlight = none := by
  decide +kernel

/-- A character other than the one sent, or one in error, is a collision; the notice then returns to the queue with a count of
1, and the frame on the line is another station's (R24, R25, R29). -/
theorem test_character_not_read_back_good :
    let s := (sendingClear 0).putLif { (sendingClear 0).lif with rx := .hunt, buffer := [] }
    let collided := fun c => (after c s).owed
    collided (.syncTaken 0xB5 0) = [] ∧ collided (.syncTaken 0xB1 0) = [.collision]
      ∧ collided (.characterError false) = [.collision]
      ∧ (after .collision (after (.syncTaken 0xB1 0) s)).lif.queue = [{ notice := .clear 1234567, collisions := 1 }] := by
  decide +kernel

theorem witness_FrameReceivedIsChecked :
    let s := holding inConfig 5 3 [0x87, 0xD6, 0x12, 0x00]
    let own : InFlight := { notice := .clear 1234567, collisions := 0, payload := bytesOf 4 1234567, readBack := 7 }
    let frame := lineFrame own.notice.kind (5 : StationNo) own.payload
    s.lineEnabled = true ∧ s.lif.rx = .frame ∧ s.lif.buffer = 0x53 :: 0x04 :: [0x87, 0xD6, 0x12, 0x00]
      ∧ (0x04 : Byte).toNat ≤ 4 ∧ (0x95 : Byte) = checkByte s.lif.buffer ∧ (0x96 : Byte) ≠ checkByte s.lif.buffer
      ∧ (sendingClear 7).lif.inFlight = some own ∧ own.collided = false ∧ frame[own.readBack]? = some 0x93
      ∧ own.readBack + 1 = frame.length ∧ (0x93 : Byte) = checkByte (sendingClear 7).lif.buffer
      ∧ s.lif.inFlight = none
      ∧ (0x03 : Byte).toNat / 16 = 0 ∧ 8 ≤ (0x83 : Byte).toNat / 16
      ∧ (holding inConfig 7 5 []).lif.buffer = 0x75 :: 0x00 :: [] ∧ (0x75 : Byte).toNat % 16 = inConfig.stationNo.val
      ∧ (0x75 : Byte).toNat / 16 = 7 ∧ (0x13 : Byte).toNat / 16 = 1
      ∧ (3 : StationNo) ≠ s.stationNo ∧ kindLength? 5 = some 4 ∧ kindLength? 1 ≠ some 4 := by decide +kernel

theorem witness_HeardNoticeWritesTheRow :
    let s := fun kind length => holding inConfig kind 3 (List.replicate length 0)
    (s 1 7).hears 1 3 (List.replicate 7 0) ∧ (s 2 7).hears 2 3 (List.replicate 7 0)
      ∧ (s 3 2).hears 3 3 (List.replicate 2 0) ∧ (s 4 7).hears 4 3 (List.replicate 7 0)
      ∧ (s 5 4).hears 5 3 (List.replicate 4 0) ∧ (s 6 14).hears 6 3 (List.replicate 14 0)
      ∧ (s 7 7).hears 7 3 (List.replicate 7 0)
      ∧ TripViewAgrees (s 4 7)
      ∧ (after (goodCheck (s 4 7)) (s 4 7)).tsv.viewActive = true ∧ (s 4 7).tsv.viewActive = false :=
  ⟨hears_of (by decide +kernel), hears_of (by decide +kernel), hears_of (by decide +kernel), hears_of (by decide +kernel),
    hears_of (by decide +kernel), hears_of (by decide +kernel), hears_of (by decide +kernel),
    ⟨by decide +kernel, by decide +kernel, by decide +kernel, by decide +kernel⟩, by decide +kernel⟩

/-- A TRIP 1,000,000 µs late gives its own time as the onset, and one that is later by 1 µs the line time now (R102). -/
theorem test_onset_time_of_a_peer_trip :
    let onset := fun now =>
      let s := holding (timed inRun now 0) 4 3 (bytesOf 4 5000 ++ [1, 0, 0])
      (after (goodCheck s) s).tsv.onset
    onset 1005000 = some { time := 5000, source := .peerByTrip 3 }
      ∧ onset 1005001 = some { time := 1005001, source := .peerByTrip 3 } := by decide +kernel

/-- Station 5 in RUN with a transmit queue of one notice on a line quiet for a number of periods. -/
def quietFor (n : Notice) (collisions periods : Nat) : State :=
  timed (inRun.putLif { inRun.lif with queue := [{ notice := n, collisions := collisions }], quiet := some 0 }) 0 periods

theorem witness_NoticeStartFollowsItsWait :
    let s := quietFor .time 0 (704 * 6)
    s.lif.queue = { notice := .time, collisions := 0 } :: [] ∧ s.lif.quiet = some 0 ∧ s.svp.station = .run
      ∧ s.lif.inFlight = none ∧ 704 * (1 + s.stationNo.val) ≤ (s.tmu.localCount - 0).toNat
      ∧ ((quietFor .time 0 (704 * 6 - 1)).tmu.localCount - 0).toNat < 704 * (1 + s.stationNo.val)
      ∧ 704 * (17 + s.stationNo.val) ≤ ((quietFor (.clear 0) 7 (704 * 22)).tmu.localCount - 0).toNat := by decide +kernel

/-- The plant with slot 0 in a state and its own entry, granules 9900 to 9919, for unit 1. -/
def claimed (x : SlotState) (withdrawals : Nat) : State :=
  (plant.putSlot 0 { state := x, unit := 1, withdrawals := withdrawals }).putClaims [{ peerEntry 5 9900 20 with unit := 1 }]
/-- The claimed plant with its CLAIM in flight, a frame of 4 characters, after some of them have been read back. -/
def claimInFlight (x : SlotState) (collisions : Nat) (queue : List QueueEntry) (readBack : Nat) (collided : Bool) : State :=
  (claimed x 0).putLif { plant.lif with
    queue := queue
    inFlight := some { notice := .claim 0 1 10137600 20 false, collisions := collisions, payload := [],
                       readBack := readBack, collided := collided } }

theorem witness_NoticeInFlightEnds :
    let f : Nat → InFlight := fun n =>
      { notice := .claim 0 1 10137600 20 false, collisions := n, payload := [], readBack := 2, collided := true }
    let s := claimInFlight .announced 6 [] 2 true
    let whole := claimInFlight .announced 6 [] 4 false
    whole.svp.station = .run ∧ whole.lif.inFlight = some { f 6 with readBack := 4, collided := false }
      ∧ (lineFrame (f 6).notice.kind whole.stationNo (f 6).payload).length = 4
      ∧ (claimInFlight .announced 6 [] 3 false).lif.inFlight = some { f 6 with readBack := 3, collided := false }
      ∧ s.lif.inFlight = some (f 6) ∧ s.svp.station = .run ∧ s.slotState 0 = .announced
      ∧ (∃ own, s.ownEntry? 0 = some own ∧ own.start = 10137600 ∧ own.length = 20)
      ∧ (f 6).collisions + 1 < 8 ∧ 8 ≤ (f 7).collisions + 1
      ∧ (claimInFlight .announced 7 [] 2 true).lif.inFlight = some (f 7)
      ∧ (s.lif.queue.filter fun e => e.notice.group = (f 6).notice.group) = []
      ∧ ((claimInFlight .announced 6 [{ notice := .release 0 1 false .withdrawn, collisions := 0 }] 2 true).lif.queue.filter
          fun e => e.notice.group = (f 6).notice.group).length = 1
      ∧ (claimInFlight .firm 0 [] 4 false).slotState 0 ≠ .announced :=
  ⟨rfl, rfl, by decide, rfl, rfl, rfl, by decide, ⟨{ peerEntry 5 9900 20 with unit := 1 }, by decide +kernel⟩, by decide +kernel⟩

theorem witness_QueuedNoticeIsCoalesced :
    let e : QueueEntry := { notice := .claim 0 1 0 20 false, collisions := 3 }
    let s := inRun.putLif { inRun.lif with queue := [e] }
    (∀ x ∈ s.lif.queue, x.notice.group ≠ Notice.time.group) ∧ s.lif.queue = [] ++ e :: []
      ∧ e.notice.group = (Notice.release 0 1 false .stopped).group := by decide +kernel

/-- Station 5 in RUN that has heard station 3 at count 0, with both of its own timers running from count 0. -/
def timers (silent : Bool) (count : Nat) : State :=
  let s := inRun.putTmu { inRun.tmu with beaconTimer := some 0, joinTimer := some 0 }
  timed (s.putPeer 3 { heard := true, silence := .running 0, silent := silent }) 0 count

theorem witness_LineTimersExpire :
    let s := timers false
    (s 0).lineEnabled = true ∧ (3 : StationNo) ≠ (s 0).stationNo ∧ (s 0).peers[(3 : StationNo)].silence = .running 0
      ∧ (s 0).peers[(3 : StationNo)].heard = true ∧ 4 * (800000 * (s 0).config.beaconCode) = 6400000
      ∧ 6400000 ≤ ((s 6400000).tmu.localCount - 0).toNat ∧ ((s 6399999).tmu.localCount - 0).toNat < 6400000
      ∧ 2 ^ 31 ≤ ((timers true (2 ^ 31)).tmu.localCount - 0).toNat ∧ (s 0).svp.station = .run
      ∧ (s 0).tmu.beaconTimer = some 0 ∧ 800000 * 2 ≤ ((s 1600000).tmu.localCount - 0).toNat
      ∧ (s 0).tmu.joinTimer = some 0 ∧ (s 0).tmu.joined = false ∧ 3 * 1600000 ≤ ((s 4800000).tmu.localCount - 0).toNat := by
  decide +kernel

theorem witness_HeardTimeIsAdopted :
    let p := fun time flags => bytesOf 4 time ++ [BitVec.ofNat 8 flags, 0, 2]
    (timeHeardAt inRun 5000 0x00).hears 1 2 (p 5000 0x00) ∧ (timeHeardAt inRun 5000 0x80).hears 1 2 (p 5000 0x80)
      ∧ (timeHeardAt joinedRun 1 0x80).hears 1 2 (p 1 0x80) ∧ (timeHeardAt joinedRun 0 0x80).hears 1 2 (p 0 0x80)
      ∧ (fieldNat (p 0 0x80) 4 1).testBit 7 = true ∧ (fieldNat (p 0 0x00) 4 1).testBit 7 = false
      ∧ (BitVec.ofNat 32 (fieldNat (p 1 0x80) 0 4) - joinedRun.lif.syncTime).toInt = 1
      ∧ 1000 * joinedRun.config.largeStepMs < (BitVec.ofNat 32 (fieldNat (p 100001 0x80) 0 4)).toInt.natAbs
      ∧ 1000 * joinedRun.config.strayMs < (BitVec.ofNat 32 (fieldNat (p (2 ^ 32 - 10001) 0x80) 0 4)).toInt.natAbs
      ∧ (BitVec.ofNat 32 (fieldNat (p (2 ^ 32 - 10000) 0x80) 0 4)).toInt.natAbs ≤ 1000 * joinedRun.config.strayMs :=
  ⟨hears_of (by decide +kernel), hears_of (by decide +kernel), hears_of (by decide +kernel), hears_of (by decide +kernel),
    by decide +kernel⟩

theorem witness_StepInConfigReachesClaimsAlone :
    inConfig.svp.station = .config ∧ RestOutsideRun inConfig ∧ PumpsAgree inConfig :=
  ⟨rfl, restOutsideRun_inConfig, pumpsAgree_of (by decide +kernel)⟩

theorem witness_SincFilterBounds : 1 ≤ 1 ∧ 1 ≤ 256 := by decide

/-- Channel 0 of station 5 running at D = 32 and D_g = 8, in a group, bound to unit 1, with outputs already discarded, and 24
edges counted since its last main output. -/
def channelRunning (group : Option GroupNo) (discarded : Nat) : State :=
  let c : Channel :=
    { config := { enabled := true, k := 5, j := 3, group := group, bound := some 1 }
      running := true, mainDiscarded := discarded, guardDiscarded := discarded, mainEdges := 24 }
  let g : OpenSet := { members := [{ channel := 0 }], short := false, nextBoundary := 100000 }
  (inRun.putChannel 0 c).putGroup 0 { openSet := some g }

theorem witness_MainOutputIsTaken :
    let s := channelRunning (some 0)
    (∀ n, ((s n).channels[(0 : ChannelNo)]).running = true)
      ∧ (s 2).channels[(0 : ChannelNo)].mainEdges + (List.replicate 8 true).length = 2 ^ 5
      ∧ (s 2).channels[(0 : ChannelNo)].guardEdges + (List.replicate 8 true).length ≤ 2 ^ 3
      ∧ ((s 1).channels[(0 : ChannelNo)]).config.k = 5 ∧ (s 1).channels[(0 : ChannelNo)].mainDiscarded < 2
      ∧ 2 ≤ (s 2).channels[(0 : ChannelNo)].mainDiscarded ∧ (s 2).channels[(0 : ChannelNo)].config.group = some 0
      ∧ (∃ o, (s 2).groups[(0 : GroupNo)].openSet = some o)
      ∧ (channelRunning none 2).channels[(0 : ChannelNo)].config.group = none :=
  ⟨fun _ => rfl, by decide, by decide, by decide, by decide, by decide, by decide, ⟨_, rfl⟩, by decide⟩

/-- The 32nd edge brings a main and a guard output of the same eight bits: the second command brings none (R46). -/
theorem test_one_input_to_both_filters :
    let s := after (.guardOutput 0 []) (after (.mainOutput 0 (List.replicate 8 true)) (channelRunning none 2))
    let x := s.channels[(0 : ChannelNo)]
    x.inputs = List.replicate 8 true ∧ x.mainEdges = 0 ∧ x.guardEdges = 0 ∧ x.lastMain.isSome = true
      ∧ x.lastGuard.isSome = true
      ∧ after (.mainOutput 0 (List.replicate 8 true)) s = s := by decide +kernel

theorem witness_GuardOutputIsTaken :
    let s := channelRunning (some 0)
    (∀ n, ((s n).channels[(0 : ChannelNo)]).running = true)
      ∧ (s 1).channels[(0 : ChannelNo)].guardEdges + (List.replicate 8 true).length = 2 ^ 3
      ∧ (s 1).channels[(0 : ChannelNo)].mainEdges + (List.replicate 8 true).length ≤ 2 ^ 5
      ∧ ¬(s 1).channels[(0 : ChannelNo)].guardEdges + 0 = 2 ^ 3
      ∧ ((s 1).channels[(0 : ChannelNo)]).config.j = 3 ∧ 1 ≤ ((s 1).channels[(0 : ChannelNo)]).config.window
      ∧ (s 0).channels[(0 : ChannelNo)].guardDiscarded < 1 ∧ 1 ≤ (s 1).channels[(0 : ChannelNo)].guardDiscarded :=
  ⟨fun _ => rfl, by decide⟩

theorem witness_SetsCloseAtBoundariesAndSteps :
    let s := fun now => timed (channelRunning (some 0) 2) now 0
    let o : OpenSet := { members := [{ channel := 0 }], short := false, nextBoundary := 100000 }
    (s 100000).groups[(0 : GroupNo)].openSet = some o ∧ (o.members.map (·.channel)).Nodup
      ∧ (s 100000).svp.station = .run ∧ later o.nextBoundary (s 100000).tmu.lineTime = false
      ∧ later o.nextBoundary (s 99999).tmu.lineTime = true
      ∧ StepEvent.inSpan { before := 99999, advance := 1 } o.nextBoundary = true
      ∧ StepEvent.inSpan { before := 100000, advance := 100000 } o.nextBoundary = false
      ∧ StepEvent.inSpan { before := 100000, advance := 100000 } (BitVec.ofNat 32 (2 * (1000 * 100))) = true
      ∧ StepEvent.backward { before := 5, advance := 0x80000000 } = true := by decide +kernel

theorem witness_SlaveEdgeIsTaken :
    let s := capturing .speed false false false 1 8
    s.edgeComes { input := 2 } 0x04 ∧ (1 : CaptureNo) ∉ s.pulses.slaves ∧ (s.tellSample 0x00).pulses.now = some 0x00
      ∧ s.captures[(1 : CaptureNo)].config.slave = some { input := 2 } ∧ (∀ m ∈ [CaptureMode.speed, .totaliser, .general],
      (capturing m false true false 0 8).captures[(1 : CaptureNo)].running = true)
      ∧ s.captures[(1 : CaptureNo)].config.mode = .speed
      ∧ 0 < s.tsv.effectiveTeeth ∧ s.captures[(1 : CaptureNo)].firstSlave = false ∧ s.tsv.toothReference = some 0
      ∧ (capturing .speed false true false 1 8).captures[(1 : CaptureNo)].firstSlave = true :=
  ⟨edgeComes_of (by decide), by decide +kernel⟩

/-- Two units whose sources name one edge both receive it, each once, and at one stamp; the command that tells the sample is
for one of them, and the other's waits until the period may end (R73). -/
theorem test_one_edge_reaches_every_source :
    let u : Capture := { config := { mode := .general, master := { input := 1 } }, running := true }
    let s := after (.masterEdge 1 ⟨0x02, []⟩) ((capturing .general false false false 0 8).putCapture 3 u)
    let t := s.tick
    s.captures[(1 : CaptureNo)].masterCount = 1 ∧ t.pending = [.masterEdge 3 ⟨0x02, []⟩] ∧ t.tmu = s.tmu
      ∧ (after (.masterEdge 3 ⟨0x02, []⟩) s).captures[(3 : CaptureNo)].masterCount = 1
      ∧ (after (.masterEdge 1 ⟨0x02, []⟩) s).captures[(1 : CaptureNo)].masterCount = 1 := by decide +kernel

/-- A step of line time between the commands for two units whose sources name one edge leaves the edge's line stamp: both
records carry the same (R73, R85). -/
theorem test_one_edge_has_one_line_stamp :
    let u : Capture := { config := { mode := .general, master := { input := 1 } }, running := true }
    let s := after (.masterEdge 1 ⟨0x02, []⟩) ((capturing .general false false false 0 8).putCapture 3 u)
    let t := after (.masterEdge 3 ⟨0x02, []⟩) (s.putTmu { s.tmu with lineTime := 500 })
    s.tmu.lineTime = 0 ∧ ([1, 3].map fun n : CaptureNo => t.captures[n].history.map (·.lineTime)) = [[0], [0]]
      ∧ t.pulses.lineStamps[(1 : Fin 8)] = some 0 := by decide +kernel

/-- The entry to RUN keeps the sample of its period: an edge that a first sample showed is lost, and a second, different sample
of the same period is not admitted (R73, R75). -/
theorem test_one_sample_a_period_across_the_entry :
    let s := after (.startStation []) (((capturing .general false true false 0 8).putSvp inConfig.svp).tellSample 0x02)
    s.svp.station = .run ∧ s.pulses.now = some 0x02 ∧ s.pulses.before = some 0x02
      ∧ after (.masterEdge 1 ⟨0x00, []⟩) s = s
      ∧ (after (.masterEdge 1 ⟨0x02, []⟩) s).captures[(1 : CaptureNo)].masterCount = 0 := by decide +kernel

/-- A value above the trip limit that fills the overspeed window latches a trip of that speed (R95, R97). -/
theorem test_overspeed_trips :
    let s := capturing .speed false false false 0 480000
    let t := after (.masterEdge 1 ⟨0x02, []⟩) (s.putTsv { s.tsv with
      config := { tripLimit := 9999, overWindow := 1, overCount := 1 } })
    t.tsv.record = some { time := 0, cause := .overspeedRev, speed := 10000 } := by decide +kernel

theorem witness_MasterEdgeIsTaken :
    let u := fun (s : State) => s.captures[(1 : CaptureNo)]
    let polling := capturing .general true false
    let speed := capturing .speed false false false 1 8
    (polling true 0 0).edgeComes { input := 1 } 0x02 ∧ speed.edgeComes { input := 1 } 0x02
      ∧ (1 : CaptureNo) ∉ speed.pulses.masters ∧ (u speed).config.master = { input := 1 }
      ∧ (u (polling true 0 0)).running = true ∧ (u (polling true 0 0)).config.mode = .general
      ∧ (u (polling true 0 0)).config.poll = true ∧ (u (polling true 0 0)).taken = true
      ∧ (u (polling false 0 0)).taken = false ∧ (u speed).config.mode = .speed ∧ (u speed).firstMaster = false
      ∧ speed.tsv.revolutionReference = some 0 ∧ 0 < speed.tsv.effectiveTeeth ∧ (u speed).betweenCount = 0
      ∧ (u (capturing .speed false true false 0 8)).firstMaster = true
      ∧ (u (polling true 0 800000)).pollTimer = some 0
      ∧ (speed.putPulses (speed.pulses.received 7 { input := 1 })).pulses.lineStamps[(1 : Fin 8)] = some 7
      ∧ Instr.isReset .gap = false
      ∧ 8000 * (u (polling true 0 800000)).config.pollMs ≤ ((polling true 0 800000).tmu.localCount - 0).toNat :=
  ⟨edgeComes_of (by decide), edgeComes_of (by decide), by decide +kernel⟩

theorem witness_SupervisorTimersExpire :
    let s := capturing .speed false false false 1
    (s 0).svp.station = .run ∧ (s 0).tsv.revolutionReference = some 0 ∧ (s 0).tsv.toothReference = some 0
      ∧ (s 0).tsv.stallTimer = some 0 ∧ 2 ^ 31 ≤ ((s (2 ^ 31)).tmu.localCount - 0).toNat
      ∧ 800000 * (s 0).tsv.config.stallSteps = 16000000 ∧ 16000000 ≤ ((s 16000000).tmu.localCount - 0).toNat
      ∧ ((s 15999999).tmu.localCount - 0).toNat < 16000000 := by decide +kernel

/-- Station 5 in RUN with its latch set and a supervised speed. -/
def tripped (speed : Nat) : State :=
  inRun.putTsv { config := { resetLimit := 100 }, latch := true, viewActive := true, supervisedSpeed := speed }

theorem witness_TripAndResetTrip :
    inRun.admitsRun ∧ inRun.tsv.latch = false ∧ (tripped 100).admitsRun ∧ (tripped 99).admitsRun
      ∧ (tripped 100).tsv.latch = true ∧ (tripped 100).tsv.config.resetLimit ≤ (tripped 100).tsv.supervisedSpeed
      ∧ (tripped 99).tsv.supervisedSpeed < (tripped 99).tsv.config.resetLimit :=
  ⟨admitsRun_of (by decide), rfl, admitsRun_of (by decide), admitsRun_of (by decide), by decide⟩

theorem witness_KFactorInterpolates :
    (0 : Int) ≤ 0 ∧ (15000 : Int) ≤ 15000 ∧ (1000 * ((0 : Fin 15).val : Int) ≤ 1 ∧ (1 : Int) < 1000 * (((0 : Fin 15).val : Int) + 1))
      ∧ (1000 * ((14 : Fin 15).val : Int) ≤ 14999 ∧ (14999 : Int) < 1000 * (((14 : Fin 15).val : Int) + 1))
      ∧ ∀ i : Fin 16, 3000 ≤ ({} : HeatConfig).kTable[i] ∧ ({} : HeatConfig).kTable[i] ≤ 4500 := by decide +kernel

/-- Station 5 in RUN with a TOTALISER at input 2 as unit 2, all inputs low in the period before, and channels 0 and 1 as
supply and return with their readings. -/
def metering (supply ret : Option Int) : State :=
  let u : Capture := { config := { mode := .totaliser, master := { input := 2 } }, running := true }
  let s := ((inRun.putCapture 2 u).putPulses { before := some 0 }).putHmt { config := { supply := some 0, ret := some 1 } }
  (s.putChannel 0 { latest := supply }).putChannel 1 { latest := ret }

theorem witness_FlowPulseIsMetered :
    let s := fun a b => metering (some a) (some b)
    (metering none none).captures[(2 : CaptureNo)].running = true
      ∧ (metering none none).captures[(2 : CaptureNo)].config.mode = .totaliser
      ∧ (∃ why, (metering none (some 0)).meterReadings = .error why)
      ∧ (s 5001 5000).meterReadings = .ok (5001, 5000) ∧ (s 5000 5001).meterReadings = .ok (5000, 5001)
      ∧ (s 5000 5000).meterReadings = .ok (5000, 5000) ∧ (s 5000 5000).edgeComes { input := 2 } 0x04
      ∧ (2 : CaptureNo) ∉ (s 5000 5000).pulses.masters :=
  ⟨rfl, rfl, ⟨.supplyAbsent, rfl⟩, rfl, rfl, rfl, edgeComes_of (by decide), by decide⟩

/-- An evaluation with a basis and a UA, or without a basis. -/
def evaluated (basis : Option NoBasis) (ua : Option Nat) : Evaluation :=
  { record := { endTime := 0, index := none, ua := ua, pressure := none, watch := false, alarm := false }
    hotIn := none, hotOut := none, coldIn := none, coldOut := none, noBasis := basis, meanDifference := none
    energy := 0, pulses := 0, kilojoules := 0 }
/-- Station 5 in RUN with an active scaling watch in a state, and an open interval from 0 to 60 s. -/
def watching (state : ScalingState) (acknowledged short : Bool) (latest : Option Evaluation) (now : Nat) : State :=
  let i : Interval := { opened := 0, short := short, nextBoundary := 60000000 }
  timed (inRun.putScw { active := true, interval := some i, state := state, acknowledged := acknowledged, latest := latest })
    now 0

theorem witness_MeterRequests :
    let s := fun state ack latest => watching state ack false latest 0
    (s .clear false none).admitsRun ∧ (s .clear false none).scw.state ≠ .alarm
      ∧ (s .alarm true none).scw.acknowledged = true ∧ (s .alarm false none).scw.acknowledged = false
      ∧ (s .clear false (some (evaluated (some .noEnergy) none))).scw.latest = some (evaluated (some .noEnergy) none)
      ∧ (evaluated (some .noEnergy) none).noBasis ≠ none
      ∧ (∀ ua ∈ [0, 1, 2147483647, 2147483648], (evaluated none (some ua)).noBasis = none
          ∧ (evaluated none (some ua)).record.ua = some ua) :=
  ⟨admitsRun_of (by decide), by decide +kernel⟩

/-- An interval with one usable reading of each channel and an energy. -/
def measured (hotIn hotOut coldIn coldOut : Int) (energy : Nat) : Interval :=
  { opened := 0, short := false, nextBoundary := 60000000, energy := energy
    hotIn := { sum := hotIn, count := 1 }, hotOut := { sum := hotOut, count := 1 }
    coldIn := { sum := coldIn, count := 1 }, coldOut := { sum := coldOut, count := 1 } }

/-- With a = b = 100 the mean difference is 100, the least that gives a basis (R132). -/
theorem witness_IntervalIsEvaluated :
    let basis := fun i => (evaluate {} i 60000000).noBasis
    (evaluate {} { opened := 0, short := false, nextBoundary := 0 } 0).hotIn = none
      ∧ basis (measured 6000 5100 5000 5900 0) = some .noEnergy
      ∧ basis (measured 5900 5100 5000 5900 1) = some .hotEndCrossed
      ∧ basis (measured 6000 5000 5000 5900 1) = some .coldEndCrossed
      ∧ basis (measured 5999 5099 5000 5900 1) = some .dtSmall ∧ basis (measured 6000 5100 5000 5900 1) = none := by
  decide +kernel

theorem witness_IntervalsClose :
    let s := fun short now => watching .clear false short none now
    let i : Bool → Interval := fun short => { opened := 0, short := short, nextBoundary := 60000000 }
    (s false 0).scw.active = true ∧ (∀ b, (s b 0).scw.interval = some (i b)) ∧ (s false 60000000).svp.station = .run
      ∧ later 60000000 (s true 60000000).tmu.lineTime = false ∧ later 60000000 (s true 59999999).tmu.lineTime = true
      ∧ (60000000 : LineTime) ≠ 0 ∧ StepEvent.inSpan { before := 59999999, advance := 1 } 60000000 = true
      ∧ StepEvent.inSpan { before := 0, advance := 59999999 } 60000000 = false := by decide +kernel

theorem witness_ScalingStateIsDecided :
    let s := watching .alarm true false none 60000000
    s.scw.state = .alarm ∧ (after .intervalBoundary s).scw.state ≠ .alarm ∧ Instr.isReset .intervalBoundary = false
      ∧ exec .intervalBoundary s = .next (after .intervalBoundary s) :=
  ⟨by decide, by decide +kernel, rfl, exec_after _ _⟩

/-! Worked cases and sequences of chapters 4 to 7. -/

/-- The meter of chapter 6's worked cases, with a volume per pulse and what it held before. -/
def meterBefore (volume : Nat) (supply ret : Int) (h : Hmt) : State :=
  (metering (some supply) (some ret)).putHmt { h with config := { volume := volume, supply := some 0, ret := some 1 } }

/-- The worked case of a forward pulse at normal values. -/
theorem test_forward_pulse_of_the_case :
    let h := (after (.masterEdge 2 ⟨0x04, []⟩) (meterBefore 2500 9540 5515
      { forwardResidue := 60000000, forwardKj := 1000000 })).hmt
    h.forwardKj = 1000415 ∧ h.forwardResidue = 47687500
      ∧ h.lastPulse.map (fun r => (r.k, r.energy, r.carry)) = some (some 4123, some 41487687500, some 415) := by decide +kernel

/-- The worked case of a reverse pulse. -/
theorem test_reverse_pulse_of_the_case :
    let h := (after (.masterEdge 2 ⟨0x04, []⟩) (meterBefore 2500 4000 4520 { reverseKj := 12 })).hmt
    h.reverseKj = 65 ∧ h.reverseResidue = 80700000 ∧ h.forwardPulses = 0 := by decide +kernel

/-- The worked case of the largest pulse, a clamp and a wrap. -/
theorem test_largest_pulse_of_the_case :
    let h := (after (.masterEdge 2 ⟨0x04, []⟩) (meterBefore 65535 40000 5000
      { forwardResidue := 99999999, forwardKj := 1099511577776 })).hmt
    h.forwardKj = 31218 ∧ h.forwardResidue = 52549999 ∧ h.forwardWrap = true ∧ h.clampFlag = true := by decide +kernel

/-- The worked evaluation of an interval with a basis. -/
theorem test_evaluation_with_a_basis :
    let e := evaluate {} (measured 16000 7000 5500 9500 21600000000000) 1860000000
    e.meanDifference = some 4000 ∧ e.record.ua = some 90000 ∧ e.record.index = some 900 ∧ e.kilojoules = 216000
      ∧ e.record.watch = false := by decide +kernel

/-- The third worked evaluation of the other three: the index is clamped to 2000. -/
theorem test_evaluation_clamped :
    (evaluate { baseline := 40000 } (measured 16000 7000 5500 9500 21600000000000) 0).record.index = some 2000 := by
  decide +kernel

/-- The SPEED sequence of chapter 4: the third master edge, 160,000 periods after the second. -/
theorem test_revolution_of_the_sequence :
    let s := (capturing .speed false false false 4 1340000).putTsv { revolutionReference := some 1180000 }
    (after (.masterEdge 1 ⟨0x02, []⟩) s).tsv.revolutionSpeed = 30000 := by decide +kernel

/-! Witnesses of chapters 8 and 9. -/

/-- A candidate start of a plan, n granules after the search start, is free for a window of some length (R156). -/
abbrev freeAt (s : State) (length : Nat) (search : LineTime) (n : Nat) : Prop :=
  (∀ i, i < length → ∀ w ∈ s.spl.windows,
      w.activeAt (search + BitVec.ofNat 32 (1024 * n) + BitVec.ofNat 32 (1024 * i)) = false)
    ∧ ∀ c ∈ s.spl.claims, windowsOverlap (search + BitVec.ofNat 32 (1024 * n)) length c.start c.length = false

/-- The plant with a fixed window over every granule (R146). -/
def blockedPlant : State := plant.putSpl { windows := [{ exponent := 20, offset := 0, length := 1024 }] }

theorem blocked_everywhere (t : LineTime) : FixedWindow.activeAt { exponent := 20, offset := 0, length := 1024 } t = true := by
  simp only [FixedWindow.activeAt, Bool.and_eq_true, decide_eq_true_eq]
  omega

/-- The plant with slots 0 and 1 taken for units 0 and 3 and a pump as unit 2. -/
def fullPlant : State :=
  ((plant.putUnit 2 pump).putSlot 0 { state := .waiting .noWindow, unit := 0 }).putSlot 1
    { state := .waiting .noWindow, unit := 3 }

theorem witness_StartPumpTakesAndPlans :
    (∀ s ∈ [planExample, fullPlant, blockedPlant], s.svp.reply = none ∧ s.svp.receiver ≠ .discard ∧ s.svp.station = .run)
      ∧ (¬∃ d : DefNo, plant.units[(0 : UnitNo)].defs[d].enabled = true)
      ∧ (∃ d : DefNo, plant.units[(1 : UnitNo)].defs[d].enabled = true)
      ∧ later (plant.tmu.lineTime + 600000001) plant.tmu.lineTime = true
      ∧ 600000000 < ((plant.tmu.lineTime + 600000001) - plant.tmu.lineTime).toNat
      ∧ (claimed .announced 0).slotState 0 ≠ .free ∧ (claimed .announced 0).spl.slots[(0 : SlotNo)].unit = 1
      ∧ fullPlant.slotState 0 ≠ .free ∧ fullPlant.slotState 1 ≠ .free ∧ fullPlant.units[(2 : UnitNo)].state = .idle
      ∧ (∀ k : SlotNo, fullPlant.spl.slots[k].unit ≠ 2)
      ∧ planExample.slotState 0 = .free ∧ planExample.units[(1 : UnitNo)].state = .idle
      ∧ (planExample.config.settleMs * 1000 + 10000 + 1023) / 1024 = 59
      ∧ freeAt planExample 20 10060800 75 ∧ (∀ m, m < 75 → ¬freeAt planExample 20 10060800 m)
      ∧ (∀ c ∈ planExample.spl.claims, planExample.isOwnEntry 0 c = false)
      ∧ (planExample.putSpl { planExample.spl with tripHold := true }).spl.tripHold = true
      ∧ planExample.spl.tripHold = false := by decide +kernel

theorem witness_StartPumpFindsNoWindow : ∀ n, n ≤ 65536 → ¬freeAt blockedPlant 20 10060800 n := fun n _ h =>
  Bool.noConfusion ((blocked_everywhere _).symm.trans (h.1 0 (by decide) _ (.head _)))

theorem witness_ClaimsAreWithdrawnAndExpire :
    let s := fun withdrawals now => timed (claimed .announced withdrawals) now 80000000
    let own : Claim := { peerEntry 5 9900 20 with unit := 1 }
    PumpsAgree (s 8 10137600) ∧ PumpsAgree (s 7 10137599) ∧ QueueOrdered (s 8 10137600)
      ∧ (s 8 10137600).config.settleMs ≤ 500 ∧ (s 8 10137600).spl.slots[(0 : SlotNo)].earliest = none
      ∧ (s 8 10137600).svp.station = .run ∧ ((s 8 10137600).slotState 0).unsettled = true
      ∧ (s 8 10137600).ownEntry? 0 = some own ∧ later own.start (s 8 10137600).tmu.lineTime = false
      ∧ later own.start (s 7 10137599).tmu.lineTime = true
      ∧ 9 ≤ (s 8 0).spl.slots[(0 : SlotNo)].withdrawals + 1 ∧ (s 7 0).spl.slots[(0 : SlotNo)].withdrawals + 1 < 9
      ∧ (s 0 0).lineEnabled = true ∧ later own.endTime (s 0 (10137600 + 20480)).tmu.lineTime = false
      ∧ own ∈ (s 0 0).spl.claims
      ∧ ∀ c ∈ (s 0 0).spl.claims, later c.endTime (s 0 (10137600 + 20479)).tmu.lineTime = true :=
  ⟨pumpsAgree_of (by decide +kernel), pumpsAgree_of (by decide +kernel),
    ⟨by decide +kernel, by decide +kernel, by decide +kernel⟩, by decide +kernel⟩

/-- The claimed plant with slot 0 SETTLING for just its settle interval, with more entries, under the trip hold or not. -/
def settling (others : List Claim) (withdrawals : Nat) (tripHold : Bool) : State :=
  let s := claimed (.settling 79600000) withdrawals
  s.putSpl { s.spl with claims := s.spl.claims ++ others, tripHold := tripHold }

theorem witness_SettleEndJudgesTheClaim :
    let s := fun others withdrawals hold => settling others withdrawals hold
    let own : Claim := { peerEntry 5 9900 20 with unit := 1 }
    let clear := s [] 0 false
    PumpsAgree clear ∧ PumpsAgree (s [] 0 true) ∧ PumpsAgree (s [peerEntry 2 9919 1] 8 false)
      ∧ clear.svp.station = .run ∧ clear.slotState 0 = .settling 79600000 ∧ clear.ownEntry? 0 = some own
      ∧ 8000 * clear.config.settleMs ≤ (clear.tmu.localCount - 79600000).toNat
      ∧ (s [] 0 true).spl.tripHold = true ∧ clear.spl.tripHold = false ∧ clear.spl.scalingHold = false
      ∧ (peerEntry 2 9919 1).station < clear.stationNo ∧ (peerEntry 2 9919 1).overlaps own = true
      ∧ peerEntry 2 9919 1 ∈ (s [peerEntry 2 9919 1] 8 false).spl.claims
      ∧ (¬∃ c ∈ clear.spl.claims, (c.station < clear.stationNo ∨ c.firm = true ∧ c.station ≠ clear.stationNo) ∧ c.overlaps own = true)
      ∧ (¬∃ w ∈ clear.spl.windows, ∃ i, i < own.length ∧ w.activeAt (own.start + BitVec.ofNat 32 (1024 * i)) = true)
      ∧ clear.units[own.unit].tripFlag = false
      ∧ ∀ d ∈ clear.units[own.unit].defsOf .start,
          later (own.start + BitVec.ofNat 32 (clear.units[own.unit].cumulativeOffset d)) clear.tmu.lineTime = true :=
  ⟨pumpsAgree_of (by decide +kernel), pumpsAgree_of (by decide +kernel), pumpsAgree_of (by decide +kernel),
    by decide +kernel⟩

theorem witness_FirmOnlyWhenNothingStandsAgainst :
    let s := settling [] 0 false
    exec (.settleTimerExpiry 0) s = .next (after (.settleTimerExpiry 0) s) ∧ s.slotState 0 ≠ .firm
      ∧ (after (.settleTimerExpiry 0) s).slotState 0 = .firm :=
  ⟨exec_after _ _, by decide +kernel, by decide +kernel⟩

/-- The claimed plant with slot 0 in a state that hears a CLAIM of a window that touches its last granule. -/
def hearsClaim (x : SlotState) (sender : StationNo) (tag granule : Nat) : State :=
  holding (claimed x 0) 2 sender (BitVec.ofNat 8 tag :: bytesOf 4 (1024 * granule) ++ bytesOf 2 20)

theorem witness_HeardClaimsAreJudged :
    let p := fun tag granule => BitVec.ofNat 8 tag :: bytesOf 4 (1024 * granule) ++ bytesOf 2 20
    let heard := fun sender firm => ({ peerEntry sender 9919 20 with firm := firm } : Claim)
    let own : Claim := { peerEntry 5 9900 20 with unit := 1 }
    (holding (claimed .firm 0) 3 2 [0, 1]).hears 3 2 [0, 1]
      ∧ (hearsClaim .announced 2 0 9919).hears 2 2 (p 0 9919) ∧ (hearsClaim .announced 9 0 9919).hears 2 9 (p 0 9919)
      ∧ (hearsClaim .firm 9 128 9919).hears 2 9 (p 128 9919) ∧ (hearsClaim .firm 9 0 9920).hears 2 9 (p 0 9920)
      ∧ PumpsAgree (hearsClaim .announced 2 0 9919) ∧ PumpsAgree (hearsClaim .firm 9 128 9919)
      ∧ ClaimTableSound (hearsClaim .announced 2 0 9919) ∧ ClaimTableSound (hearsClaim .firm 9 128 9919)
      ∧ (hearsClaim .announced 2 0 9919).peers[(2 : StationNo)].silent = false
      ∧ (hearsClaim .announced 2 0 9919).ownEntry? 0 = some own
      ∧ own.overlaps (heard 2 false) = true ∧ own.overlaps (peerEntry 9 9920 20) = false
      ∧ later (heard 2 false).endTime (hearsClaim .announced 2 0 9919).tmu.lineTime = true
      ∧ later (peerEntry 2 0 20).endTime (hearsClaim .announced 2 0 9919).tmu.lineTime = false :=
  ⟨hears_of (by decide +kernel), hears_of (by decide +kernel), hears_of (by decide +kernel), hears_of (by decide +kernel),
    hears_of (by decide +kernel), pumpsAgree_of (by decide +kernel), pumpsAgree_of (by decide +kernel),
    ⟨by decide +kernel, by decide +kernel, by decide +kernel, by decide +kernel⟩,
    ⟨by decide +kernel, by decide +kernel, by decide +kernel, by decide +kernel⟩, by decide +kernel⟩

/-- Station 5 in CONFIG with a fixed window table. -/
def windowed (ws : List FixedWindow) : State := inConfig.putSpl { windows := ws }

theorem windowTableSound_of {s : State}
    (h : s.spl.windows.length ≤ 8 ∧ (∀ w ∈ s.spl.windows, 20 ≤ w.exponent ∧ w.exponent ≤ 31 ∧ 1 ≤ w.length
        ∧ w.offset + w.length ≤ 2 ^ (w.exponent - 10))
      ∧ s.spl.windows.Pairwise fun v w =>
          v.exponent = w.exponent → v.offset + v.length ≤ w.offset ∨ w.offset + w.length ≤ v.offset) :
    WindowTableSound s := ⟨h.1, h.2.1, h.2.2⟩

theorem witness_SetWindowChecksInOrder :
    let eight := (List.range 8).map fun i => ({ exponent := 20, offset := i, length := 1 } : FixedWindow)
    let status := fun ws e offset length => (reply (.setWindow (e :: bytesOf 3 offset ++ bytesOf 3 length)) (windowed ws)).map (·.status)
    (windowed [window64]).admitsConfiguration ∧ WindowTableSound (windowed [window64])
      ∧ (windowed eight).admitsConfiguration ∧ WindowTableSound (windowed eight)
      ∧ status [window64] 19 64 1 = some .periodRange ∧ status [window64] 32 64 1 = some .periodRange
      ∧ status [window64] 20 64 0 = some .lengthZero ∧ status [window64] 20 64 961 = some .exceedsPeriod
      ∧ status [window64] 20 63 1 = some .overlap ∧ status [window64] 20 64 960 = some .success
      ∧ status [window64] 31 0 1 = some .success ∧ status eight 20 8 1 = some .noFreeWindow :=
  ⟨admitsConfiguration_of (by decide +kernel), windowTableSound_of (by decide +kernel),
    admitsConfiguration_of (by decide +kernel), windowTableSound_of (by decide +kernel), by decide +kernel⟩

/-- The plant with unit 1 in a state with a queue, and its first edge of the start output or not. -/
def unitIn (x : UnitState) (queue : List Edge) (edgeMark : Bool) : State :=
  plant.putUnit 1 { pump with state := x, queue := queue, edgeMark := edgeMark }
/-- An edge of unit 1. -/
def edgeOfPump (origin : Origin) (due : Nat) : Edge :=
  { sequence := 0, output := 0, high := true, due := BitVec.ofNat 32 due, origin := origin, startNumber := 0 }

theorem witness_StopPumpStops :
    let starting := unitIn .starting [edgeOfPump .start 10000001] false
    let running := unitIn .running [] true
    let stopping := unitIn .stopping [edgeOfPump .stop 10000001] true
    let now : LineTime := 10000000
    (∀ s ∈ [plant, starting, running, stopping, claimed .announced 0],
      s.svp.reply = none ∧ s.svp.receiver ≠ .discard ∧ s.svp.station = .run ∧ s.tmu.lineTime = now)
      ∧ PumpsAgree starting ∧ PumpsAgree running ∧ PumpsAgree stopping ∧ PumpsAgree (claimed .announced 0)
      ∧ ((claimed .announced 0).slotState 0).before = true ∧ (claimed .announced 0).spl.slots[(0 : SlotNo)].unit = 1
      ∧ (∀ k : SlotNo, (running.slotState k).before = false)
      ∧ later (now + 600000001) now = true ∧ 600000000 < ((now + 600000001) - now).toNat
      ∧ ((now + 600000000) - now).toNat ≤ 600000000
      ∧ 4 ≤ (4 : Byte).toNat ∧ later now now = false
      ∧ ∀ d ∈ running.units[(1 : UnitNo)].defsOf .stop,
          later ((now + 1) + BitVec.ofNat 32 (running.units[(1 : UnitNo)].cumulativeOffset d)) now = true :=
  ⟨by decide +kernel, pumpsAgree_of (by decide +kernel), pumpsAgree_of (by decide +kernel),
    pumpsAgree_of (by decide +kernel), pumpsAgree_of (by decide +kernel), by decide +kernel⟩

theorem witness_DueEdgeIsOutput :
    let e := edgeOfPump .start
    let s := fun a b => unitIn .starting [e a, e b] false
    (s 9999999 10000000).svp.station = .run
      ∧ (s 10000000 10000001).units[(1 : UnitNo)].queue = [] ++ e 10000000 :: [e 10000001]
      ∧ (s 9999999 10000000).units[(1 : UnitNo)].queue = [e 9999999] ++ e 10000000 :: []
      ∧ (∀ d ∈ [e 9999999] ++ [e 10000000], later d.due (s 9999999 10000000).tmu.lineTime = false)
      ∧ later (e 10000001).due (s 10000000 10000001).tmu.lineTime = true
      ∧ (∃ d ∈ [e 9999999] ++ [e 10000000], d.origin = .start) ∧ (s 9999999 10000000).units[(1 : UnitNo)].edgeMark = false
      ∧ PumpsAgree ((claimed .firm 0).putUnit 1 { pump with state := .starting, queue := [edgeOfPump .start 10000000] }) :=
  ⟨by decide +kernel, by decide +kernel, by decide +kernel, by decide +kernel, by decide +kernel, by decide +kernel,
    by decide +kernel, pumpsAgree_of (by decide +kernel)⟩

theorem witness_LateEdgesAreCaughtUp :
    let late := fun due => lateness (BitVec.ofNat 32 due) plant.tmu.lineTime
    (unitIn .starting [edgeOfPump .start 9979999] true).units[(1 : UnitNo)].queue = edgeOfPump .start 9979999 :: []
      ∧ plant.units[(1 : UnitNo)].config.catchUp = 20000 ∧ late 9999999 = 1 ∧ late 9980000 = 20000 ∧ late 9979999 = 20001
      ∧ (edgeOfPump .stop 9979999).origin = .stop
      ∧ StepEvent.inSpan { before := 9979998, advance := 20002 } plant.tmu.lineTime = true
      ∧ StepEvent.inSpan { before := 9979998, advance := 20002 } (edgeOfPump .start 9979999).due = true
      ∧ StepEvent.inSpan { before := 9979999, advance := 20001 } (edgeOfPump .start 9979999).due = false := by decide +kernel

/-- An abort writes its stop entries due at the present line time, whatever their offsets, and they are output at once
(R188, R189). -/
theorem test_abort_stops_at_once :
    let s := plant.putUnit 1 { pump with
      state := .starting, queue := [edgeOfPump .start 9979999], edgeMark := true
      defs := pump.defs.set 1 { enabled := true, high := true, basis := .stop, offset := 700 } }
    let t := s.unitStep 1 { before := 9979998, advance := 20002 }
    (t.units[(1 : UnitNo)].state, t.units[(1 : UnitNo)].queue, t.units[(1 : UnitNo)].outputCount, t.outputs[(0 : OutputNo)])
        = (.idle, [], 1, true)
      ∧ t.isPending (.startAborted 1) = true ∧ t.isPending (.edgeLate 1) = false := by decide +kernel

/-- A backward step takes an entry that is reached at "after" behind one that is not (R189). -/
theorem test_backward_step_judges_each_entry :
    let s := unitIn .stopping [edgeOfPump .stop 10000001, edgeOfPump .stop (10000000 + 2 ^ 31)] true
    ((s.unitStep 1 { before := 5, advance := 0x80000000 }).units[(1 : UnitNo)]).queue
      = [edgeOfPump .stop 10000001] := by decide +kernel

theorem witness_ShedFollowsTheOnset :
    let running := plant.putUnit 1 { pump with state := .running, config := { shedEnable := true, shedBaseMs := 60000 } }
    let u := running.units[(1 : UnitNo)]
    let starting := (claimed .firm 0).putUnit 1 { pump with state := .starting, queue := [edgeOfPump .start 10000001] }
    u.state = .running ∧ u.sound ∧ u.config.shedEnable = true
      ∧ (unitIn .running [] true).units[(1 : UnitNo)].config.shedEnable = false
      ∧ PumpsAgree starting ∧ starting.units[(1 : UnitNo)].sound
      ∧ starting.units[(1 : UnitNo)].state = .starting ∧ starting.units[(1 : UnitNo)].edgeMark = false
      ∧ starting.slotState 0 = .firm ∧ starting.spl.slots[(0 : SlotNo)].unit = 1 :=
  ⟨by decide +kernel, ⟨by decide, by decide, by decide, by decide, by decide, by decide⟩, by decide +kernel,
    by decide +kernel, pumpsAgree_of (by decide +kernel), (pumpsAgree_of (by decide +kernel)).units 1, by decide +kernel⟩

/-! Witnesses of chapters 10 and 11. -/

theorem witness_StationGroupAndChannelAreSet :
    let status := fun c => (reply c inConfig).map (·.status)
    let station := fun roles beacon : Nat =>
      status (.setStation ([BitVec.ofNat 8 roles, BitVec.ofNat 8 beacon] ++ bytesOf 2 10000 ++ bytesOf 2 1 ++ bytesOf 2 500
        ++ bytesOf 4 (2 ^ 21 - 1)))
    let channel := fun number flags k : Nat =>
      status (.setChannel ([BitVec.ofNat 8 number, BitVec.ofNat 8 flags, BitVec.ofNat 8 k, 3] ++ bytesOf 4 0 ++ bytesOf 4 1
        ++ signedBytes 2 (-32768) ++ signedBytes 2 (-32768) ++ [8, 1]))
    inConfig.admitsConfiguration ∧ RestOutsideRun inConfig
      ∧ station 7 10 = some .success ∧ station 8 10 = some .range ∧ station 0 0 = some .range ∧ station 0 11 = some .range
      ∧ channel 7 0x25 8 = some .success ∧ channel 8 0 5 = some .range ∧ channel 0 6 5 = some .range
      ∧ channel 0 0x28 5 = some .range ∧ channel 0 0x40 5 = some .range ∧ channel 0 0 9 = some .range
      ∧ status (.setGroup ([1] ++ bytesOf 2 1000 ++ [64])) = some .success
      ∧ status (.setGroup ([2] ++ bytesOf 2 1000 ++ [64])) = some .range
      ∧ status (.setGroup ([1] ++ bytesOf 2 1001 ++ [64])) = some .range :=
  ⟨admitsConfiguration_of (by decide), restOutsideRun_inConfig, by decide +kernel⟩

theorem witness_MeasurementBlocksAreSet :
    let status := fun c s => (reply c s).map (·.status)
    let speed := after .replyComplete (after (.setCapture [0, 1, 0, 0xFF, 0, 0, 1]) inConfig)
    let heat := fun volume supply ret k : Nat =>
      status (.setHeat (bytesOf 2 volume ++ [BitVec.ofNat 8 supply, BitVec.ofNat 8 ret]
        ++ (List.replicate 16 k).flatMap (bytesOf 2))) inConfig
    let turbine := fun trip reset stall : Nat =>
      status (.setTurbine ([0] ++ bytesOf 2 trip ++ bytesOf 2 reset ++ [8, 1, 8, 1, BitVec.ofNat 8 stall])) inConfig
    inConfig.admitsConfiguration
      ∧ speed.captures[(0 : CaptureNo)].config.mode = .speed
      ∧ status (.setCapture [1, 1, 1, 0xFF, 0, 0, 1]) speed = some .range
      ∧ status (.setCapture [1, 2, 1, 0xFF, 15, 0, 255]) speed = some .success
      ∧ status (.setCapture [1, 2, 1, 2, 0, 0, 1]) inConfig = some .range
      ∧ status (.setCapture [1, 3, 1, 9, 0, 1, 1]) inConfig = some .success
      ∧ status (.setCapture [1, 3, 1, 1, 0, 1, 1]) inConfig = some .range
      ∧ turbine 1 1 5 = some .success ∧ turbine 1 2 5 = some .range ∧ turbine 1 1 4 = some .range
      ∧ turbine 1 1 100 = some .success ∧ turbine 1 1 101 = some .range
      ∧ heat 1 7 0xFF 3000 = some .success ∧ heat 1 8 0xFF 3000 = some .range ∧ heat 0 7 0xFF 3000 = some .range
      ∧ heat 1 7 7 4500 = some .range ∧ heat 1 0xFF 0xFF 4500 = some .success ∧ heat 1 7 6 4501 = some .range
      ∧ status (.setScaling (bytesOf 2 10 ++ [0, 1, 0xFF] ++ bytesOf 4 2147483647 ++ bytesOf 2 1000 ++ bytesOf 2 999
          ++ bytesOf 4 0 ++ bytesOf 4 0 ++ [1, 8, 8])) inConfig = some .success
      ∧ status (.setScaling (bytesOf 2 10 ++ [0, 0, 0xFF] ++ bytesOf 4 1 ++ bytesOf 2 1000 ++ bytesOf 2 999
          ++ bytesOf 4 0 ++ bytesOf 4 0 ++ [1, 8, 8])) inConfig = some .range :=
  ⟨admitsConfiguration_of (by decide), by decide +kernel⟩

theorem witness_UnitsEdgesAndWatchListAreSet :
    let status := fun c s => (reply c s).map (·.status)
    let s := inConfig.putUnit 1 pump
    let edge := fun unit place flags output basis : Nat =>
      status (.setEdge ([unit, place, flags, output, basis].map (BitVec.ofNat 8) ++ bytesOf 3 (2 ^ 24 - 1))) s
    s.admitsConfiguration
      ∧ status (.setUnit ([3, 3] ++ bytesOf 2 65535 ++ bytesOf 4 1000000 ++ bytesOf 2 60000 ++ bytesOf 2 60000
          ++ bytesOf 2 10000)) s = some .success
      ∧ status (.setUnit ([3, 3] ++ bytesOf 2 65535 ++ bytesOf 4 1000001 ++ bytesOf 2 60000 ++ bytesOf 2 60000
          ++ bytesOf 2 10000)) s = some .range
      ∧ edge 0 5 3 7 6 = some .success ∧ edge 0 5 3 7 7 = some .range ∧ edge 0 0 0 0 0 = some .success
      ∧ edge 0 0 1 0 0 = some .range ∧ edge 1 0 1 0 0 = some .success
      ∧ status (.setWatchList ((List.replicate 16 [11, 7]).flatten)) s = some .success
      ∧ status (.setWatchList [11, 8]) s = some .range ∧ status (.setWatchList [0, 0]) s = some .range
      ∧ status (.setWatchList []) s = some .success :=
  ⟨admitsConfiguration_of (by decide), by decide +kernel⟩

/-- Station 5 in CONFIG with roles. -/
def withRoles (turbine exchange : Bool) : State :=
  { inConfig with config := { roles := { turbine := turbine, exchange := exchange } } }

theorem witness_StartStationChecksInOrder :
    let start := fun s => (reply (.startStation []) s).map fun r => (r.status, r.payload)
    let grouped := fun (s : State) (c : ChannelNo) => s.putChannel c { config := { enabled := true, group := some 0 } }
    let bound := ([0, 1, 2, 3].foldl grouped (withRoles false true)).putHmt { config := { supply := some 0, ret := some 1 } }
    let whole := bound.putScw { config := { hotIn := some 2, hotOut := some 3 } }
    (withRoles false true).admitsConfiguration
      ∧ start (withRoles false true) = some (.unbound, [1, 0x0F]) ∧ start bound = some (.unbound, [1, 0x2F])
      ∧ start (withRoles true false) = some (.unbound, [2, 2]) ∧ start whole = some (.unbound, [3, 4])
      ∧ start (inConfig.putUnit 1 { pump with defs := pump.defs.set 1 {} }) = some (.range, [4, 0x21])
      ∧ start (inConfig.putUnit 1 { pump with defs := pump.defs.set 2 { enabled := true, basis := .after 3 } })
          = some (.range, [4, 0x11])
      ∧ start (inConfig.putUnit 1 { pump with config := { windowLength := 0 } }) = some (.range, [4, 0x31])
      ∧ start inConfig = some (.success, [0, 0, 0, 0, 0]) :=
  ⟨admitsConfiguration_of (by decide), by decide +kernel⟩

theorem witness_EntryToRunStartsEveryBlock :
    let t := after (.startStation []) inConfig
    inConfig.admitsConfiguration ∧ inConfig.startFailure? = none ∧ t.svp.station = .run ∧ t.awaitMclk = true
      ∧ inRun.awaitMclk = false :=
  ⟨admitsConfiguration_of (by decide), by decide +kernel⟩

/-! Witnesses of the invariants: the claimed plant. -/

theorem witness_EveryStepKeepsRestOutsideRun :
    RestOutsideRun inRun ∧ RestOutsideRun inConfig ∧ step inRun = .next inRun.tick ∧ step inConfig = .next inConfig.tick :=
  ⟨restOutsideRun_of_run rfl, restOutsideRun_inConfig, rfl, rfl⟩

theorem witness_EveryStepKeepsPumpsAgree :
    let s := (claimed .announced 0).putPending [.ownStartReached 0]
    PumpsAgree s ∧ step s = .next (after (.ownStartReached 0) (claimed .announced 0)) :=
  ⟨pumpsAgree_of (by decide +kernel), exec_after (.ownStartReached 0) (claimed .announced 0)⟩

theorem witness_EveryStepKeepsClaimTable :
    let s := claimed .announced 0
    PumpsAgree s ∧ ClaimTableSound s ∧ step s = .next s.tick :=
  ⟨pumpsAgree_of (by decide +kernel), ⟨by decide +kernel, by decide +kernel, by decide +kernel, by decide +kernel⟩, rfl⟩

theorem witness_EveryStepKeepsEdgeQueues :
    let s := claimed .announced 0
    PumpsAgree s ∧ RestOutsideRun s ∧ EdgeCountsAgree s ∧ QueuesFit s ∧ step s = .next s.tick :=
  ⟨pumpsAgree_of (by decide +kernel), restOutsideRun_of_run rfl, by unfold EdgeCountsAgree; decide +kernel,
    by unfold QueuesFit; decide +kernel, rfl⟩

theorem witness_EveryStepKeepsHolds :
    let s := claimed .announced 0
    PumpsAgree s ∧ TripViewAgrees s ∧ ScalingHoldAgrees s ∧ step s = .next s.tick :=
  ⟨pumpsAgree_of (by decide +kernel), ⟨by decide +kernel, by decide +kernel, by decide +kernel, by decide +kernel⟩,
    ⟨by decide +kernel, by decide +kernel⟩, rfl⟩

theorem witness_EveryStepKeepsSetAndQueue :
    let s := claimInFlight .announced 0 [{ notice := .time, collisions := 7 }] 2 false
    AttentionDistinct s ∧ QueueOrdered s ∧ step s = .next s.tick :=
  ⟨⟨by decide +kernel, by decide +kernel⟩, ⟨by decide +kernel, by decide +kernel, by decide +kernel⟩, rfl⟩

theorem plant_rings : ∀ g : GroupNo, plant.groups[g].ring = [] := by decide +kernel

theorem plant_rows (n : StationNo) :
    indexSound plant.peers[n].lastIndex ∧ ∀ h, plant.peers[n].heat = some h → indexSound h.index := by
  have h : ∀ n : StationNo, plant.peers[n].lastIndex = none ∧ plant.peers[n].heat = none := by decide +kernel
  exact ⟨fun i hi => (by rw [(h n).1] at hi; cases hi), fun i hi => (by rw [(h n).2] at hi; cases hi)⟩

theorem witness_EveryStepKeepsBounds :
    ResiduesBelow plant ∧ WindowTableSound plant ∧ StoresBounded plant ∧ IndicesBounded plant
      ∧ step plant = .next plant.tick :=
  ⟨by unfold ResiduesBelow; decide +kernel, windowTableSound_of (by decide +kernel),
    ⟨by decide +kernel, by decide +kernel, fun g i h => (by have h := h; rw [plant_rings g] at h; cases h),
      by decide +kernel, by decide +kernel, by decide +kernel⟩,
    ⟨fun _ h => (by cases h), fun _ h => (by cases h), fun _ h => (by cases h), fun _ h => (by cases h),
      fun _ h => (by cases h), fun _ h => (by cases h), plant_rows⟩, rfl⟩

end Sys2Proof.Tests
end

