-- ==== Sys2Proof/Proofs/KFactor.lean ====
section
/-! SUPPORT and PROOFS. The k-factor (6.2): its equation in each region of the return reading, its bounds, and the record of
a metered pulse that shows it. -/

namespace Sys2Proof.Machine

/-! The truncated share f / n of a difference d. -/

theorem truncDiv_share_bounds {d f n : Int} (hd : 0 ≤ d) (hf : 0 ≤ f) (hfn : f < n) :
    0 ≤ truncDiv (d * f) n ∧ truncDiv (d * f) n ≤ d := by
  have hn : 0 < n := hf.trans_lt hfn
  have hdf : 0 ≤ d * f := Int.mul_nonneg hd hf
  rw [truncDiv, Int.tdiv_eq_ediv_of_nonneg hdf]
  exact ⟨Int.ediv_nonneg hdf hn.le, Int.ediv_le_of_le_mul hn (Int.mul_le_mul_of_nonneg_left hfn.le hd)⟩

theorem truncDiv_neg_mul (d f n : Int) : truncDiv (-d * f) n = -truncDiv (d * f) n := by
  simp only [truncDiv, Int.neg_mul, Int.neg_tdiv]

/-- A falling segment is the rising one mirrored, because truncation is symmetric about zero. -/
theorem interpolation_between_ends (low high : Int) {f n : Int} (hf : 0 ≤ f) (hfn : f < n) :
    min low high ≤ low + truncDiv ((high - low) * f) n ∧ low + truncDiv ((high - low) * f) n ≤ max low high := by
  rcases Int.le_total low high with rising | falling
  · have := truncDiv_share_bounds (Int.sub_nonneg.mpr rising) hf hfn
    omega
  · have share := truncDiv_share_bounds (Int.sub_nonneg.mpr falling) hf hfn
    have mirrored := truncDiv_neg_mul (low - high) f n
    rw [Int.neg_sub] at mirrored
    omega

/-! The three regions of the return reading (R113). -/

theorem kFactor_of_nonpos (table : Vector Nat 16) {tr : Int} (h : tr ≤ 0) : kFactor table tr = table[0] :=
  if_pos h

theorem kFactor_of_ge (table : Vector Nat 16) {tr : Int} (h : 15000 ≤ tr) : kFactor table tr = table[15] := by
  rw [kFactor, if_neg (by omega), if_pos h]

theorem kFactor_of_segment (table : Vector Nat 16) {tr : Int} (i : Fin 15) (hlow : 1000 * (i.val : Int) ≤ tr)
    (hhigh : tr < 1000 * (i.val + 1)) (hpos : 0 < tr) :
    kFactor table tr
      = table[i.val] + truncDiv (((table[i.val + 1] : Int) - table[i.val]) * (tr - 1000 * i.val)) 1000 := by
  have index : (tr / 1000).toNat = i.val := by omega
  have getD_eq (j : Nat) (hj : j < 16) : table.toList.getD j 0 = table[j] := by simp [List.getD, hj]
  rw [kFactor, if_neg (by omega), if_neg (by omega), index]
  simp only [getD_eq i.val (by omega), getD_eq (i.val + 1) (by omega)]

theorem exists_segment {tr : Int} (hpos : 0 < tr) (h : tr < 15000) :
    ∃ i : Fin 15, 1000 * (i.val : Int) ≤ tr ∧ tr < 1000 * (i.val + 1) :=
  ⟨⟨(tr / 1000).toNat, by omega⟩, by dsimp only; omega⟩

/-! What follows for every table. -/

theorem kFactor_between_entries (table : Vector Nat 16) {tr : Int} (i : Fin 15) (hlow : 1000 * (i.val : Int) ≤ tr)
    (hhigh : tr < 1000 * (i.val + 1)) (hpos : 0 < tr) :
    min (table[i.val] : Int) table[i.val + 1] ≤ kFactor table tr
      ∧ kFactor table tr ≤ max (table[i.val] : Int) table[i.val + 1] := by
  rw [kFactor_of_segment table i hlow hhigh hpos]
  exact interpolation_between_ends _ _ (by omega) (by omega)

theorem kFactor_at_entry (table : Vector Nat 16) {tr : Int} (i : Fin 15) (hpos : 0 < tr) (h : tr = 1000 * i.val) :
    kFactor table tr = table[i.val] := by
  rw [kFactor_of_segment table i (by omega) (by omega) hpos, Int.sub_eq_zero.mpr h]
  simp [truncDiv]

theorem kFactor_bounds (table : Vector Nat 16) (tr : Int) {least greatest : Nat}
    (entries : ∀ i : Fin 16, least ≤ table[i] ∧ table[i] ≤ greatest) :
    least ≤ kFactor table tr ∧ kFactor table tr ≤ greatest := by
  by_cases hpos : tr ≤ 0
  · rw [kFactor_of_nonpos table hpos]
    exact_mod_cast entries 0
  by_cases hend : 15000 ≤ tr
  · rw [kFactor_of_ge table hend]
    exact_mod_cast entries 15
  obtain ⟨i, hlow, hhigh⟩ := exists_segment (by omega) (Int.not_le.mp hend)
  have between := kFactor_between_entries table i hlow hhigh (by omega)
  have atLow : least ≤ table[i.val] ∧ table[i.val] ≤ greatest := entries i.castSucc
  have atHigh : least ≤ table[i.val + 1] ∧ table[i.val + 1] ≤ greatest := entries i.succ
  omega

/-! The record of a metered pulse (R113, R119). -/

theorem Hmt.metered_shows_k (h : Hmt) (t : LineTime) (ts tr : Int) :
    ∃ r, (h.metered t ts tr).lastPulse = some r ∧ r.k = some (kFactor h.config.kTable tr) := by
  unfold Hmt.metered
  obtain ⟨delta, clamped⟩ := clampDelta (ts - tr)
  dsimp only
  cases pulseClass delta <;> exact ⟨_, rfl, rfl⟩

/-- Settles O32: the regions of the return reading one by one, the bounds of the interpolation, and the record of every
class. -/
theorem kFactorInterpolates : Obligations.KFactorInterpolates := by
  intro h t ts tr
  refine ⟨kFactor_of_nonpos _, kFactor_of_ge _, fun i hlow hhigh hpos => ?_, kFactor_bounds _ tr, h.metered_shows_k t ts tr⟩
  obtain ⟨above, below⟩ := kFactor_between_entries h.config.kTable i hlow hhigh hpos
  exact ⟨kFactor_of_segment _ i hlow hhigh hpos, above, below, kFactor_at_entry _ i hpos⟩

end Sys2Proof.Machine
end

