-- ==== Sys2Proof/Proofs/ConfigStep.lean ====
section
/-! SUPPORT and PROOFS. A time step in CONFIG (R170): every receiver but the planner is at rest, and the planner only lets
reached entries expire. -/

namespace Sys2Proof.Machine

/-! The receivers of a delivery (R41, R104). -/

theorem mem_foldl_once (x : Dependant) (xs seen : List Dependant) :
    x ∈ xs.foldl (fun seen x => if seen.contains x then seen else seen ++ [x]) seen ↔ x ∈ seen ∨ x ∈ xs := by
  induction xs generalizing seen with
  | nil => simp
  | cons y ys ih =>
    rw [List.foldl_cons, ih]
    split <;> rename_i present
    · have : y ∈ seen := by simpa using present
      grind
    · simp [or_assoc]

theorem mem_deliveryOrder (receivers order : List Dependant) (d : Dependant) :
    d ∈ deliveryOrder receivers order ↔ d ∈ receivers := by
  rw [deliveryOrder, mem_foldl_once]
  simp

/-! Receivers with nothing a step can reach: no open set, no open interval, an empty queue. -/

theorem State.groupStep_of_no_set {s : State} {g : GroupNo} (e : StepEvent) (h : s.groups[g].openSet = none) :
    s.groupStep g e = s := by
  rw [State.groupStep, h]

theorem State.intervalStep_of_no_interval {s : State} (e : StepEvent) (h : s.scw.interval = none) :
    s.intervalStep e = s := by
  have closed : s.watchInterval? = none := by simp [State.watchInterval?, h]
  rw [State.intervalStep, closed]

theorem State.takeEdges_of_empty {s : State} {n : UnitNo} (test : LineTime → Bool) (rule : State → Edge → State)
    (fuel : Nat) (h : s.units[n].queue = []) : s.takeEdges n test rule fuel = s := by
  cases fuel with
  | zero => rfl
  | succ fuel => rw [State.takeEdges, h, List.find?_nil]

theorem State.unitStep_of_empty {s : State} {n : UnitNo} (e : StepEvent) (h : s.units[n].queue = []) :
    s.unitStep n e = s :=
  State.takeEdges_of_empty _ _ _ h

/-! The expiry of entries where no own slot holds one (R151). -/

/-- The state with those claim entries alone whose end has not been reached. -/
def State.dropExpired (s : State) : State := s.putClaims (s.spl.claims.filter fun c => later c.endTime s.now)

theorem State.dropExpired_dropExpired (s : State) : s.dropExpired.dropExpired = s.dropExpired := by
  have twice : s.dropExpired.spl.claims.filter (fun c => later c.endTime s.now) = s.dropExpired.spl.claims := by
    simp [State.dropExpired]
  exact congrArg s.putClaims twice

theorem State.onlyChanges_dropExpired (s : State) : s.onlyChanges s.dropExpired [.spl] := by
  simp [State.onlyChanges, Part.all, Part.same, State.dropExpired]

theorem State.expireOnly_of_no_own {s : State} (h : ∀ k : SlotNo, s.spl.claims.filter (s.isOwnEntry k) = []) :
    s.expireOnly.1 = s.dropExpired := by
  have noneOwn (k : SlotNo) : (s.spl.claims.filter (·.expiredAt s.now)).any (s.isOwnEntry k) = false :=
    List.any_eq_false.mpr fun c hc => List.filter_eq_nil_iff.mp (h k) c (List.mem_of_mem_filter hc)
  have live (c : Claim) : (!c.expiredAt s.now) = later c.endTime s.now := by simp [Claim.expiredAt, reached]
  simp only [State.expireOnly, State.dropExpired, slotNumbers, List.foldl_cons, List.foldl_nil, noneOwn,
    Bool.false_eq_true, if_false, live]

/-! Rest, as the receivers of a step find it. -/

/-- Outside RUN nothing but the claim table holds a deadline in line time, and no entry of the table is an own one. -/
structure State.restsAtStep (s : State) : Prop where
  notRun : s.inRun = false
  sets : ∀ g : GroupNo, s.groups[g].openSet = none
  interval : s.scw.interval = none
  queues : ∀ n : UnitNo, s.units[n].queue = []
  noOwn : ∀ k : SlotNo, s.spl.claims.filter (s.isOwnEntry k) = []

theorem State.restsAtStep_of_config {s : State} (config : s.svp.station = .config) (rest : RestOutsideRun s)
    (agree : PumpsAgree s) : s.restsAtStep := by
  have notRun : s.svp.station ≠ .run := by simp [config]
  have free (k : SlotNo) : (s.slotState k).holdsEntry = false := by
    rw [State.slotState, rest.slots notRun k, SlotState.holdsEntry]
  exact {
    notRun := by simp [State.inRun, config]
    sets := rest.sets notRun
    interval := rest.interval notRun
    queues := fun n => (rest.units notRun n).2
    noOwn := fun k => agree.none k (free k) }

theorem State.restsAtStep.dropExpired {s : State} (h : s.restsAtStep) : s.dropExpired.restsAtStep where
  notRun := h.notRun
  sets := h.sets
  interval := h.interval
  queues := h.queues
  noOwn k := List.filter_eq_nil_iff.mpr fun c hc =>
    List.filter_eq_nil_iff.mp (h.noOwn k) c (List.mem_of_mem_filter hc)

/-! The delivery of the step (R41, R170). -/

theorem State.deliverStep_planner_at_rest {s : State} (e : StepEvent) (h : s.restsAtStep) :
    State.deliverStep e s .planner = s.dropExpired := by
  simp [State.deliverStep, State.plannerStep, h.notRun, State.expireOnly_of_no_own h.noOwn]

theorem State.deliverStep_other_at_rest {s : State} (e : StepEvent) (h : s.restsAtStep) {d : Dependant}
    (other : d ≠ .planner) : State.deliverStep e s d = s := by
  cases d with
  | group g => exact State.groupStep_of_no_set e (h.sets g)
  | scalingWatch => exact State.intervalStep_of_no_interval e h.interval
  | planner => exact absurd rfl other
  | unit n => exact State.unitStep_of_empty e (h.queues n)

theorem State.foldl_deliverStep_at_rest {s : State} (e : StepEvent) (h : s.restsAtStep) (ds : List Dependant) :
    ds.foldl (State.deliverStep e) s = if .planner ∈ ds then s.dropExpired else s := by
  induction ds generalizing s with
  | nil => rfl
  | cons d ds ih =>
    rw [List.foldl_cons]
    by_cases planner : d = .planner
    · subst planner
      rw [State.deliverStep_planner_at_rest e h, ih h.dropExpired, State.dropExpired_dropExpired]
      simp
    · rw [State.deliverStep_other_at_rest e h planner, ih h]
      simp [Ne.symm planner]

theorem State.deliverSteps_at_rest {s : State} (e : StepEvent) (order : List Dependant) (h : s.restsAtStep) :
    s.deliverSteps e order = s.dropExpired := by
  have planner : Dependant.planner ∈ deliveryOrder stepDependants order := by
    rw [mem_deliveryOrder]
    decide
  rw [State.deliverSteps, State.foldl_deliverStep_at_rest e h, if_pos planner]

/-- Settles O23: whatever the order of delivery, the step in CONFIG is the planner's expiry of entries, and no own entry is
among them. -/
theorem stepInConfigReachesClaimsAlone : Obligations.StepInConfigReachesClaimsAlone := by
  intro s e order config rest agree
  rw [State.deliverSteps_at_rest e order (State.restsAtStep_of_config config rest agree)]
  exact ⟨s.onlyChanges_dropExpired, rfl⟩

end Sys2Proof.Machine
end

section
/-! SUPPORT and PROOFS. A step and its command (the model's queue), and the requests of the service port: the state in which a
request is judged, the form in which every named request is dispatched, and its refusals (R195 to R199). -/

namespace Sys2Proof.Machine

/-- Settles O1: the step's own branch for a queue with a front. -/
theorem stepRunsFrontCommand : Obligations.StepRunsFrontCommand := by
  intro s c rest front
  rw [step, front]

/-! The state in which a request is judged. -/

/-- The state in which a request's checks are made: the port has taken its check byte and is idle from now (R195, R197). -/
def State.received (s : State) (code : Nat) (payload : List Byte) : State :=
  s.putSvp (s.svp.complete s.count (requestBytes code payload))

@[simp] theorem State.received_station (s : State) (code : Nat) (p : List Byte) :
    (s.received code p).svp.station = s.svp.station := rfl

@[simp] theorem State.received_watchList (s : State) (code : Nat) (p : List Byte) :
    (s.received code p).svp.watchList = s.svp.watchList := rfl

theorem State.onlyChanges_received (s : State) (code : Nat) (p : List Byte) : s.onlyChanges (s.received code p) [.svp] := by
  simp [State.onlyChanges, Part.all, Part.same, State.received]

theorem State.onlyChanges_putReply (s : State) (r : Reply) : s.onlyChanges (s.putReply r) [.svp] := by
  simp [State.onlyChanges, Part.all, Part.same]

theorem State.received_putReply_svp (s : State) (code : Nat) (p : List Byte) (r : Reply) :
    ((s.received code p).putReply r).svp = s.answered code p r := rfl

theorem State.takesRequests.listening {s : State} (takes : s.takesRequests) : s.svp.listening = true := by
  obtain ⟨notReplying, notDiscarding⟩ := takes
  simp [Svp.listening, notReplying, notDiscarding]

/-- A port that takes requests judges one that fits and holds the answer. -/
theorem State.arrive_of_takes {s : State} (takes : s.takesRequests) {p : List Byte} (fits : p.length ≤ 64) (code : Nat)
    (handle : State → Answer) :
    s.arrive code p handle = (handle (s.received code p)).1.putReply (handle (s.received code p)).2 := by
  have fit : payloadFits p = true := decide_eq_true fits
  simp [State.arrive, fit, takes.listening, State.received]

/-- A command that only answers: it changes the service port alone. -/
theorem State.replies_of_unchanged {s : State} (takes : s.takesRequests) {c : Instr} {code : Nat} {p : List Byte}
    (fits : p.length ≤ 64) {handle : State → Answer} {r : Reply} (run : exec c s = .next (s.arrive code p handle))
    (answer : handle (s.received code p) = (s.received code p, r)) : s.replies c code p r := by
  refine ⟨_, run, ?_⟩
  rw [State.arrive_of_takes takes fits, answer]
  exact ⟨rfl, State.onlyChanges_trans (s.onlyChanges_received code p) (State.onlyChanges_putReply _ r)⟩

/-! Sections that refuse without a change (R197). -/

/-- A section leaves the state as it is whenever its status is not success. -/
def RefusesUnchanged (act : State → Answer) : Prop := ∀ s, (act s).2.status ≠ .success → (act s).1 = s

theorem refusesUnchanged_refuse (status : Status) : RefusesUnchanged (fun s => s.refuse status) := fun _ _ => rfl

theorem refusesUnchanged_succeed (act : State → State) (payload : State → List Byte) :
    RefusesUnchanged (fun s => (act s).succeed (payload s)) := fun _ h => absurd rfl h

theorem refusesUnchanged_ranged {α : Type} (fields : Option α) (act : α → State → Answer)
    (h : ∀ x, RefusesUnchanged (act x)) : RefusesUnchanged (fun s => s.ranged fields fun x => act x s) := by
  cases fields with
  | none => exact refusesUnchanged_refuse .range
  | some x => exact h x

theorem refusesUnchanged_serve (cls : RequestClass) (lengthOk : Bool) {act : State → Answer} (h : RefusesUnchanged act) :
    RefusesUnchanged (State.serve cls lengthOk act) := by
  intro s refused
  revert refused
  unfold State.serve
  repeat' split
  case h_2 => exact h s
  all_goals exact fun _ => rfl

theorem refusesUnchanged_readSamples (p : List Byte) : RefusesUnchanged fun s =>
    s.ranged (index? 2 (fieldNat p 0 1)) fun g =>
      let n := fieldNat p 5 1
      if within 1 8 n then s.readSamples g (BitVec.ofNat 32 (fieldNat p 1 4)) n else s.refuse .range := by
  refine refusesUnchanged_ranged _ (fun g s => _) fun g s => ?_
  dsimp only [State.readSamples]
  (repeat' split) <;> simp [State.refuse, State.succeed, success]

theorem refusesUnchanged_readWatch (p : List Byte) : RefusesUnchanged fun s =>
    let items := s.svp.watchList
    let q := fieldNat p 0 1
    let n := fieldNat p 1 1
    if within 1 16 n && (items.isEmpty || q < items.length) then
      s.succeed (listed ((watchItems items q n).map s.watchRecord))
    else s.refuse .range := by
  intro s
  dsimp only
  split <;> simp [State.refuse, State.succeed, success]

theorem refusesUnchanged_startPump (p : List Byte) : RefusesUnchanged fun s =>
    s.ranged (index? 4 (fieldNat p 0 1)) fun u => s.startPump u (timeField? p) := by
  refine refusesUnchanged_ranged _ (fun u s => _) fun u s => ?_
  dsimp only [State.startPump]
  (repeat' split) <;> simp [State.refuse, State.succeed, success]

theorem refusesUnchanged_stopPump (p : List Byte) : RefusesUnchanged fun s =>
    s.ranged (index? 4 (fieldNat p 0 1)) fun u => s.stopPump u (timeField? p) := by
  refine refusesUnchanged_ranged _ (fun u s => _) fun u s => ?_
  dsimp only [State.stopPump, State.stopUnit]
  (repeat' split) <;> simp [State.refuse, State.succeed, success]

theorem refusesUnchanged_resetTrip : RefusesUnchanged State.resetTrip := by
  intro s
  dsimp only [State.resetTrip]
  (repeat' split) <;> simp [State.refuse, State.succeed, success]

theorem refusesUnchanged_ackScaling : RefusesUnchanged State.ackScaling := by
  intro s
  dsimp only [State.ackScaling]
  (repeat' split) <;> simp [State.refuse, State.succeed, success]

theorem refusesUnchanged_captureBaseline : RefusesUnchanged State.captureBaseline := by
  intro s
  dsimp only [State.captureBaseline]
  (repeat' split) <;> simp [State.refuse, State.succeed, success]

theorem refusesUnchanged_clearAttention (kinds subjects : Nat) :
    RefusesUnchanged fun s => s.clearAttention kinds subjects := by
  intro s
  dsimp only [State.clearAttention]
  split <;> simp [State.refuse, State.succeed, success]

theorem refusesUnchanged_setChannel (p : List Byte) : RefusesUnchanged fun s =>
    s.ranged (channelOf p) fun (c, config) => (s.putChannel c { s.channels[c] with config := config }).succeed [] :=
  refusesUnchanged_ranged _ (fun (c, config) s => (s.putChannel c { s.channels[c] with config := config }).succeed [])
    fun _ _ h => absurd rfl h

theorem refusesUnchanged_setGroup (p : List Byte) : RefusesUnchanged fun s =>
    s.ranged (groupOf p) fun (g, period, mark) =>
      (s.putGroup g { s.groups[g] with periodMs := period, ringMark := mark }).succeed [] :=
  refusesUnchanged_ranged _
    (fun (g, period, mark) s => (s.putGroup g { s.groups[g] with periodMs := period, ringMark := mark }).succeed [])
    fun _ _ h => absurd rfl h

theorem refusesUnchanged_setUnit (p : List Byte) : RefusesUnchanged fun s =>
    s.ranged (unitOf p) fun (n, config) => (s.putUnit n { s.units[n] with config := config }).succeed [] :=
  refusesUnchanged_ranged _ (fun (n, config) s => (s.putUnit n { s.units[n] with config := config }).succeed [])
    fun _ _ h => absurd rfl h

theorem refusesUnchanged_setCapture (p : List Byte) : RefusesUnchanged fun s =>
    s.ranged (captureOf p) fun (u, config) =>
      if s.modeTaken u config.mode then s.refuse .range
      else (s.putCapture u { s.captures[u] with config := config }).succeed [] := by
  refine refusesUnchanged_ranged _ (fun x s => _) fun x s => ?_
  dsimp only
  split <;> simp [State.refuse, State.succeed, success]

theorem refusesUnchanged_setWindow (p : List Byte) : RefusesUnchanged fun s =>
    if p.isEmpty then s.clearWindows else s.addWindow (windowOf p) := by
  intro s
  dsimp only [State.clearWindows, State.addWindow]
  (repeat' split) <;> simp [State.refuse, State.succeed, success]

theorem refusesUnchanged_setEdge (p : List Byte) : RefusesUnchanged fun s =>
    s.ranged (edgeOf p) fun (n, place, d) =>
      if s.ownedElsewhere n d then s.refuse .range
      else (s.putUnit n { s.units[n] with defs := s.units[n].defs.set place d }).succeed [] := by
  refine refusesUnchanged_ranged _ (fun x s => _) fun x s => ?_
  dsimp only
  split <;> simp [State.refuse, State.succeed, success]

theorem refusesUnchanged_startStation : RefusesUnchanged State.startStation := by
  intro s
  dsimp only [State.startStation]
  split <;> simp [State.succeed, success]

/-! The dispatch of the named requests. -/

/-- Every named request runs by its code, its row of R199, its lengths and a section that refuses without a change
(R197, R199, R216). -/
theorem exec_request {c : Instr} {k : RequestKind} {p : List Byte} (h : requestOf c = some (k, p)) :
    ∃ act, RefusesUnchanged act ∧
      ∀ s, exec c s = .next (s.arrive k.code p (State.serve k.cls ((lengthsOf k.code).contains p.length) act)) := by
  have always (act : State → State) (payload : State → List Byte) := refusesUnchanged_succeed act payload
  have ranged {α : Type} (fields : Option α) (act : α → State → State) (payload : α → State → List Byte) :
      RefusesUnchanged fun s => s.ranged fields fun x => (act x s).succeed (payload x s) :=
    refusesUnchanged_ranged fields (fun x s => (act x s).succeed (payload x s)) fun x => always (act x) (payload x)
  match c, h with
  | .readStatus _, rfl => exact ⟨_, always id _, fun _ => rfl⟩
  | .readPeer _, rfl => exact ⟨_, ranged _ (fun _ s => s) _, fun _ => rfl⟩
  | .readTime _, rfl => exact ⟨_, always id _, fun _ => rfl⟩
  | .readSamples p, rfl => exact ⟨_, refusesUnchanged_readSamples p, fun _ => rfl⟩
  | .readChannel _, rfl => exact ⟨_, ranged _ (fun _ s => s) _, fun _ => rfl⟩
  | .readCapture _, rfl => exact ⟨_, ranged _ (fun _ s => s) _, fun _ => rfl⟩
  | .readTurbine _, rfl => exact ⟨_, always id _, fun _ => rfl⟩
  | .readHeat _, rfl => exact ⟨_, always id _, fun _ => rfl⟩
  | .readScaling _, rfl => exact ⟨_, always id _, fun _ => rfl⟩
  | .readWindows _, rfl => exact ⟨_, always id _, fun _ => rfl⟩
  | .readUnit _, rfl => exact ⟨_, ranged _ (fun _ s => s) _, fun _ => rfl⟩
  | .readWatch p, rfl => exact ⟨_, refusesUnchanged_readWatch p, fun _ => rfl⟩
  | .startPump p, rfl => exact ⟨_, refusesUnchanged_startPump p, fun _ => rfl⟩
  | .stopPump p, rfl => exact ⟨_, refusesUnchanged_stopPump p, fun _ => rfl⟩
  | .trip _ order, rfl => exact ⟨fun s => s.hostTrip order, always _ _, fun _ => rfl⟩
  | .resetTrip _, rfl => exact ⟨_, refusesUnchanged_resetTrip, fun _ => rfl⟩
  | .ackScaling _, rfl => exact ⟨_, refusesUnchanged_ackScaling, fun _ => rfl⟩
  | .captureBaseline _, rfl => exact ⟨_, refusesUnchanged_captureBaseline, fun _ => rfl⟩
  | .clearHeat _, rfl => exact ⟨State.clearHeat, always _ _, fun _ => rfl⟩
  | .clearAttention _, rfl => exact ⟨_, refusesUnchanged_clearAttention _ _, fun _ => rfl⟩
  | .setStation p, rfl => exact ⟨_, ranged _ (fun c s => s.setStation c) fun _ _ => [], fun _ => rfl⟩
  | .setChannel p, rfl => exact ⟨_, refusesUnchanged_setChannel p, fun _ => rfl⟩
  | .setGroup p, rfl => exact ⟨_, refusesUnchanged_setGroup p, fun _ => rfl⟩
  | .setCapture p, rfl => exact ⟨_, refusesUnchanged_setCapture p, fun _ => rfl⟩
  | .setTurbine p, rfl => exact ⟨_, ranged _ (fun config s => s.putTsv { s.tsv with config := config }) fun _ _ => [], fun _ => rfl⟩
  | .setHeat p, rfl => exact ⟨_, ranged _ (fun config s => s.putHmt { s.hmt with config := config }) fun _ _ => [], fun _ => rfl⟩
  | .setScaling p, rfl => exact ⟨_, ranged _ (fun config s => s.putScw { s.scw with config := config }) fun _ _ => [], fun _ => rfl⟩
  | .setWindow p, rfl => exact ⟨_, refusesUnchanged_setWindow p, fun _ => rfl⟩
  | .setWindowClear, rfl => exact ⟨State.clearWindows, always _ _, fun _ => rfl⟩
  | .setUnit p, rfl => exact ⟨_, refusesUnchanged_setUnit p, fun _ => rfl⟩
  | .setEdge p, rfl => exact ⟨_, refusesUnchanged_setEdge p, fun _ => rfl⟩
  | .setWatchList p, rfl => exact ⟨_, ranged _ (fun items s => s.putSvp { s.svp with watchList := items }) fun _ _ => [], fun _ => rfl⟩
  | .startStation _, rfl => exact ⟨_, refusesUnchanged_startStation, fun _ => rfl⟩

/-! Refusals by the station (checks 2 to 5 of R197). -/

theorem State.serve_of_boot {s : State} (boot : s.svp.station = .boot) (cls : RequestClass) (ok : Bool)
    (act : State → Answer) : State.serve cls ok act s = s.refuse .notReady := if_pos boot

theorem State.serve_of_bad_length {s : State} (notBoot : s.svp.station ≠ .boot) (cls : RequestClass)
    (act : State → Answer) : State.serve cls false act s = s.refuse .badLength := by
  simp [State.serve, notBoot]

theorem State.serve_of_refusal {s : State} {cls : RequestClass} {status : Status} (notBoot : s.svp.station ≠ .boot)
    (h : cls.refusal? s.svp.station = some status) (act : State → Answer) :
    State.serve cls true act s = s.refuse status := by
  simp [State.serve, notBoot, h]

theorem State.serve_of_admitted {s : State} {cls : RequestClass} (notBoot : s.svp.station ≠ .boot)
    (h : cls.refusal? s.svp.station = none) (act : State → Answer) : State.serve cls true act s = act s := by
  simp [State.serve, notBoot, h]

/-- Settles O6: the refusals of a named request by checks 2 to 5, and those of a bad check byte and of an unknown code. -/
theorem requestsRefusedByTheirStation : Obligations.RequestsRefusedByTheirStation := by
  refine ⟨fun c s k p named fits takes => ?_, fun s code check p takes fits => ⟨fun bad => ?_, fun unknown => ?_⟩⟩
  · obtain ⟨act, -, run⟩ := exec_request named
    have replies {r : Reply} := State.replies_of_unchanged (r := r) takes fits (run s)
    refine ⟨fun boot => replies (State.serve_of_boot (s := s.received _ _) boot _ _ _), fun notBoot bad => replies ?_, fun good => ?_⟩
    · rw [show (lengthsOf k.code).contains p.length = false by simpa using bad]
      exact State.serve_of_bad_length (s := s.received _ _) notBoot _ _
    · have goodLength : (lengthsOf k.code).contains p.length = true := by simpa using good
      rw [goodLength] at replies
      refine ⟨fun config run => replies ?_, fun inRun sealed => replies ?_, fun fault other => replies ?_⟩
      · exact State.serve_of_refusal (s := s.received _ _) (by simp [config]) (by simp [config, run, RequestClass.refusal?]) _
      · exact State.serve_of_refusal (s := s.received _ _) (by simp [inRun]) (by simp [inRun, sealed, RequestClass.refusal?]) _
      · refine State.serve_of_refusal (s := s.received _ _) (by simp [fault]) ?_ _
        rw [State.received_station, fault]
        cases h : k.cls <;> simp_all [RequestClass.refusal?]
  · refine State.replies_of_unchanged takes fits (handle := fun s => s.refuse .badCheck) ?_ rfl
    rw [exec, execRequestBadCheck, if_neg]
    simpa [requestBytes] using bad.symm
  · refine State.replies_of_unchanged takes fits
      (handle := fun s => s.refuse (if s.svp.station = .boot then .notReady else .unknownRequest)) ?_ rfl
    rw [exec, execUnknownRequest, if_neg]
    simpa using unknown

/-- Settles O7: checks 1 to 5 refuse before the section, and every section refuses without a change. -/
theorem refusedRequestChangesNoBlock : Obligations.RefusedRequestChangesNoBlock := by
  intro c s t k p r named takes run holds refused
  obtain ⟨act, unchanged, eq⟩ := exec_request named
  obtain rfl : _ = t := by simpa [eq] using run
  by_cases fits : p.length ≤ 64
  · rw [State.arrive_of_takes takes fits] at holds ⊢
    obtain rfl : _ = r := Option.some.inj holds
    rw [refusesUnchanged_serve _ _ unchanged _ refused]
    exact ⟨rfl, State.onlyChanges_trans (s.onlyChanges_received _ p) (State.onlyChanges_putReply _ _)⟩
  · have tooLong : payloadFits p = false := decide_eq_false fits
    simp [State.arrive, tooLong, takes.1] at holds

end Sys2Proof.Machine
end

section
/-! SUPPORT and PROOFS. The resets and the boot check (10.3): the state after a reset, its invariants, and what a reset leaves. -/

namespace Sys2Proof.Machine

/-! The state after a reset, item by item. -/

section AfterReset

variable (straps : StationNo) (cause : ResetCause) (armed : Bool) (pending : List Instr) (freeNext : Nat)

theorem State.afterReset_peer (n : StationNo) :
    (State.afterReset straps cause armed pending freeNext).peers[n] = {} := by simp [State.afterReset]

theorem State.afterReset_channel (n : ChannelNo) :
    (State.afterReset straps cause armed pending freeNext).channels[n] = {} := by simp [State.afterReset]

theorem State.afterReset_group (n : GroupNo) :
    (State.afterReset straps cause armed pending freeNext).groups[n] = {} := by simp [State.afterReset]

theorem State.afterReset_capture (n : CaptureNo) :
    (State.afterReset straps cause armed pending freeNext).captures[n]
      = { config := { master := { input := ⟨n.val, by omega⟩ } } } := by
  fin_cases n <;> rfl

theorem State.afterReset_unit (n : UnitNo) :
    (State.afterReset straps cause armed pending freeNext).units[n] = {} := by simp [State.afterReset]

theorem State.afterReset_output (n : OutputNo) :
    (State.afterReset straps cause armed pending freeNext).outputs[n] = false := by simp [State.afterReset]

theorem State.afterReset_slot (k : SlotNo) :
    (State.afterReset straps cause armed pending freeNext).spl.slots[k] = {} := by simp [State.afterReset]

theorem State.afterReset_latchedPeers :
    (State.afterReset straps cause armed pending freeNext).latchedPeers = 0 := by
  simp [State.latchedPeers, State.afterReset]

/-! Its invariants. -/

theorem RestOutsideRun.afterReset : RestOutsideRun (State.afterReset straps cause armed pending freeNext) where
  outputs _ o := State.afterReset_output ..
  units _ n := by
    rw [State.afterReset_unit]
    exact ⟨rfl, rfl⟩
  slots _ k := by rw [State.afterReset_slot]
  channels _ c := by rw [State.afterReset_channel]
  captures _ u := by rw [State.afterReset_capture]
  sets _ g := by rw [State.afterReset_group]
  interval _ := rfl
  flight _ := rfl

theorem PumpsAgree.afterReset : PumpsAgree (State.afterReset straps cause armed pending freeNext) where
  entry k h := by
    rw [State.slotState, State.afterReset_slot] at h
    exact absurd h (by decide)
  none k _ := rfl
  apart h := absurd (by rw [State.slotState, State.afterReset_slot]) h
  idle k h := by rw [State.afterReset_unit]
  units n := by
    rw [State.afterReset_unit]
    constructor <;> simp

theorem EdgeCountsAgree.afterReset : EdgeCountsAgree (State.afterReset straps cause armed pending freeNext) := by
  intro n
  rw [State.afterReset_unit]
  rfl

theorem QueuesFit.afterReset : QueuesFit (State.afterReset straps cause armed pending freeNext) := by
  intro n
  rw [State.afterReset_unit]
  exact Nat.zero_le _

theorem ClaimTableSound.afterReset : ClaimTableSound (State.afterReset straps cause armed pending freeNext) where
  distinct := List.nodup_nil
  two n := by simp [State.claimsHeld, State.afterReset]
  slots c h := by simp [State.afterReset] at h
  own c h := by simp [State.afterReset] at h

theorem TripViewAgrees.afterReset : TripViewAgrees (State.afterReset straps cause armed pending freeNext) where
  view := by rw [State.afterReset_latchedPeers]; rfl
  hold := rfl
  flags n := by rw [State.afterReset_unit]; rfl
  held h := by simp [State.afterReset] at h

theorem ScalingHoldAgrees.afterReset : ScalingHoldAgrees (State.afterReset straps cause armed pending freeNext) where
  hold := by simp [State.scalingAlarm, State.afterReset]
  unheard n _ _ := by rw [State.afterReset_peer]

theorem AttentionDistinct.afterReset : AttentionDistinct (State.afterReset straps cause armed pending freeNext) where
  distinct := List.nodup_nil
  raises p h := by simp [State.afterReset] at h

theorem QueueOrdered.afterReset : QueueOrdered (State.afterReset straps cause armed pending freeNext) where
  distinct := List.nodup_nil
  classes := List.Pairwise.nil
  collisions e h := by simp [State.afterReset] at h

theorem ResiduesBelow.afterReset : ResiduesBelow (State.afterReset straps cause armed pending freeNext) := by
  simp [ResiduesBelow, State.afterReset]

theorem WindowTableSound.afterReset : WindowTableSound (State.afterReset straps cause armed pending freeNext) where
  places := Nat.zero_le 8
  sound w h := by simp [State.afterReset] at h
  apart := List.Pairwise.nil

theorem StoresBounded.afterReset : StoresBounded (State.afterReset straps cause armed pending freeNext) where
  guardHistory c := by simp [State.afterReset]
  ring g := by simp [State.afterReset]
  numbered g := by simp [Group.numbered, State.afterReset]
  stamps u := by simp [State.afterReset_capture, -Fin.getElem_fin]
  records u := by simp [State.afterReset_capture, -Fin.getElem_fin]
  indices := Nat.zero_le 8

theorem IndicesBounded.afterReset : IndicesBounded (State.afterReset straps cause armed pending freeNext) where
  history r h := by simp [State.afterReset] at h
  latest e h := by simp [State.afterReset] at h
  held r h := by simp [State.afterReset] at h
  own h eq := by simp [State.afterReset] at eq
  queued e h := by simp [State.afterReset] at h
  flight f h := by simp [State.afterReset] at h
  rows n := by simp [indexSound, State.afterReset]

end AfterReset

/-- Settles O53: the state after reset is one of the reset states. -/
theorem resetMeetsEveryInvariant : Obligations.ResetMeetsEveryInvariant :=
  ⟨.afterReset .., .afterReset .., .afterReset _ _ _ _ _, .afterReset _ _ _ _ _, .afterReset .., .afterReset .., .afterReset ..,
    .afterReset .., .afterReset .., .afterReset .., .afterReset .., .afterReset .., .afterReset ..⟩

/-! The commands of 10.3. -/

theorem execServiceBreak_of_due {s : State} (straps : StationNo) {high : Bool}
    (armed : s.svp.breakArmed = true ∨ high = true) (due : 800000 ≤ (s.tmu.localCount - s.svp.breakFrom).toNat) :
    execServiceBreak straps high s = .next (s.resetBy straps .serviceBreak false) := by
  have reached : s.breakIsDue = true := decide_eq_true due
  simp [execServiceBreak, reached, armed]

theorem execServiceBreak_of_unarmed {s : State} (straps : StationNo) (unarmed : s.svp.breakArmed = false) :
    execServiceBreak straps false s = .next s := by
  simp [execServiceBreak, unarmed]

theorem execServiceBreak_of_early {s : State} (straps : StationNo) (high : Bool)
    (early : (s.tmu.localCount - s.svp.breakFrom).toNat < 800000) : execServiceBreak straps high s = .next s := by
  have notReached : s.breakIsDue = false := decide_eq_false (Nat.not_le.mpr early)
  simp [execServiceBreak, notReached]

theorem execBootCheckEnd_of_early {s : State} (passed high : Bool) (early : s.tmu.localCount.toNat < 24000) :
    execBootCheckEnd passed high s = .next s := by
  have notReached : s.bootIsDue = false := by
    simp [State.bootIsDue, State.count, show Params.bootPeriods = 24000 from rfl, early]
  simp [execBootCheckEnd, notReached]

theorem State.bootIsDue_of {s : State} (boot : s.svp.station = .boot) (late : 24000 ≤ s.tmu.localCount.toNat) :
    s.bootIsDue = true := by
  simp [State.bootIsDue, State.count, show Params.bootPeriods = 24000 from rfl, boot, late]

theorem execBootCheckEnd_of_due {s : State} (due : s.bootIsDue = true) (passed high : Bool) :
    execBootCheckEnd passed high s = .next
      (if passed then { s with freeNext := s.freeNext + 1 }.enterConfig high
        else { s with freeNext := s.freeNext + 1 }.enterFault) := by
  simp [execBootCheckEnd, due]

/-- A cause that has been raised is pending. -/
theorem raiseIn_mem (cause : Cause) (reason : Option ClaimFailure) (t : LineTime) (ps : List Pending) :
    ∃ p ∈ raiseIn cause reason t ps, p.cause = cause := by
  induction ps with
  | nil => exact ⟨_, List.mem_singleton.mpr rfl, rfl⟩
  | cons p ps ih =>
    obtain ⟨q, mem, eq⟩ := ih
    by_cases same : p.cause = cause
    · simp [raiseIn, same]
    · exact ⟨q, by simp [raiseIn, same, mem], eq⟩

theorem State.isPending_raise (s : State) (cause : Cause) : (s.raise cause).isPending cause = true := by
  obtain ⟨p, mem, eq⟩ := raiseIn_mem cause none s.tmu.lineTime s.attention
  exact List.any_eq_true.mpr ⟨p, mem, decide_eq_true eq⟩

theorem State.attentionOutput_of_bootFault {s : State} (h : s.isPending .bootFault = true) : s.attentionOutput = true := by
  obtain ⟨p, mem, eq⟩ := List.any_eq_true.mp h
  exact List.any_eq_true.mpr ⟨p, mem, by simp [of_decide_eq_true eq]⟩

/-- Settles O3: the three resets lead to the reset state, and the boot check's end comes at 24,000 periods and not before. -/
theorem resetsAndBootCheck : Obligations.ResetsAndBootCheck := by
  intro s straps high inProgress
  refine ⟨fun c cause armed command => ?_, execServiceBreak_of_unarmed straps, execServiceBreak_of_early straps high,
    execBootCheckEnd_of_early high inProgress, fun boot late => ?_⟩
  · have run : exec c s = .next (s.resetBy straps cause armed) := by
      rcases command with ⟨rfl, rfl, rfl⟩ | ⟨rfl, rfl, rfl⟩ | ⟨rfl, rfl, rfl, arms, due⟩
      · rfl
      · rfl
      · exact execServiceBreak_of_due straps arms due
    refine ⟨_, run, rfl, rfl, rfl, rfl, rfl, rfl, rfl, rfl, rfl, rfl, rfl, fun n => ?_, rfl, rfl, rfl, fun n => ?_,
      fun g => ?_, fun u => ?_, rfl, rfl, rfl, rfl, rfl, fun n => ?_, fun o => ?_⟩ <;>
    simp only [State.resetBy, State.afterReset_peer, State.afterReset_channel, State.afterReset_group,
      State.afterReset_capture, State.afterReset_unit, State.afterReset_output]
  · have run (passed : Bool) := execBootCheckEnd_of_due (State.bootIsDue_of boot late) passed high
    refine ⟨⟨_, run true, rfl, rfl, rfl, ?_⟩, ⟨_, run false, rfl, ?_, ?_, rfl, ?_⟩⟩
    · simp [State.onlyChanges, Part.all, Part.same, State.enterConfig]
    · exact State.isPending_raise _ _
    · exact State.attentionOutput_of_bootFault (State.isPending_raise _ _)
    · simp [State.onlyChanges, Part.all, Part.same, State.enterFault]

end Sys2Proof.Machine
end

section
/-! SUPPORT and PROOFS. A step on an empty queue (the model's clock): what is owed in a period, and the period's passing. -/

namespace Sys2Proof.Machine

theorem mem_dueIf {due : Bool} {c d : Instr} : c ∈ dueIf due d ↔ due = true ∧ c = d := by
  cases due <;> simp [dueIf]

theorem mem_captureNumbers (u : CaptureNo) : u ∈ captureNumbers := by
  revert u
  decide

/-! The end owed to a notice in flight (R24, R25). -/

/-- A command ends the notice in flight, as its read-back has settled. -/
def State.endOwed (s : State) (c : Instr) : Prop :=
  s.svp.station = .run ∧ ∃ f, s.lif.inFlight = some f
    ∧ (c = .collision ∧ f.collided = true
      ∨ c = .noticeSentWhole ∧ f.collided = false
          ∧ (lineFrame f.notice.kind s.stationNo f.payload).length ≤ f.readBack)

theorem State.mem_owedEnd (s : State) (c : Instr) : c ∈ s.owedEnd ↔ s.endOwed c := by
  rw [State.owedEnd, List.mem_append, mem_dueIf, mem_dueIf, State.flightCollided, State.sentWhole, State.inRun, State.endOwed]
  cases s.lif.inFlight with
  | none => simp
  | some f =>
    simp only [Option.any_some, State.flightFrame, Bool.and_eq_true, decide_eq_true_eq, Bool.not_eq_true', Option.some.injEq,
      exists_eq_left']
    grind

theorem State.nodup_owedEnd (s : State) : s.owedEnd.Nodup := by
  rw [State.owedEnd, dueIf, dueIf]
  split <;> split <;> simp

/-! The edges owed to running units (R73). -/

theorem PulseInputs.shows_iff (p : PulseInputs) (source : PulseSource) :
    p.shows source = true ↔ ∃ before sample, p.before = some before ∧ p.now = some sample
      ∧ before.getLsbD source.input.val = source.falling ∧ sample.getLsbD source.input.val = !source.falling := by
  unfold PulseInputs.shows
  cases p.before <;> cases p.now <;> simp

theorem State.shows_iff_edgeComes {s : State} {sample : BitVec 8} (now : s.pulses.now = some sample) (source : PulseSource) :
    s.pulses.shows source = true ↔ s.edgeComes source sample := by
  simp [PulseInputs.shows_iff, State.edgeComes, now]

/-- A command is an edge of this period's sample that a running unit has not taken. -/
def State.edgeOwed (s : State) (c : Instr) : Prop :=
  ∃ (n : CaptureNo) (sample : BitVec 8), s.pulses.now = some sample ∧ s.captures[n].running = true
    ∧ ((c = .slaveEdge n ⟨sample, []⟩ ∧ n ∉ s.pulses.slaves
          ∧ ∃ source, s.captures[n].config.slave = some source ∧ s.edgeComes source sample)
      ∨ (c = .masterEdge n ⟨sample, []⟩ ∧ n ∉ s.pulses.masters ∧ s.edgeComes s.captures[n].config.master sample))

theorem State.slaveEdgeWaits_iff (s : State) (u : CaptureNo) : s.slaveEdgeWaits u = true ↔
    s.captures[u].running = true ∧ (∃ source, s.captures[u].config.slave = some source ∧ s.pulses.shows source = true)
      ∧ u ∉ s.pulses.slaves := by
  simp [State.slaveEdgeWaits, Option.any_eq_true_iff_get, Option.isSome_iff_exists, and_assoc]
  cases s.captures[u].config.slave <;> simp

theorem State.masterEdgeWaits_iff (s : State) (u : CaptureNo) : s.masterEdgeWaits u = true ↔
    s.captures[u].running = true ∧ s.pulses.shows s.captures[u].config.master = true ∧ u ∉ s.pulses.masters := by
  simp [State.masterEdgeWaits, and_assoc]

theorem State.mem_owedEdges (s : State) (c : Instr) : c ∈ s.owedEdges ↔ s.edgeOwed c := by
  simp only [State.owedEdges, List.mem_flatMap, List.mem_append, mem_dueIf, mem_captureNumbers, true_and, State.edgeOwed,
    State.slaveEdgeWaits_iff, State.masterEdgeWaits_iff]
  cases now : s.pulses.now with
  | none => simp [PulseInputs.shows_iff, now]
  | some sample =>
    simp only [State.shows_iff_edgeComes now, Option.getD_some, Option.some.injEq, exists_eq_left']
    refine exists_congr fun u => ?_
    grind

theorem State.nodup_owedEdges (s : State) : s.owedEdges.Nodup := by
  rw [State.owedEdges]
  refine List.nodup_flatMap.mpr ⟨fun u _ => ?_, ?_⟩
  · rw [dueIf, dueIf]
    split <;> split <;> simp
  · refine (show captureNumbers.Nodup by decide).imp fun {u v} different => ?_
    intro c inU inV
    simp only [List.mem_append, mem_dueIf] at inU inV
    rcases inU with ⟨-, rfl⟩ | ⟨-, rfl⟩ <;> simp_all

/-! What is owed altogether. -/

theorem State.mem_owed (s : State) (c : Instr) : c ∈ s.owed ↔ s.endOwed c ∨ s.edgeOwed c := by
  rw [State.owed, List.mem_append, State.mem_owedEnd, State.mem_owedEdges]

theorem State.nodup_owed (s : State) : s.owed.Nodup := by
  refine List.nodup_append'.mpr ⟨s.nodup_owedEnd, s.nodup_owedEdges, fun c ends edge => ?_⟩
  obtain ⟨-, f, -, which⟩ := (s.mem_owedEnd c).mp ends
  obtain ⟨n, sample, -, -, ⟨rfl, -⟩ | ⟨rfl, -⟩⟩ := (s.mem_owedEdges c).mp edge <;> simp at which

theorem State.tick_of_owed {s : State} (h : s.owed ≠ []) : s.tick = s.putPending s.owed := by
  rw [State.tick, if_neg (by simpa using h)]
  rfl

theorem State.tick_of_nothing_owed {s : State} (h : s.owed = []) : s.tick = s.advance.putPending s.advance.dueEvents := by
  rw [State.tick, if_pos (by simp [h])]
  rfl

theorem step_of_empty {s : State} (empty : s.pending = []) : step s = .next s.tick := by
  rw [step, empty]

theorem State.dueEvents_putPending (s : State) (queue : List Instr) : (s.putPending queue).dueEvents = s.dueEvents := by
  unfold State.dueEvents
  rfl

/-- Settles O2: what is owed is listed once each, and a period that owes nothing passes. -/
theorem idleStepPassesOnePeriod : Obligations.IdleStepPassesOnePeriod := by
  intro s empty
  refine ⟨fun ⟨c, owed⟩ => ?_, fun nothing => ?_⟩
  · have some : s.owed ≠ [] := List.ne_nil_of_mem ((s.mem_owed c).mpr owed)
    refine ⟨_, (step_of_empty empty).trans (congrArg _ (State.tick_of_owed some)), s.mem_owed, s.nodup_owed, fun p => ?_⟩
    cases p <;> rfl
  · have none : s.owed = [] := List.eq_nil_iff_forall_not_mem.mpr fun c h => nothing ⟨c, (s.mem_owed c).mp h⟩
    refine ⟨_, (step_of_empty empty).trans (congrArg _ (State.tick_of_nothing_owed none)), rfl, ?_, ?_, ?_,
      (State.dueEvents_putPending ..).symm, fun p hp => ?_⟩
    · change s.lif.aged _ = _
      rw [Lif.aged]
      cases s.lif.idle <;> rfl
    · change s.svp.aged _ = _
      rw [Svp.aged]
      cases s.svp.idle <;> rfl
    · cases h : s.pulses.now <;> simp [State.advance, PulseInputs.next, h]
    · revert hp
      cases p <;> simp [Part.same, State.advance]

end Sys2Proof.Machine
end

section
/-! SUPPORT. The moves that a command is made of: the single changes of the blocks, each with the condition under which the
model makes it. Laws about every command are proved once for every move. -/

namespace Sys2Proof.Machine

/-! Terms of the moves. -/

/-- The own claim of a slot, as it is announced (R156). -/
def State.ownClaim (s : State) (k : SlotNo) (start : LineTime) (length : Nat) : Claim :=
  { station := s.stationNo, slot := SlotNo.inTag k, unit := s.spl.slots[k].unit, start := start, length := length,
    firm := false }

/-- A unit after it has output an entry of its queue (R179, R181). -/
def SwUnit.afterOutput (u : SwUnit) (e : Edge) : SwUnit :=
  let first : Bool := e.origin = .start && !u.edgeMark
  let v := { u with queue := u.queue.erase e, outputCount := u.outputCount + 1, edgeMark := u.edgeMark || first }
  { v with state := v.stateAfter e }

/-- A unit after the entries of a start have been discarded at a start entry late beyond the window (R188). -/
def SwUnit.withoutStart (u : SwUnit) (e : Edge) : SwUnit :=
  u.discardWhere fun d => d.origin = .start && d.startNumber = e.startNumber

/-- A unit after it has written a stop (R182). -/
def SwUnit.stopped (u : SwUnit) (time : LineTime) : SwUnit :=
  { (u.discardWhere fun e => e.origin = .start).writeEdges .stop time with state := .stopping }

/-- A unit after it has taken a start (R180). -/
def SwUnit.starts (u : SwUnit) (time : LineTime) : SwUnit :=
  { { u with startNumber := u.startNumber + 1, edgeMark := false }.writeEdges .start time with state := .starting }

/-- A unit that a trip view onset has reached (R190). -/
def SwUnit.flagged (u : SwUnit) (onset : UnitOnset) : SwUnit := { u with tripFlag := true, lastOnset := some onset }

/-- The fouling indices of a scaling watch lie in 0 to 2000 (R133). -/
structure Scw.indicesSound (w : Scw) : Prop where
  history : ∀ r ∈ w.history, indexSound r.index
  latest : ∀ e, w.latest = some e → indexSound e.record.index
  held : ∀ h, w.held = some h → h.index ≤ 2000

/-- The fouling indices of a row lie in 0 to 2000 (R133). -/
def PeerRow.indicesSound (r : PeerRow) : Prop := indexSound r.lastIndex ∧ ∀ h, r.heat = some h → indexSound h.index

/-! Moves of the planner, the units, the attention set and the transmit queue that leave holds and trip flags alone. -/

inductive PlanMove : State → State → Prop where
  | note (s : State) (cause : Cause) (why : Option ClaimFailure) (other : ∀ m, cause ≠ .peerTrip m) :
    PlanMove s { s with attention := raiseIn cause why s.tmu.lineTime s.attention }
  | queue (s : State) (n : Notice) (planner : n.isClaim = true ∨ n.isRelease = true) : PlanMove s (s.queueNotice n)
  | draw (s : State) : PlanMove s { s with freeNext := s.freeNext + 1 }
  | wait (s : State) (k : SlotNo) (x : Slot) (before : (s.slotState k).isWaiting = true) (after : x.state.isWaiting = true)
    (unit : x.unit = s.spl.slots[k].unit) : PlanMove s (s.putSlot k x)
  | occupy (s : State) (k : SlotNo) (x : Slot) (run : s.inRun = true) (before : s.slotState k = .free)
    (after : x.state.isWaiting = true) (idle : s.units[x.unit].state = .idle) (unserved : s.servingSlot? x.unit = none) :
    PlanMove s (s.putSlot k x)
  | announce (s : State) (k : SlotNo) (start : LineTime) (length : Nat) (waiting : (s.slotState k).isWaiting = true)
    (clear : s.spl.tripHold = false) (free : s.candidateFree length start = true) :
    PlanMove s ((s.putClaims (insertClaim (s.ownClaim k start length) s.spl.claims)).slotTo k .announced)
  | leave (s : State) (k : SlotNo) (x : Slot)
    (goal : x.state = .free ∨ x.state.isWaiting = true ∧ x.unit = s.spl.slots[k].unit ∧ (s.slotState k).unsettled = true) :
    PlanMove s ((s.removeOwn k).putSlot k x)
  | expire (s : State) : PlanMove s s.expireOnly.1
  | settle (s : State) (k : SlotNo) (c : Count) (announced : s.slotState k = .announced) :
    PlanMove s (s.slotTo k (.settling c))
  | started (s : State) (k : SlotNo) (firm : s.slotState k = .firm) : PlanMove s (s.slotTo k .started)
  | hear (s : State) (c : Claim) (foreign : c.station ≠ s.stationNo) : PlanMove s (s.putClaims (writeHeard c s.spl.claims).1)
  | forget (s : State) (cs : List Claim) (sub : cs.Sublist s.spl.claims)
    (own : cs.filter (·.station = s.stationNo) = s.spl.claims.filter (·.station = s.stationNo)) : PlanMove s (s.putClaims cs)
  | output (s : State) (n : UnitNo) (e : Edge) (mem : e ∈ s.units[n].queue) :
    PlanMove s ((s.putOutput e.output e.high).putUnit n (s.units[n].afterOutput e))
  | late (s : State) (n : UnitNo) (count : Counter16) (late : Option LateEdge) :
    PlanMove s (s.putUnit n { s.units[n] with lateCount := count, lastLate := late })
  | abort (s : State) (n : UnitNo) (e : Edge) (mem : e ∈ s.units[n].queue) (start : e.origin = .start) :
    PlanMove s (s.putUnit n { (s.units[n].withoutStart e).writeAbort s.now with state := .stopping })
  | miss (s : State) (n : UnitNo) (e : Edge) (mem : e ∈ s.units[n].queue) (start : e.origin = .start) :
    PlanMove s (s.putUnit n { s.units[n].withoutStart e with state := .idle })
  | stop (s : State) (n : UnitNo) (time : LineTime) (active : s.units[n].state = .starting ∨ s.units[n].state = .running) :
    PlanMove s (s.putUnit n (s.units[n].stopped time))

/-! Moves of the other blocks that leave the trip latch, the trip view, the scaling state and what the rows show of them. -/

/-- What a group keeps: its configuration; outside RUN it opens no set; its ring stays within its depth and numbered. -/
structure Group.keeps (g x : Group) (inRun : Bool) : Prop where
  config : x.periodMs = g.periodMs ∧ x.ringMark = g.ringMark
  sets : x.openSet ≠ none → g.openSet ≠ none ∨ inRun = true
  ring : g.ring.length ≤ 64 → x.ring.length ≤ 64
  numbered : g.ring.length ≤ 64 → g.numbered → x.numbered

/-- What a scaling watch keeps: its configuration but the baseline; outside RUN it opens no interval; its history stays within
its depth, and its indices in range. -/
structure Scw.keeps (w x : Scw) (inRun : Bool) : Prop where
  config : { x.config with baseline := 0 } = { w.config with baseline := 0 }
  interval : x.interval ≠ none → w.interval ≠ none ∨ inRun = true
  history : w.history.length ≤ 8 → x.history.length ≤ 8
  indices : w.indicesSound → x.indicesSound

inductive PlantMove : State → State → Prop where
  | pending (s : State) (queue : List Instr) : PlantMove s (s.putPending queue)
  | raise (s : State) (cause : Cause) : PlantMove s (s.raise cause)
  | queue (s : State) (n : Notice) (sound : s.scw.indicesSound → n.indexSound) : PlantMove s (s.queueNotice n)
  | port (s : State) (x : Svp) (station : x.station = s.svp.station := by rfl) (list : x.watchList = s.svp.watchList := by rfl) :
    PlantMove s (s.putSvp x)
  | time (s : State) (x : Tmu) : PlantMove s (s.putTmu x)
  | pulses (s : State) (x : PulseInputs) : PlantMove s (s.putPulses x)
  | await (s : State) (waits : Bool) : PlantMove s { s with awaitMclk := waits }
  | own (s : State) (x : OwnRow) (sound : s.scw.indicesSound → (∀ h, s.own.heat = some h → indexSound h.index) →
      ∀ h, x.heat = some h → indexSound h.index) : PlantMove s { s with own := x }
  | line (s : State) (x : Lif) (queue : x.queue = s.lif.queue := by rfl)
    (flight : ∀ f, x.inFlight = some f → ∃ g, s.lif.inFlight = some g ∧ f.notice = g.notice) : PlantMove s (s.putLif x)
  | take (s : State) (x : Lif) (e : QueueEntry) (f : InFlight) (run : s.inRun = true) (queue : s.lif.queue = e :: x.queue)
    (flight : x.inFlight = some f) (notice : f.notice = e.notice) : PlantMove s (s.putLif x)
  | back (s : State) (x : Lif) (f : InFlight) (flight : s.lif.inFlight = some f) (few : f.collisions + 1 < 8)
    (queue : x.queue = returnIn f.notice (f.collisions + 1) s.lif.queue) (ended : x.inFlight = none) : PlantMove s (s.putLif x)
  | clear (s : State) (test : Pending → Bool) : PlantMove s { s with attention := s.attention.filter test }
  | timer (s : State) (n : StationNo) (timer : SilenceTimer) (stray : Counter16) :
    PlantMove s (s.putPeer n { s.peers[n] with silence := timer, strayCount := stray })
  | channel (s : State) (c : ChannelNo) (x : Channel) (config : x.config = s.channels[c].config := by rfl)
    (running : x.running = true → s.channels[c].running = true ∨ s.inRun = true := by exact .inl)
    (history : s.channels[c].guardHistory.length ≤ 8 → x.guardHistory.length ≤ 8 := by exact id) : PlantMove s (s.putChannel c x)
  | group (s : State) (g : GroupNo) (x : Group) (keeps : s.groups[g].keeps x s.inRun) : PlantMove s (s.putGroup g x)
  | capture (s : State) (u : CaptureNo) (x : Capture) (config : x.config = s.captures[u].config := by rfl)
    (running : x.running = true → s.captures[u].running = true ∨ s.inRun = true := by exact .inl) (fifo : s.captures[u].fifo.length ≤ 16 → x.fifo.length ≤ 16 := by exact id)
    (history : s.captures[u].history.length ≤ 4 → x.history.length ≤ 4 := by exact id) : PlantMove s (s.putCapture u x)
  | turbine (s : State) (x : Tsv) (config : x.config = s.tsv.config := by rfl) (teeth : x.effectiveTeeth = s.tsv.effectiveTeeth := by rfl)
    (latch : x.latch = s.tsv.latch := by rfl) (view : x.viewActive = s.tsv.viewActive := by rfl) : PlantMove s (s.putTsv x)
  | meter (s : State) (x : Hmt) (config : x.config = s.hmt.config := by rfl)
    (forward : s.hmt.forwardResidue < 10 ^ 8 → x.forwardResidue < 10 ^ 8)
    (reverse : s.hmt.reverseResidue < 10 ^ 8 → x.reverseResidue < 10 ^ 8) : PlantMove s (s.putHmt x)
  | watch (s : State) (x : Scw) (keeps : s.scw.keeps x s.inRun) (state : x.state = s.scw.state := by rfl) : PlantMove s (s.putScw x)

/-- A move that leaves alone what the trip view and the two holds follow, and what follows them. -/
inductive Calm (s t : State) : Prop where
  | plan (move : PlanMove s t)
  | plant (move : PlantMove s t)

/-! Moves of the trip view and of what follows it (R104, R105, R167, R190, R192). -/

inductive TripMove : State → State → Prop where
  | calm {s t : State} (move : Calm s t) : TripMove s t
  | view (s : State) (active : Bool) (onset : Option Onset) :
    TripMove s (s.putTsv { s.tsv with viewActive := active, onset := onset })
  | hold (s : State) (on : Bool) : TripMove s (s.putSpl { s.spl with tripHold := on })
  | flag (s : State) (n : UnitNo) (onset : UnitOnset) (notStarting : s.units[n].state ≠ .starting) :
    TripMove s (s.putUnit n (s.units[n].flagged onset))
  | shed (s : State) (n : UnitNo) (onset : UnitOnset) (time : LineTime)
    (active : s.units[n].state = .starting ∨ s.units[n].state = .running) :
    TripMove s (s.putUnit n ((s.units[n].flagged onset).stopped time))
  | unflag (s : State) (n : UnitNo) : TripMove s (s.clearTripFlag n)

/-! Moves of the scaling hold (R166, R168). -/

inductive HoldMove : State → State → Prop where
  | plan {s t : State} (move : PlanMove s t) : HoldMove s t
  | hold (s : State) (on : Bool) : HoldMove s (s.putSpl { s.spl with scalingHold := on })

/-! What an onset of the trip view makes of the planner and the units (R104, R166, R167, R190). -/

inductive OnsetMove : State → State → Prop where
  | plan {s t : State} (move : PlanMove s t) : OnsetMove s t
  | hold (s : State) : OnsetMove s (s.putSpl { s.spl with tripHold := true })
  | flag (s : State) (n : UnitNo) (onset : UnitOnset) (notStarting : s.units[n].state ≠ .starting) :
    OnsetMove s (s.putUnit n (s.units[n].flagged onset))
  | shed (s : State) (n : UnitNo) (onset : UnitOnset) (time : LineTime)
    (active : s.units[n].state = .starting ∨ s.units[n].state = .running) :
    OnsetMove s (s.putUnit n ((s.units[n].flagged onset).stopped time))

/-! What a command is made of, with the trip view's and the scaling hold's evaluations whole. -/

inductive RawAct : State → State → Prop where
  | calm {s t : State} (move : Calm s t) : RawAct s t
  | row (s : State) (n : StationNo) (x : PeerRow) (sound : s.peers[n].indicesSound → x.indicesSound) :
    RawAct s (s.putPeer n x)
  | latch (s : State) (x : Tsv) (config : x.config = s.tsv.config := by rfl) (teeth : x.effectiveTeeth = s.tsv.effectiveTeeth := by rfl)
    (view : x.viewActive = s.tsv.viewActive := by rfl) : RawAct s (s.putTsv x)
  | watch (s : State) (x : Scw) (keeps : s.scw.keeps x s.inRun) : RawAct s (s.putScw x)
  | view (s : State) (e : ViewEvent) (order : List Dependant) : RawAct s (s.evaluateView e order)
  | hold (s : State) : RawAct s s.evaluateScalingHold

/-- The trip view shows what it follows (R103). -/
def State.viewSettled (s : State) : Prop := s.tsv.viewActive = s.viewCondition

/-- The scaling hold shows what it follows; a row not heard shows CLEAR (R21, R166). -/
structure State.holdSettled (s : State) : Prop where
  hold : s.spl.scalingHold = s.scalingAlarm
  unheard : ∀ n : StationNo, n ≠ s.stationNo → s.peers[n].heard = false → s.peers[n].scaling = .clear

/-! A command's parts: single moves that leave alone what the view and the hold follow, and whole chains that end with both
settled. -/

inductive Act (s t : State) : Prop where
  | calm (move : Calm s t)
  | whole (moves : Relation.ReflTransGen RawAct s t) (view : s.viewSettled → t.viewSettled)
    (hold : s.holdSettled → t.holdSettled)

abbrev Plans : State → State → Prop := Relation.ReflTransGen PlanMove
abbrev Calms : State → State → Prop := Relation.ReflTransGen Calm
abbrev Trips : State → State → Prop := Relation.ReflTransGen TripMove
abbrev Holds : State → State → Prop := Relation.ReflTransGen HoldMove
abbrev Onsets : State → State → Prop := Relation.ReflTransGen OnsetMove
abbrev Raws : State → State → Prop := Relation.ReflTransGen RawAct
abbrev Acts : State → State → Prop := Relation.ReflTransGen Act

theorem PlanMove.plans {s t : State} (h : PlanMove s t) : Plans s t := .single h
theorem PlantMove.calms {s t : State} (h : PlantMove s t) : Calms s t := .single (.plant h)
theorem PlantMove.acts {s t : State} (h : PlantMove s t) : Acts s t := .single (.calm (.plant h))
theorem PlanMove.acts {s t : State} (h : PlanMove s t) : Acts s t := .single (.calm (.plan h))
theorem Act.acts {s t : State} (h : Act s t) : Acts s t := .single h
theorem RawAct.raws {s t : State} (h : RawAct s t) : Raws s t := .single h

theorem Plans.calms {s t : State} (h : Plans s t) : Calms s t :=
  Relation.ReflTransGen.mono (fun _ _ h => Calm.plan h) _ _ h
theorem Calms.trips {s t : State} (h : Calms s t) : Trips s t :=
  Relation.ReflTransGen.mono (fun _ _ h => TripMove.calm h) _ _ h
theorem Calms.acts {s t : State} (h : Calms s t) : Acts s t :=
  Relation.ReflTransGen.mono (fun _ _ h => Act.calm h) _ _ h
theorem Calms.raws {s t : State} (h : Calms s t) : Raws s t :=
  Relation.ReflTransGen.mono (fun _ _ h => RawAct.calm h) _ _ h
theorem Plans.raws {s t : State} (h : Plans s t) : Raws s t := Calms.raws (Plans.calms h)
theorem Plans.onsets {s t : State} (h : Plans s t) : Onsets s t :=
  Relation.ReflTransGen.mono (fun _ _ h => OnsetMove.plan h) _ _ h
theorem OnsetMove.trip {s t : State} (h : OnsetMove s t) : TripMove s t := by
  cases h with
  | plan move => exact .calm (.plan move)
  | hold => exact .hold s true
  | flag n onset notStarting => exact .flag s n onset notStarting
  | shed n onset time active => exact .shed s n onset time active
theorem Onsets.trips {s t : State} (h : Onsets s t) : Trips s t :=
  Relation.ReflTransGen.mono (fun _ _ h => OnsetMove.trip h) _ _ h
theorem Plans.trips {s t : State} (h : Plans s t) : Trips s t := Calms.trips (Plans.calms h)
theorem Plans.holds {s t : State} (h : Plans s t) : Holds s t :=
  Relation.ReflTransGen.mono (fun _ _ h => HoldMove.plan h) _ _ h
theorem Plans.acts {s t : State} (h : Plans s t) : Acts s t := Calms.acts (Plans.calms h)

/-- A fold over turns that are chains of moves is a chain of moves. -/
theorem reflTransGen_foldl {α : Type} {r : State → State → Prop} (f : State → α → State)
    (turn : ∀ s a, Relation.ReflTransGen r s (f s a)) (xs : List α) (s : State) :
    Relation.ReflTransGen r s (xs.foldl f s) := by
  induction xs generalizing s with
  | nil => exact .refl
  | cons x xs ih => exact (turn s x).trans (ih _)

/-- A chain of moves may go on under a condition. -/
theorem reflTransGen_ite {c : Prop} [Decidable c] {r : State → State → Prop} {s t u : State}
    (moved : Relation.ReflTransGen r s t) (more : c → Relation.ReflTransGen r t u) :
    Relation.ReflTransGen r s (if c then u else t) := by
  split
  · rename_i h
    exact moved.trans (more h)
  · exact moved

/-- A property that every move keeps is kept by a chain of moves. -/
theorem keeps_of_moves {r : State → State → Prop} {P : State → Prop} (keeps : ∀ s t, r s t → P s → P t) {s t : State}
    (moves : Relation.ReflTransGen r s t) (h : P s) : P t := by
  induction moves with
  | refl => exact h
  | tail _ move ih => exact keeps _ _ move ih

/-! The own entry of a slot. -/

theorem State.ownEntry?_eq_none_iff (s : State) (k : SlotNo) :
    s.ownEntry? k = none ↔ s.spl.claims.filter (s.isOwnEntry k) = [] := by
  simp [State.ownEntry?, List.find?_eq_none, List.filter_eq_nil_iff]

theorem State.removeOwn_of_none {s : State} {k : SlotNo} (h : s.ownEntry? k = none) : s.removeOwn k = s := by
  have stay : s.spl.claims.filter (!s.isOwnEntry k ·) = s.spl.claims := by
    have none := List.filter_eq_nil_iff.mp ((s.ownEntry?_eq_none_iff k).mp h)
    exact List.filter_eq_self.mpr fun c hc => by simp [none c hc]
  rw [State.removeOwn, stay]
  rfl

/-! The planner's operations as moves. -/

section Planner

variable (s : State)

theorem State.raise_plans (c : Cause) (other : ∀ m, c ≠ .peerTrip m := by exact nofun) : Plans s (s.raise c) :=
  .single (.note s c none other)

theorem State.raiseClaimFailed_plans (k : SlotNo) (why : ClaimFailure) : Plans s (s.raiseClaimFailed k why) :=
  .single (.note s (.claimFailed k) (some why) nofun)

theorem State.queueRelease_plans (k : SlotNo) (u : UnitNo) (r : ReleaseReason) : Plans s (s.queueRelease k u r) :=
  .head (.draw s) (.single (.queue _ (.release k u _ r) (.inr rfl)))

theorem State.announce_plans {k : SlotNo} {start : LineTime} {length : Nat} (waiting : (s.slotState k).isWaiting = true)
    (clear : s.spl.tripHold = false) (free : s.candidateFree length start = true) :
    Plans s (s.announce k s.spl.slots[k].unit start length) :=
  .head (.announce s k start length waiting clear free) (.single (.queue _ (.claim ..) (.inl rfl)))

theorem State.findStart_free {length n : Nat} {t start : LineTime} (h : s.findStart length n t = some start) :
    s.candidateFree length start = true := by
  induction n generalizing t with
  | zero => simp [State.findStart] at h
  | succ n ih =>
    rw [State.findStart] at h
    split at h
    · rename_i free
      rwa [← Option.some.inj h]
    · exact ih h

theorem State.planSlot_plans (k : SlotNo) : Plans s (s.planSlot k) := by
  unfold State.planSlot
  dsimp only
  split
  case isFalse => exact .refl
  case isTrue waiting =>
    have opened (x : Slot) (same : x.state = s.spl.slots[k].state ∧ x.unit = s.spl.slots[k].unit) :
        PlanMove s (s.putSlot k x) := .wait s k x waiting (by rw [same.1]; exact waiting) same.2
    refine .head (opened { s.spl.slots[k] with earliest := s.openEarliest s.spl.slots[k].earliest } ⟨rfl, rfl⟩) ?_
    generalize same : s.putSlot k { s.spl.slots[k] with earliest := s.openEarliest s.spl.slots[k].earliest } = t
    have waits : (t.slotState k).isWaiting = true := by
      subst same
      rw [State.slotState, State.putSlot_get, if_pos rfl]
      exact waiting
    have unit : t.spl.slots[k].unit = s.spl.slots[k].unit := by
      subst same
      rw [State.putSlot_get, if_pos rfl]
    have stay (r : WaitReason) : Plans t (t.slotTo k (.waiting r)) := .single (.wait t k _ waits rfl rfl)
    split
    · exact stay _
    · rename_i clear
      split
      · exact stay _
      · split
        · rename_i start found
          have announced := t.announce_plans waits (by simpa using clear) (t.findStart_free found)
          rw [unit] at announced
          exact announced
        · exact stay _

theorem State.replan_plans : Plans s s.replan := (s.planSlot_plans 0).trans (State.planSlot_plans _ 1)

theorem State.replanIf_plans (removed : Bool) : Plans s (s.replanIf removed) := by
  cases removed
  · exact .refl
  · exact s.replan_plans

theorem State.withdrawOnly_plans {k : SlotNo} (unsettled : (s.slotState k).unsettled = true) : Plans s (s.withdrawOnly k) := by
  unfold State.withdrawOnly
  dsimp only
  split
  · exact .head (.leave s k {} (.inl rfl)) ((State.queueRelease_plans _ _ _ _).trans (State.raiseClaimFailed_plans _ _ _))
  · exact .head (.leave s k { s.spl.slots[k] with state := .waiting .noWindow, withdrawals := s.spl.slots[k].withdrawals + 1 }
      (.inr ⟨rfl, rfl, unsettled⟩)) (State.queueRelease_plans _ _ _ _)

theorem State.withdraw_plans {k : SlotNo} (unsettled : (s.slotState k).unsettled = true) : Plans s (s.withdraw k) :=
  (s.withdrawOnly_plans unsettled).trans (State.planSlot_plans _ k)

theorem State.holdBack_plans {k : SlotNo} (unsettled : (s.slotState k).unsettled = true) (r : WaitReason) :
    Plans s (s.holdBack k r) :=
  .head (.leave s k { s.spl.slots[k] with state := .waiting r } (.inr ⟨rfl, rfl, unsettled⟩)) (State.queueRelease_plans _ _ _ _)

theorem State.endSlot_plans (k : SlotNo) (r : ReleaseReason) : Plans s (s.endSlot k r) :=
  .head (.leave s k {} (.inl rfl)) (State.queueRelease_plans _ _ _ _)

theorem State.releaseSlot_plans (k : SlotNo) (r : ReleaseReason) : Plans s (s.releaseSlot k r) :=
  (s.endSlot_plans k r).trans (State.replan_plans _)

theorem State.abandon_plans (k : SlotNo) : Plans s (s.abandon k) := by
  unfold State.abandon
  split
  · exact (s.endSlot_plans k _).trans (State.replan_plans _)
  · rename_i noEntry
    have free := PlanMove.leave s k {} (.inl rfl)
    rw [State.removeOwn_of_none (by simpa using noEntry)] at free
    exact .single free

theorem State.expire_plans : Plans s s.expire :=
  .head (.expire s) (State.replanIf_plans _ _)

theorem State.ownStartDue_unsettled {s : State} {k : SlotNo} (h : s.ownStartDue k = true) :
    (s.slotState k).unsettled = true := by
  unfold State.ownStartDue at h
  exact (Bool.and_eq_true_iff.mp h).1

theorem State.stepWithdraw_plans (k : SlotNo) : Plans s (s.stepWithdraw k) := by
  unfold State.stepWithdraw
  split
  · rename_i due
    exact s.withdrawOnly_plans (State.ownStartDue_unsettled due)
  · exact .refl

theorem State.plannerStep_plans : Plans s s.plannerStep := by
  unfold State.plannerStep
  split
  · exact (s.stepWithdraw_plans 0).trans ((State.stepWithdraw_plans _ 1).trans
      (.head (.expire _) (State.replan_plans _)))
  · exact .single (.expire s)

theorem State.claimSentWhole_plans (k : SlotNo) (start : LineTime) (length : Nat) :
    Plans s (s.claimSentWhole k start length) := by
  unfold State.claimSentWhole
  split
  · rename_i announced _
    split
    · exact .single (.settle s k _ announced)
    · exact .refl
  · exact .refl

theorem State.claimDiscarded_plans (k : SlotNo) (start : LineTime) (length : Nat) :
    Plans s (s.claimDiscarded k start length) := by
  unfold State.claimDiscarded
  split
  · split
    · exact .head (.leave s k {} (.inl rfl)) ((State.raiseClaimFailed_plans _ k _).trans (State.replan_plans _))
    · exact .refl
  · exact .refl

theorem State.judge_plans (heard : Claim) (k : SlotNo) : Plans s (s.judge heard k).1 := by
  unfold State.judge
  split
  · exact .refl
  · split
    · exact .refl
    · split
      · rename_i unsettled
        split
        · exact s.withdraw_plans unsettled
        · exact .refl
      · split
        · split
          · exact s.raise_plans _
          · exact .single (.queue s (.claim ..) (.inl rfl))
        · exact .refl

/-- The own entries stay when an entry of another station is taken out. -/
theorem filter_own_erase {claims : List Claim} {c : Claim} {me : StationNo} (foreign : c.station ≠ me) :
    (claims.erase c).filter (·.station = me) = claims.filter (·.station = me) := by
  induction claims with
  | nil => rfl
  | cons d ds ih =>
    rw [List.erase_cons]
    split
    · rename_i same
      have : d = c := by simpa using same
      simp [this, foreign]
    · rw [List.filter_cons, List.filter_cons, ih]

theorem State.claimHeard_plans {c : Claim} (foreign : c.station ≠ s.stationNo) : Plans s (s.claimHeard c) := by
  unfold State.claimHeard
  dsimp only
  refine .head (.hear s c foreign) ?_
  generalize same : s.putClaims _ = t
  split
  · refine .head (.forget t _ List.erase_sublist (filter_own_erase ?_)) (State.replan_plans _)
    subst same
    exact foreign
  · exact (t.judge_plans c 0).trans ((State.judge_plans _ c 1).trans (State.replanIf_plans _ _))

theorem State.releaseHeard_plans {sender : StationNo} (foreign : sender ≠ s.stationNo) (slot : Fin 4) :
    Plans s (s.releaseHeard sender slot) := by
  unfold State.releaseHeard
  dsimp only
  split
  · refine .head (.forget s _ List.filter_sublist ?_) (State.replan_plans _)
    rw [List.filter_filter]
    refine List.filter_congr fun c _ => ?_
    by_cases own : c.station = s.stationNo
    · simp [own, Ne.symm foreign]
    · simp [own]
  · exact .refl

theorem State.tripHoldSlot_plans (k : SlotNo) : Plans s (s.tripHoldSlot k).1 := by
  unfold State.tripHoldSlot
  split
  · rename_i state
    exact s.holdBack_plans (by rw [state]; rfl) _
  · rename_i state
    exact s.holdBack_plans (by rw [state]; rfl) _
  · exact s.endSlot_plans k _
  all_goals exact .refl

theorem State.scalingHoldSlot_plans (k : SlotNo) : Plans s (s.scalingHoldSlot k).1 := by
  unfold State.scalingHoldSlot
  split
  · rename_i bound
    exact s.holdBack_plans (Bool.and_eq_true_iff.mp bound).1 _
  · exact .refl

theorem State.report_plans (u : UnitNo) (r : UnitReport) : Plans s (s.report u r) := by
  unfold State.report
  split
  · exact .refl
  · rename_i k _
    split
    · rename_i firm
      exact .single (.started s k firm)
    · exact s.releaseSlot_plans k _
    · exact s.releaseSlot_plans k _
    · exact s.releaseSlot_plans k _
    · exact .refl

end Planner

/-! The units' operations as moves. -/

section Units

variable (s : State)

theorem State.outputEdge_plans {n : UnitNo} {e : Edge} (mem : e ∈ s.units[n].queue) : Plans s (s.outputEdge n e) := by
  unfold State.outputEdge
  dsimp only
  split
  · exact .head (.output s n e mem) (State.report_plans _ n _)
  · exact .single (.output s n e mem)

theorem State.outputLate_plans {n : UnitNo} {e : Edge} (mem : e ∈ s.units[n].queue) (lateStop : Bool) :
    Plans s (s.outputLate n e lateStop) := by
  refine .head (.late s n _ _) ((State.raise_plans _ _).trans (State.outputEdge_plans _ ?_))
  rw [(State.raise_frame _ _).2.2.2.2.2.2.2.2.2.2.2.2.2.2.2.2.2.1, State.putUnit_get, if_pos rfl]
  exact mem

theorem State.endStart_plans {n : UnitNo} {e : Edge} (mem : e ∈ s.units[n].queue) (start : e.origin = .start) :
    Plans s (s.endStart n e) := by
  unfold State.endStart
  dsimp only
  split
  · exact .head (.abort s n e mem start) ((State.raise_plans _ _).trans (State.report_plans _ n _))
  · exact .head (.miss s n e mem start) ((State.raise_plans _ _).trans (State.report_plans _ n _))

theorem State.catchUp_plans {n : UnitNo} {e : Edge} (mem : e ∈ s.units[n].queue) : Plans s (s.catchUp n e) := by
  unfold State.catchUp
  dsimp only
  split
  · exact s.outputEdge_plans mem
  · split
    · exact s.outputLate_plans mem _
    · split
      · exact s.outputLate_plans mem _
      · rename_i start
        exact s.endStart_plans mem start

theorem State.takeEdges_plans (n : UnitNo) (test : LineTime → Bool) (rule : State → Edge → State)
    (moves : ∀ (s : State) (e : Edge), e ∈ s.units[n].queue → Plans s (rule s e)) (fuel : Nat) :
    Plans s (s.takeEdges n test rule fuel) :=
  State.takeEdges_holds (Plans s) n test rule
    (fun t e found so => so.trans (moves t e (List.mem_of_find?_eq_some found))) fuel s .refl

theorem State.takeReached_plans (n : UnitNo) : Plans s (s.takeReached n) :=
  s.takeEdges_plans n _ _ (fun s _ mem => s.catchUp_plans mem) _

theorem State.unitStep_plans (n : UnitNo) (e : StepEvent) : Plans s (s.unitStep n e) :=
  s.takeEdges_plans n _ _ (fun s _ mem => s.catchUp_plans mem) _

/-- What follows the writing of a stop: the report of a start that no edge began, and the entries already reached. -/
def State.afterStop (s : State) (n : UnitNo) (report : Bool) : State :=
  (if report then s.report n .stopped else s).takeReached n

theorem State.afterStop_plans (n : UnitNo) (report : Bool) : Plans s (s.afterStop n report) := by
  unfold State.afterStop
  split
  · exact (s.report_plans n _).trans (State.takeReached_plans _ n)
  · exact State.takeReached_plans _ n

theorem State.writeStop_eq (n : UnitNo) (time : LineTime) :
    s.writeStop n time = (s.putUnit n (s.units[n].stopped time)).afterStop n
      (s.units[n].state = .starting && !s.units[n].edgeMark) := rfl

theorem State.writeStop_plans {n : UnitNo} (active : s.units[n].state = .starting ∨ s.units[n].state = .running)
    (time : LineTime) : Plans s (s.writeStop n time) := by
  rw [State.writeStop_eq]
  exact .head (.stop s n time active) (State.afterStop_plans _ n _)

theorem State.stopNow_plans (n : UnitNo) : Plans s (s.stopNow n) := by
  unfold State.stopNow
  split
  · rename_i starting
    exact s.writeStop_plans (.inl starting) _
  · rename_i running
    exact s.writeStop_plans (.inr running) _
  all_goals exact .refl

end Units

/-! The trip view's evaluation as moves. -/

section View

variable (s : State)

theorem State.shed_onsets (n : UnitNo) (trip : LineTime) (rank : Nat) : Onsets s (s.shed n trip rank) := by
  have stops (time : LineTime) (active : s.units[n].state = .starting ∨ s.units[n].state = .running) :
      Onsets s ((s.putUnit n (s.units[n].flagged ⟨rank, trip⟩)).writeStop n time) := by
    have once : (s.putUnit n (s.units[n].flagged ⟨rank, trip⟩)).putUnit n ((s.units[n].flagged ⟨rank, trip⟩).stopped time)
        = s.putUnit n ((s.units[n].flagged ⟨rank, trip⟩).stopped time) := by
      simp [State.putUnit]
    rw [State.writeStop_eq, State.putUnit_get, if_pos rfl, once]
    exact .head (.shed s n _ time active) (Plans.onsets (State.afterStop_plans _ n _))
  have flags (calm : s.units[n].state ≠ .starting) : Onsets s (s.putUnit n (s.units[n].flagged ⟨rank, trip⟩)) :=
    .single (.flag s n _ calm)
  unfold State.shed
  dsimp only
  split
  · rename_i idle
    exact flags (by rw [idle]; decide)
  · rename_i stopping
    exact flags (by rw [stopping]; decide)
  · rename_i starting
    exact stops _ (.inl starting)
  · rename_i running
    split
    · exact stops _ (.inr running)
    · exact flags (by rw [running]; decide)

theorem State.tripHoldOnset_onsets : Onsets s s.tripHoldOnset := by
  unfold State.tripHoldOnset
  exact .head (.hold s) (Plans.onsets ((State.tripHoldSlot_plans _ 0).trans
    ((State.tripHoldSlot_plans _ 1).trans (State.replanIf_plans _ _))))

theorem State.deliverOnset_onsets (t : LineTime) (rank : Nat) (d : Dependant) : Onsets s (State.deliverOnset t rank s d) := by
  cases d with
  | planner => exact s.tripHoldOnset_onsets
  | unit n => exact s.shed_onsets n t rank
  | group _ => exact .refl
  | scalingWatch => exact .refl

/-- The state of an onset before its deliveries: view, onset and the cause of a peer's trip (R104). -/
def State.onsetTaken (e : ViewEvent) : State :=
  let s := s.putTsv { s.tsv with viewActive := true, onset := some { time := e.time, source := e.source } }
  match e.source with
  | .own => s
  | .peerByTrip n | .peerByTime n => s.raise (.peerTrip n)

theorem State.tripOnset_eq (e : ViewEvent) (order : List Dependant) :
    s.tripOnset e order = (deliveryOrder onsetDependants order).foldl
      (State.deliverOnset e.time (s.onsetTaken e).rank) (s.onsetTaken e) := rfl

theorem State.onsetTaken_trips (e : ViewEvent) : Trips s (s.onsetTaken e) := by
  refine .head (.view s true (some { time := e.time, source := e.source })) ?_
  unfold State.onsetTaken
  dsimp only
  split
  · exact .refl
  · exact Calms.trips (PlantMove.calms (.raise _ _))
  · exact Calms.trips (PlantMove.calms (.raise _ _))

theorem State.tripOnset_trips (e : ViewEvent) (order : List Dependant) : Trips s (s.tripOnset e order) := by
  rw [State.tripOnset_eq]
  exact (s.onsetTaken_trips e).trans (Onsets.trips (reflTransGen_foldl _ (fun s d => s.deliverOnset_onsets _ _ d) _ _))

theorem State.tripRelease_trips : Trips s s.tripRelease := by
  unfold State.tripRelease State.tripHoldRelease
  exact .head (.view s false s.tsv.onset) (.head (.hold _ false) (.trans (Plans.trips (State.replan_plans _))
    (reflTransGen_foldl _ (fun s n => .single (.unflag s n)) _ _)))

theorem State.evaluateView_trips (e : ViewEvent) (order : List Dependant) : Trips s (s.evaluateView e order) := by
  unfold State.evaluateView
  split
  · exact .refl
  · split
    · exact s.tripOnset_trips e order
    · exact s.tripRelease_trips

theorem State.evaluateScalingHold_holds : Holds s s.evaluateScalingHold := by
  unfold State.evaluateScalingHold
  split
  · exact .refl
  · split
    · exact .head (.hold s true) (Plans.holds ((State.scalingHoldSlot_plans _ 0).trans
        ((State.scalingHoldSlot_plans _ 1).trans (State.replanIf_plans _ _))))
    · exact .head (.hold s false) (Plans.holds (State.replan_plans _))

end View

/-! What the moves of the planner and the units leave alone. -/

structure State.keptByPlan (s t : State) : Prop where
  stationNo : t.stationNo = s.stationNo
  config : t.config = s.config
  svp : t.svp = s.svp
  peers : t.peers = s.peers
  own : t.own = s.own
  tmu : t.tmu = s.tmu
  channels : t.channels = s.channels
  groups : t.groups = s.groups
  captures : t.captures = s.captures
  tsv : t.tsv = s.tsv
  hmt : t.hmt = s.hmt
  scw : t.scw = s.scw
  flight : t.lif.inFlight = s.lif.inFlight
  windows : t.spl.windows = s.spl.windows
  tripHold : t.spl.tripHold = s.spl.tripHold
  scalingHold : t.spl.scalingHold = s.spl.scalingHold

theorem State.expireOnly_spl (s : State) :
    s.expireOnly.1.spl.windows = s.spl.windows ∧ s.expireOnly.1.spl.tripHold = s.spl.tripHold
      ∧ s.expireOnly.1.spl.scalingHold = s.spl.scalingHold
      ∧ s.expireOnly.1.spl.claims = s.spl.claims.filter (!·.expiredAt s.now) := by
  have freed (c : Prop) [Decidable c] (s : State) (k : SlotNo) :
      (if c then s.freeSlot k else s).spl.windows = s.spl.windows
        ∧ (if c then s.freeSlot k else s).spl.tripHold = s.spl.tripHold
        ∧ (if c then s.freeSlot k else s).spl.scalingHold = s.spl.scalingHold := by
    split <;> exact ⟨rfl, rfl, rfl⟩
  simp only [State.expireOnly, slotNumbers, List.foldl_cons, List.foldl_nil, State.putClaims, State.putSpl, freed, and_self]

/-- A slot after the expiry of entries: FREE when its entry is among them (R151). -/
theorem State.expireOnly_slot (s : State) (k : SlotNo) :
    s.expireOnly.1.spl.slots[k]
      = if (s.spl.claims.filter (·.expiredAt s.now)).any (s.isOwnEntry k) then {} else s.spl.slots[k] := by
  have own (c : Prop) [Decidable c] (s : State) (j i : SlotNo) :
      (if c then s.freeSlot j else s).isOwnEntry i = s.isOwnEntry i := by split <;> rfl
  have freed (c : Prop) [Decidable c] (s : State) (j i : SlotNo) :
      (if c then s.freeSlot j else s).spl.slots[i] = if c ∧ i = j then {} else s.spl.slots[i] := by
    by_cases h : c
    · rw [if_pos h, State.freeSlot, State.putSlot_get]
      simp only [h, true_and]
    · rw [if_neg h, if_neg (fun both => h both.1)]
  show (List.foldl _ s slotNumbers).spl.slots[k] = _
  simp only [slotNumbers, List.foldl_cons, List.foldl_nil, freed, own]
  match k with
  | 0 => simp
  | 1 => simp

theorem PlanMove.keeps {s t : State} (h : PlanMove s t) : s.keptByPlan t := by
  cases h
  case expire =>
    obtain ⟨windows, tripHold, scalingHold, -⟩ := s.expireOnly_spl
    obtain ⟨-, stationNo, config, svp, -, lif, peers, own, tmu, -, -, channels, groups, captures, tsv, hmt, scw, -⟩ :=
      s.expireOnly_frame
    exact ⟨stationNo, config, svp, peers, own, tmu, channels, groups, captures, tsv, hmt, scw, by rw [lif], windows, tripHold,
      scalingHold⟩
  all_goals exact ⟨rfl, rfl, rfl, rfl, rfl, rfl, rfl, rfl, rfl, rfl, rfl, rfl, rfl, rfl, rfl, rfl⟩

/-! The settled view and the settled hold. -/

section Settled

variable {s t : State}

theorem State.latchedPeers_congr (stationNo : t.stationNo = s.stationNo)
    (rows : ∀ n : StationNo, t.peers[n].tripLatched = s.peers[n].tripLatched) : t.latchedPeers = s.latchedPeers := by
  have numbers : t.peerNumbers = s.peerNumbers := by
    unfold State.peerNumbers State.isPeer
    rw [stationNo]
  unfold State.latchedPeers
  rw [numbers]
  exact congrArg List.length (List.filter_congr fun n _ => rows n)

theorem State.viewSettled.congr (h : s.viewSettled) (stationNo : t.stationNo = s.stationNo)
    (latch : t.tsv.latch = s.tsv.latch) (view : t.tsv.viewActive = s.tsv.viewActive)
    (rows : ∀ n : StationNo, t.peers[n].tripLatched = s.peers[n].tripLatched) : t.viewSettled := by
  rw [State.viewSettled, State.viewCondition, view, latch, State.latchedPeers_congr stationNo rows]
  exact h

/-- Rows that are peer rows alone count, and those not heard show no alarm. -/
theorem State.scalingAlarm_congr (stationNo : t.stationNo = s.stationNo) (state : t.scw.state = s.scw.state)
    (rows : ∀ n : StationNo, n ≠ s.stationNo →
      (t.peers[n].heard && !t.peers[n].silent && t.peers[n].scaling = .alarm)
        = (s.peers[n].heard && !s.peers[n].silent && s.peers[n].scaling = .alarm)) : t.scalingAlarm = s.scalingAlarm := by
  have numbers : t.peerNumbers = s.peerNumbers := by
    unfold State.peerNumbers State.isPeer
    rw [stationNo]
  unfold State.scalingAlarm
  rw [numbers, state]
  refine congrArg _ (Bool.eq_iff_iff.mpr ?_)
  simp only [List.any_eq_true]
  refine exists_congr fun n => and_congr_right fun mem => ?_
  have peer : n ≠ s.stationNo := by simpa [State.peerNumbers, State.isPeer] using mem
  exact Bool.eq_iff_iff.mp (rows n peer)

theorem State.holdSettled.congr (h : s.holdSettled) (stationNo : t.stationNo = s.stationNo)
    (state : t.scw.state = s.scw.state) (hold : t.spl.scalingHold = s.spl.scalingHold)
    (rows : ∀ n : StationNo, t.peers[n].heard = s.peers[n].heard ∧ t.peers[n].silent = s.peers[n].silent
      ∧ t.peers[n].scaling = s.peers[n].scaling) : t.holdSettled where
  hold := by
    rw [hold, h.hold]
    refine (State.scalingAlarm_congr stationNo state fun n _ => ?_).symm
    rw [(rows n).1, (rows n).2.1, (rows n).2.2]
  unheard n other unheard := by
    rw [stationNo] at other
    rw [(rows n).1] at unheard
    rw [(rows n).2.2]
    exact h.unheard n other unheard

theorem State.evaluateScalingHold_hold (s : State) : s.evaluateScalingHold.spl.scalingHold = s.scalingAlarm := by
  have planned {u v : State} (plans : Plans u v) (on : Bool) (h : u.spl.scalingHold = on) : v.spl.scalingHold = on :=
    keeps_of_moves (P := fun u => u.spl.scalingHold = on) (fun _ _ move h => move.keeps.scalingHold.trans h) plans h
  unfold State.evaluateScalingHold
  split
  · rename_i same
    exact same.symm
  · split
    · rename_i alarm
      rw [alarm]
      exact planned ((State.scalingHoldSlot_plans _ 0).trans ((State.scalingHoldSlot_plans _ 1).trans
        (State.replanIf_plans _ _))) true rfl
    · rename_i quiet
      rw [Bool.eq_false_iff.mpr quiet]
      exact planned (State.replan_plans _) false rfl

/-- The scaling hold follows at once when it is evaluated (R166). -/
theorem State.evaluateScalingHold_settled {s : State}
    (unheard : ∀ n : StationNo, n ≠ s.stationNo → s.peers[n].heard = false → s.peers[n].scaling = .clear) :
    s.evaluateScalingHold.holdSettled := by
  obtain ⟨-, stationNo, -, -, -, peers, -, -, -, -, -, -, -, -, -, scw, -⟩ := s.evaluateScalingHold_frame
  refine ⟨?_, ?_⟩
  · rw [State.evaluateScalingHold_hold]
    exact (State.scalingAlarm_congr stationNo (by rw [scw]) fun n _ => by rw [peers]).symm
  · rw [stationNo, peers]
    exact unheard

theorem State.evaluateScalingHold_viewSettled {s : State} (h : s.viewSettled) : s.evaluateScalingHold.viewSettled := by
  obtain ⟨-, stationNo, -, -, -, peers, -, -, -, -, -, -, -, tsv, -⟩ := s.evaluateScalingHold_frame
  exact h.congr stationNo (by rw [tsv]) (by rw [tsv]) fun n => by rw [peers]

theorem State.onsetTaken_tsv (s : State) (e : ViewEvent) :
    (s.onsetTaken e).tsv = { s.tsv with viewActive := true, onset := some { time := e.time, source := e.source } } := by
  unfold State.onsetTaken
  dsimp only
  split <;> rfl

theorem State.tripOnset_tsv (s : State) (e : ViewEvent) (order : List Dependant) :
    (s.tripOnset e order).tsv = { s.tsv with viewActive := true, onset := some { time := e.time, source := e.source } } := by
  rw [State.tripOnset_eq, ← s.onsetTaken_tsv e]
  exact foldl_keeps _ State.tsv (fun _ _ => (State.deliverOnset_frame ..).2.2.2.2.2.2.2.2.2.2.2.2.1) _ _

theorem State.tripRelease_tsv (s : State) : s.tripRelease.tsv = { s.tsv with viewActive := false } := by
  rw [State.tripRelease, foldl_keeps State.clearTripFlag State.tsv (fun _ _ => rfl)]
  exact (State.tripHoldRelease_frame _).2.2.2.2.2.2.2.2.2.2.2.2.2.1

theorem State.evaluateView_latch (s : State) (e : ViewEvent) (order : List Dependant) :
    (s.evaluateView e order).tsv.latch = s.tsv.latch ∧ (s.evaluateView e order).tsv.viewActive = s.viewCondition := by
  unfold State.evaluateView
  split
  · rename_i same
    exact ⟨rfl, same.symm⟩
  · split
    · rename_i active
      rw [State.tripOnset_tsv, active]
      exact ⟨rfl, rfl⟩
    · rename_i quiet
      rw [State.tripRelease_tsv, Bool.eq_false_iff.mpr quiet]
      exact ⟨rfl, rfl⟩

/-- The trip view follows at once when it is evaluated (R103). -/
theorem State.evaluateView_settled (s : State) (e : ViewEvent) (order : List Dependant) : (s.evaluateView e order).viewSettled := by
  obtain ⟨-, stationNo, -, -, peers, -⟩ := s.evaluateView_frame e order
  obtain ⟨latch, view⟩ := s.evaluateView_latch e order
  rw [State.viewSettled, view, State.viewCondition, State.viewCondition, latch,
    State.latchedPeers_congr stationNo fun n => by rw [peers]]

theorem State.evaluateView_scalingHold (s : State) (e : ViewEvent) (order : List Dependant) :
    (s.evaluateView e order).spl.scalingHold = s.spl.scalingHold := by
  refine keeps_of_moves (P := fun u => u.spl.scalingHold = s.spl.scalingHold) (fun u v move h => ?_)
    (s.evaluateView_trips e order) rfl
  cases move with
  | calm move =>
    cases move with
    | plan move => exact move.keeps.scalingHold.trans h
    | plant move => cases move <;> exact h
  | _ => exact h

theorem State.evaluateView_holdSettled {s : State} (h : s.holdSettled) (e : ViewEvent) (order : List Dependant) :
    (s.evaluateView e order).holdSettled := by
  obtain ⟨-, stationNo, -, -, peers, -, -, -, -, -, -, -, -, scw⟩ := s.evaluateView_frame e order
  exact h.congr stationNo (by rw [scw]) (s.evaluateView_scalingHold e order) fun n => by rw [peers]; exact ⟨rfl, rfl, rfl⟩

end Settled

end Sys2Proof.Machine
end

section
/-! SUPPORT. The operations of the measuring blocks, the turbine supervisor, line time and the station line as chains of moves. -/

namespace Sys2Proof.Machine

/-! Bounded collections and fouling indices. -/

theorem length_enterNewest_le {α : Type} (n : Nat) (xs : List α) (x : α) : (enterNewest n xs x).length ≤ n := by
  rw [enterNewest, List.length_drop, List.length_append, List.length_singleton]
  omega

theorem mem_of_mem_enterNewest {α : Type} {n : Nat} {xs : List α} {x y : α} (h : y ∈ enterNewest n xs x) : y ∈ xs ∨ y = x := by
  simpa using List.mem_of_mem_drop h

theorem evaluate_indexSound (config : ScalingConfig) (i : Interval) (b : LineTime) :
    indexSound (evaluate config i b).record.index := by
  intro n h
  simp only [evaluate, indexRecord, Option.map_eq_some_iff] at h
  obtain ⟨m, -, rfl⟩ := h
  exact Nat.min_le_left ..

theorem heldAfter_sound {held : Option Held} {r : IndexRecord} (sound : indexSound r.index)
    (before : ∀ h, held = some h → h.index ≤ 2000) : ∀ h, heldAfter held r = some h → h.index ≤ 2000 := by
  intro h eq
  unfold heldAfter at eq
  split at eq
  · rename_i ua index _ present
    rw [← Option.some.inj eq]
    exact sound index present
  · exact before h eq

/-! The scaling watch. -/

section Watch

variable (s : State)

theorem Scw.keeps_interval {w : Scw} {inRun : Bool} (i : Option Interval) (count : Counter16) (last : Option LineTime)
    (h : w.interval ≠ none ∨ inRun = true) :
    w.keeps { w with interval := i, shortCount := count, lastShort := last } inRun where
  config := rfl
  interval _ := h
  history := id
  indices sound := ⟨sound.history, sound.latest, sound.held⟩

theorem State.watchInterval?_open {s : State} {i : Interval} (h : s.watchInterval? = some i) : s.scw.interval ≠ none := by
  unfold State.watchInterval? at h
  split at h <;> simp_all

theorem State.setToWatch_calms (r : SetRecord) : Calms s (s.setToWatch r) := by
  unfold State.setToWatch
  split
  · exact .refl
  · rename_i i found
    exact PlantMove.calms (.watch s _ (by exact Scw.keeps_interval _ _ _ (.inl (State.watchInterval?_open found))))

theorem State.forwardEnergy_calms (p : Nat) : Calms s (s.forwardEnergy p) := by
  unfold State.forwardEnergy
  split
  · exact .refl
  · rename_i i found
    exact PlantMove.calms (.watch s _ (by exact Scw.keeps_interval _ _ _ (.inl (State.watchInterval?_open found))))

theorem State.intervalStep_calms (e : StepEvent) : Calms s (s.intervalStep e) := by
  unfold State.intervalStep
  split
  · exact .refl
  · rename_i i found
    split
    · exact PlantMove.calms (.watch s _ (by exact Scw.keeps_interval _ _ _ (.inl (State.watchInterval?_open found))))
    · exact .refl

theorem State.queueHeat_calms {h : HeatSummary} (sound : indexSound h.index) : Calms s (s.queueHeat h) :=
  .trans (PlantMove.calms (.queue s (.heat h) fun _ => sound))
    (PlantMove.calms (.own _ _ fun _ _ g (eq : some h = some g) => by rw [← Option.some.inj eq]; exact sound))

theorem State.queueScale_calms {index : Option Nat} (sound : s.scw.indicesSound → indexSound index) (t : LineTime) :
    Calms s (s.queueScale index t) :=
  .trans (PlantMove.calms (.queue s (.scale s.scw.state s.scw.acknowledged index t) sound))
    (PlantMove.calms (.own _ { s.own with scalingChange := t } fun _ before => before))

/-- The scaling watch after an evaluation whose decision is given (R131 to R139). -/
def Scw.evaluated (w : Scw) (e : Evaluation) (decision : ScalingState × Bool) : Scw :=
  { w with
    latest := some e, held := heldAfter w.held e.record
    history := enterNewest Config.indexHistoryDepth w.history e.record
    state := decision.1, acknowledged := decision.2 }

theorem Scw.keeps_evaluated (w : Scw) {e : Evaluation} (index : indexSound e.record.index) (decision : ScalingState × Bool)
    (inRun : Bool) : w.keeps (w.evaluated e decision) inRun where
  config := rfl
  interval := .inl
  history _ := length_enterNewest_le 8 ..
  indices sound := by
    refine ⟨fun r mem => ?_, fun x eq => ?_, heldAfter_sound index sound.held⟩
    · rcases mem_of_mem_enterNewest mem with old | rfl
      · exact sound.history r old
      · exact index
    · rw [← Option.some.inj eq]
      exact index

/-- An evaluation and its decision with the HEAT notice, before a change of state is announced. -/
def State.recorded (s : State) (e : Evaluation) (decision : ScalingState × Bool) : State :=
  (s.putScw (s.scw.evaluated e decision)).queueHeat (heatOf e)

theorem State.recorded_raws {e : Evaluation} (index : indexSound e.record.index) (decision : ScalingState × Bool) :
    Raws s (s.recorded e decision) :=
  .trans (RawAct.raws (.watch s _ (s.scw.keeps_evaluated index decision _))) (Calms.raws (State.queueHeat_calms _ index))

/-- The decision of the scaling state after an evaluation (R137). -/
def Scw.decisionAfter (w : Scw) (e : Evaluation) : ScalingState × Bool :=
  Scw.decide { w with
    latest := some e, held := heldAfter w.held e.record
    history := enterNewest Config.indexHistoryDepth w.history e.record }

theorem State.evaluateInterval_eq (i : Interval) (b : LineTime) :
    s.evaluateInterval i b =
      let e := evaluate s.scw.config i b
      let t := s.recorded e (s.scw.decisionAfter e)
      if (s.scw.decisionAfter e).1 = s.scw.state then t
      else ((t.raise .scaleChange).queueScale e.record.index b).evaluateScalingHold := rfl

/-- What a record leaves of what the trip view and the scaling hold follow. -/
theorem State.recorded_same (e : Evaluation) (decision : ScalingState × Bool) :
    (s.recorded e decision).stationNo = s.stationNo ∧ (s.recorded e decision).peers = s.peers
      ∧ (s.recorded e decision).tsv = s.tsv ∧ (s.recorded e decision).spl = s.spl
      ∧ (s.recorded e decision).scw.state = decision.1 := by
  simp [State.recorded, Scw.evaluated]

/-- A change of the scaling state is announced (R138). -/
def State.changeNoted (s : State) (index : Option Nat) (t : LineTime) : State := (s.raise .scaleChange).queueScale index t

theorem State.changeNoted_same (index : Option Nat) (t : LineTime) :
    (s.changeNoted index t).stationNo = s.stationNo ∧ (s.changeNoted index t).peers = s.peers
      ∧ (s.changeNoted index t).tsv = s.tsv := by
  simp [State.changeNoted]

theorem State.evaluateInterval_acts (i : Interval) (b : LineTime) : Acts s (s.evaluateInterval i b) := by
  have index := evaluate_indexSound s.scw.config i b
  rw [State.evaluateInterval_eq]
  dsimp only
  generalize evaluate s.scw.config i b = e at index
  generalize s.scw.decisionAfter e = decision
  have recorded := s.recorded_raws index decision
  obtain ⟨stationNo, peers, tsv, spl, state⟩ := s.recorded_same e decision
  generalize s.recorded e decision = t at recorded stationNo peers tsv spl state
  split
  · rename_i same
    refine Act.acts (.whole recorded (fun h => ?_) fun h => ?_)
    · exact h.congr stationNo (by rw [tsv]) (by rw [tsv]) fun n => by rw [peers]
    · exact h.congr stationNo (state.trans same) (by rw [spl]) fun n => by rw [peers]; exact ⟨rfl, rfl, rfl⟩
  · change Acts s (t.changeNoted e.record.index b).evaluateScalingHold
    obtain ⟨stationNo', peers', tsv'⟩ := t.changeNoted_same e.record.index b
    have noted : Raws t (t.changeNoted e.record.index b) :=
      (Plans.raws (State.raise_plans _ _)).trans (Calms.raws (State.queueScale_calms _ (fun _ => index) b))
    refine Act.acts (.whole ((recorded.trans noted).trans (RawAct.raws (.hold _))) (fun h => ?_) fun h => ?_)
    · refine State.evaluateScalingHold_viewSettled (h.congr (stationNo'.trans stationNo) ?_ ?_ fun n => ?_)
      · rw [tsv', tsv]
      · rw [tsv', tsv]
      · rw [peers', peers]
    · refine State.evaluateScalingHold_settled ?_
      rw [stationNo'.trans stationNo, peers'.trans peers]
      exact h.unheard

theorem State.closeAtBoundary_acts (run : s.inRun = true) (i : Interval) : Acts s (s.closeAtBoundary i) := by
  unfold State.closeAtBoundary
  dsimp only
  split
  · exact PlantMove.acts (.watch s _ (by exact Scw.keeps_interval _ _ _ (.inr run)))
  · have still : (s.evaluateInterval i i.nextBoundary).inRun = true := by simpa [State.inRun] using run
    exact (s.evaluateInterval_acts i i.nextBoundary).trans
      (PlantMove.acts (.watch _ _ (by exact Scw.keeps_interval _ _ _ (.inr still))))

end Watch

/-! The groups. -/

section Groups

variable (s : State)

/-- A ring numbered as before holds the same records. -/
theorem Group.numbered_of_records {g x : Group} (records : x.ring.map RingSet.record = g.ring.map RingSet.record)
    (next : x.nextSequence = g.nextSequence) (h : g.numbered) : x.numbered := by
  intro i hi
  have length : x.ring.length = g.ring.length := by simpa using congrArg List.length records
  have same : x.ring[i].record = g.ring[i].record := by
    have := congrArg (·[i]?) records
    simpa [hi, length ▸ hi] using this
  rw [same, next, length]
  exact h i (length ▸ hi)

/-- A group whose ring and numbers stay, and which opens a set only if one is open or the station is in RUN. -/
theorem Group.keeps_of_ring {g x : Group} {inRun : Bool} (config : x.periodMs = g.periodMs ∧ x.ringMark = g.ringMark)
    (sets : x.openSet ≠ none → g.openSet ≠ none ∨ inRun = true)
    (records : x.ring.map RingSet.record = g.ring.map RingSet.record) (next : x.nextSequence = g.nextSequence) :
    g.keeps x inRun where
  config := config
  sets := sets
  ring h := by
    have := congrArg List.length records
    simp only [List.length_map] at this
    omega
  numbered _ := Group.numbered_of_records records next

theorem State.addToSet_calms (c : ChannelNo) (v : Int) (saturated : Bool) : Calms s (s.addToSet c v saturated) := by
  unfold State.addToSet
  split
  · exact .refl
  · split
    · exact .refl
    · rename_i o opened
      exact PlantMove.calms (.group s _ _ (by
        exact Group.keeps_of_ring ⟨rfl, rfl⟩ (fun _ => .inl (Option.ne_none_iff_exists'.mpr ⟨o, opened⟩)) rfl rfl))

/-- A full ring loses an unread set with no loss reported yet (R67, R68). -/
def Group.reportsLoss (x : Group) : Bool :=
  Config.ringDepth ≤ x.ring.length && x.ring.head?.any (·.unread) && !x.overrunMark

/-- A group after a closed set has entered its ring (R67, R68). -/
def Group.ringEntered (x : Group) (record : SetRecord) : Group :=
  { x with
    ring := (if x.ring.length < Config.ringDepth then x.ring else x.ring.tail) ++ [{ record := record, unread := true }]
    overrunCount := if x.reportsLoss then x.overrunCount + 1 else x.overrunCount
    overrunMark := x.overrunMark || x.reportsLoss }

/-- The state when a loss has been reported (R68). -/
def State.lossNoted (g : GroupNo) (report : Bool) : State := if report then s.raise (.ringOverrun g) else s

theorem State.putGroup_twice (g : GroupNo) (x y : Group) : (s.putGroup g x).putGroup g y = s.putGroup g y := by
  simp [State.putGroup]

theorem State.putGroup_self (g : GroupNo) : s.putGroup g s.groups[g] = s := by
  simp [State.putGroup]

theorem State.enterRing_eq (g : GroupNo) (x : Group) (record : SetRecord) :
    (s.putGroup g x).enterRing g record
      = ((s.lossNoted g x.reportsLoss).putGroup g (x.ringEntered record)).countMark g := by
  have got (y : Group) (s : State) : (s.putGroup g y).groups[g] = y := by rw [State.putGroup_get, if_pos rfl]
  unfold State.enterRing State.ringRemoval
  rw [got]
  dsimp only
  by_cases room : x.ring.length < Config.ringDepth
  · have none : x.reportsLoss = false := by simp [Group.reportsLoss, room]
    rw [if_pos room, got, State.putGroup_twice, none]
    simp [Group.ringEntered, room, none, State.lossNoted]
  · rw [if_neg room]
    by_cases lost : (x.ring.head?.any (·.unread) && !x.overrunMark) = true
    · have report : x.reportsLoss = true := by
        simp only [Group.reportsLoss, Bool.and_assoc, lost, Bool.and_true, decide_eq_true_eq]
        omega
      rw [if_pos lost, report]
      have got' (y : Group) (s : State) (c : Cause) : ((s.putGroup g y).raise c).groups[g] = y := got y s
      rw [got']
      refine congrArg (State.countMark · g) ?_
      simp [Group.ringEntered, room, report, State.lossNoted, State.raise, State.putGroup]
    · have silent : x.reportsLoss = false := by
        simp only [Group.reportsLoss, Bool.and_assoc, lost, Bool.and_false]
      rw [if_neg lost, got, State.putGroup_twice, silent]
      simp [Group.ringEntered, room, silent, State.lossNoted, State.putGroup]

theorem State.countMark_calms (g : GroupNo) : Calms s (s.countMark g) := by
  have counts (n : Nat) : PlantMove s (s.putGroup g { s.groups[g] with markCounter := n }) :=
    .group s g _ (Group.keeps_of_ring ⟨rfl, rfl⟩ .inl rfl rfl)
  unfold State.countMark
  dsimp only
  split
  · exact .refl
  · split
    · exact .trans (counts 0).calms (Plans.calms (State.raise_plans _ _))
    · exact (counts _).calms

/-- The ring stays within its depth (R67). -/
theorem Group.ringEntered_length {x : Group} (bounded : x.ring.length ≤ 64) (record : SetRecord) :
    (x.ringEntered record).ring.length ≤ 64 := by
  have kept : (if x.ring.length < Config.ringDepth then x.ring else x.ring.tail).length ≤ 63 := by
    split
    · rename_i room
      exact Nat.le_of_lt_succ room
    · rw [List.length_tail]
      omega
  rw [Group.ringEntered, List.length_append, List.length_singleton]
  omega

/-- The ring after a closed set has entered is numbered one further (R67). -/
theorem Group.ringEntered_numbered {g : Group} {record : SetRecord} (number : record.sequence = g.nextSequence)
    (bounded : g.ring.length ≤ 64) (h : g.numbered) (o : Option OpenSet) :
    ({ g with nextSequence := g.nextSequence + 1, openSet := o }.ringEntered record).numbered := by
  obtain ⟨kept, isKept, short, keeps⟩ : ∃ kept, kept = (if g.ring.length < Config.ringDepth then g.ring else g.ring.tail)
      ∧ kept.length ≤ 63 ∧ ∀ i, ∀ hi : i < kept.length,
        kept[i].record.sequence + BitVec.ofNat 32 (kept.length - i) = g.nextSequence := by
    split
    · rename_i room
      exact ⟨g.ring, rfl, Nat.le_of_lt_succ room, h⟩
    · refine ⟨g.ring.tail, rfl, by rw [List.length_tail]; omega, fun i hi => ?_⟩
      have later := h (i + 1) (by rw [List.length_tail] at hi; omega)
      rw [List.getElem_tail, List.length_tail, show g.ring.length - 1 - i = g.ring.length - (i + 1) by omega]
      exact later
  have ring : ({ g with nextSequence := g.nextSequence + 1, openSet := o }.ringEntered record).ring
      = kept ++ [{ record := record, unread := true }] := by rw [isKept]; rfl
  intro i hi
  have next : ({ g with nextSequence := g.nextSequence + 1, openSet := o }.ringEntered record).nextSequence
      = g.nextSequence + 1 := rfl
  simp only [ring, next, List.length_append, List.length_singleton] at hi ⊢
  by_cases last : i = kept.length
  · subst last
    simp [number]
  · have inside : i < kept.length := by omega
    rw [List.getElem_append_left inside, show kept.length + 1 - i = (kept.length - i) + 1 by omega, ← keeps i inside]
    rw [BitVec.ofNat_add, ← BitVec.add_assoc]
    rfl

theorem State.takeLatest_calms (r : Reading) : Calms s (s.takeLatest r) :=
  PlantMove.calms (.channel s r.channel _)

theorem State.closeSet_calms (g : GroupNo) (o : OpenSet) (endTime : LineTime) (nextShort : Bool)
    (sets : s.groups[g].openSet ≠ none ∨ s.inRun = true) : Calms s (s.closeSet g o endTime nextShort) := by
  unfold State.closeSet
  dsimp only
  refine .trans ?_ (State.setToWatch_calms _ _)
  refine .trans ?_ (reflTransGen_foldl _ (fun s r => s.takeLatest_calms r) _ _)
  rw [State.enterRing_eq]
  refine .trans ?_ (State.countMark_calms _ _)
  generalize Group.reportsLoss _ = report
  have noted : Calms s (s.lossNoted g report) := by
    unfold State.lossNoted
    split
    · exact Plans.calms (s.raise_plans _)
    · exact .refl
  have sameGroups : (s.lossNoted g report).groups = s.groups ∧ (s.lossNoted g report).inRun = s.inRun := by
    unfold State.lossNoted
    split <;> exact ⟨rfl, rfl⟩
  refine noted.trans (PlantMove.calms (.group _ g _ ?_))
  rw [sameGroups.1, sameGroups.2]
  exact {
    config := ⟨rfl, rfl⟩
    sets := fun _ => sets
    ring := fun bounded => Group.ringEntered_length (by exact bounded) _
    numbered := fun bounded h => Group.ringEntered_numbered rfl bounded h _ }

theorem State.groupStep_calms (g : GroupNo) (e : StepEvent) : Calms s (s.groupStep g e) := by
  unfold State.groupStep
  split
  · exact .refl
  · rename_i o opened
    split
    · exact s.closeSet_calms g _ _ _ (.inl (Option.ne_none_iff_exists'.mpr ⟨o, opened⟩))
    · exact .refl

end Groups

/-! The channels. -/

section Channels

variable (s : State)

theorem State.noteSaturation_calms (c : ChannelNo) (saturated : Bool) : Calms s (s.noteSaturation c saturated) := by
  unfold State.noteSaturation
  split
  · exact .trans (PlantMove.calms (.channel s c _)) (Plans.calms (State.raise_plans _ _))
  · exact .refl

theorem State.validMain_calms (c : ChannelNo) (r : Int) : Calms s (s.validMain c r) := by
  unfold State.validMain
  refine .trans ?_ (State.addToSet_calms _ c _ _)
  exact (s.noteSaturation_calms c _).trans (PlantMove.calms (.channel _ c _))

theorem State.guardLimitEvent_calms (c : ChannelNo) : Calms s (s.guardLimitEvent c) := by
  unfold State.guardLimitEvent
  dsimp only
  have raised (x : Channel) (config : x.config = s.channels[c].config) (running : x.running = s.channels[c].running)
      (history : x.guardHistory = s.channels[c].guardHistory) : Calms s ((s.putChannel c x).raise (.guardLimit c)) :=
    .trans (b := s.putChannel c x) (PlantMove.calms (.channel s c x config (running ▸ .inl) (history ▸ id))) (Plans.calms (State.raise_plans _ _))
  split
  · refine .trans ?_ (Plans.calms (State.stopNow_plans _ _))
    exact raised _ (by rfl) (by rfl) (by rfl)
  · exact raised _ (by rfl) (by rfl) (by rfl)

theorem State.validGuard_calms (c : ChannelNo) (r : Int) : Calms s (s.validGuard c r) := by
  unfold State.validGuard
  dsimp only
  refine reflTransGen_ite ?_ fun _ => State.guardLimitEvent_calms _ c
  exact (s.noteSaturation_calms c _).trans (PlantMove.calms (.channel _ c _ (history := fun _ => length_enterNewest_le 8 ..)))

theorem State.startChannel_calms (run : s.inRun = true) (c : ChannelNo) : Calms s (s.startChannel c) := by
  unfold State.startChannel
  split
  · exact PlantMove.calms (.channel s c _ (running := fun _ => .inr run) (history := fun _ => Nat.zero_le 8))
  · exact .refl

end Channels

/-! The heat meter. -/

section Meter

theorem Hmt.metered_keeps (h : Hmt) (t : LineTime) (ts tr : Int) :
    (h.metered t ts tr).config = h.config
      ∧ (h.forwardResidue < 10 ^ 8 → (h.metered t ts tr).forwardResidue < 10 ^ 8)
      ∧ (h.reverseResidue < 10 ^ 8 → (h.metered t ts tr).reverseResidue < 10 ^ 8) := by
  have below (n : Nat) : n % Params.unitsPerKilojoule < 10 ^ 8 := Nat.mod_lt _ (by decide)
  unfold Hmt.metered
  generalize clampDelta (ts - tr) = clamp
  obtain ⟨delta, clamped⟩ := clamp
  dsimp only
  cases pulseClass delta
  · exact ⟨rfl, fun _ => below _, id⟩
  · exact ⟨rfl, id, fun _ => below _⟩
  · exact ⟨rfl, id, id⟩
  · exact ⟨rfl, id, id⟩

theorem State.flowPulse_calms (s : State) (t : LineTime) : Calms s (s.flowPulse t) := by
  unfold State.flowPulse
  dsimp only
  split
  · split
    · refine .trans ?_ (Plans.calms (State.raise_plans _ _))
      exact PlantMove.calms (.meter s _ rfl id id)
    · exact PlantMove.calms (.meter s _ rfl id id)
  · rename_i ts tr _
    obtain ⟨config, forward, reverse⟩ := s.hmt.metered_keeps t ts tr
    split
    · exact .trans (PlantMove.calms (.meter s _ config forward reverse)) (State.forwardEnergy_calms _ _)
    · exact PlantMove.calms (.meter s _ config forward reverse)

end Meter

/-! The turbine supervisor. -/

section Turbine

variable (s : State)

theorem State.latchTrip_acts (cause : TripCause) (speed : Nat) (order : List Dependant) :
    Acts s (s.latchTrip cause speed order) := by
  unfold State.latchTrip
  refine Act.acts (.whole ?_ (fun _ => State.evaluateView_settled _ _ _) fun h => State.evaluateView_holdSettled ?_ _ _)
  · refine .trans (.trans (.trans ?_ (Calms.raws (PlantMove.calms (.queue _ (.trip ..) fun _ => trivial))))
      (Plans.raws (State.raise_plans _ _))) (RawAct.raws (.view _ _ _))
    exact RawAct.raws (.latch s _)
  · exact h.congr rfl rfl rfl fun _ => ⟨rfl, rfl, rfl⟩

theorem State.tripCause_acts (cause : TripCause) (speed : Nat) (order : List Dependant) :
    Acts s (s.tripCause cause speed order) := by
  unfold State.tripCause
  split
  · exact PlantMove.acts (.turbine s _)
  · exact s.latchTrip_acts cause speed order

theorem State.resetLatch_acts (order : List Dependant) : Acts s (s.resetLatch order) := by
  unfold State.resetLatch
  refine Act.acts (.whole ?_ (fun _ => State.evaluateView_settled _ _ _) fun h => State.evaluateView_holdSettled ?_ _ _)
  · refine .trans (.trans ?_ (Calms.raws (PlantMove.calms (.queue _ (.clear _) fun _ => trivial)))) (RawAct.raws (.view _ _ _))
    exact RawAct.raws (.latch s _)
  · exact h.congr rfl rfl rfl fun _ => ⟨rfl, rfl, rfl⟩

theorem State.superviseSpeed_acts (v : Nat) (order : List Dependant) : Acts s (s.superviseSpeed v order) := by
  unfold State.superviseSpeed
  dsimp only
  exact reflTransGen_ite (PlantMove.acts (.turbine s _)) fun _ => State.tripCause_acts _ _ _ _

theorem State.toothStamp_acts (stamp : Count) (first : Bool) (order : List Dependant) :
    Acts s (s.toothStamp stamp first order) := by
  unfold State.toothStamp
  dsimp only
  have noted (t : Tsv) (same : t.config = s.tsv.config ∧ t.effectiveTeeth = s.tsv.effectiveTeeth ∧ t.latch = s.tsv.latch
      ∧ t.viewActive = s.tsv.viewActive) : Acts s (s.putTsv t) :=
    PlantMove.acts (.turbine s t same.1 same.2.1 same.2.2.1 same.2.2.2)
  split
  · split
    · split
      · exact noted _ ⟨rfl, rfl, rfl, rfl⟩
      · refine .trans ?_ (State.superviseSpeed_acts _ _ _)
        exact (noted _ ⟨rfl, rfl, rfl, rfl⟩).trans (PlantMove.acts (.turbine _ _))
    · exact noted _ ⟨rfl, rfl, rfl, rfl⟩
  · exact .refl

theorem State.checkWheel_calms (n : Nat) : Calms s (s.checkWheel n) := by
  unfold State.checkWheel
  dsimp only
  refine reflTransGen_ite (PlantMove.calms (.turbine s _)) fun _ => ?_
  exact .trans (PlantMove.calms (.turbine _ _)) (Plans.calms (State.raise_plans _ _))

theorem State.teethless_acts (order : List Dependant) : Acts s (s.teethless order) := by
  unfold State.teethless
  exact .trans (PlantMove.acts (.turbine s _)) (State.superviseSpeed_acts _ _ _)

theorem State.revolutionSpeed_acts (n : Nat) (order : List Dependant) : Acts s (s.revolutionSpeed n order) := by
  unfold State.revolutionSpeed
  dsimp only
  split
  · exact PlantMove.acts (.turbine s _)
  · exact .trans (PlantMove.acts (.turbine s _)) (State.superviseSpeed_acts _ _ _)

theorem State.revolutionRecord_acts (r : CaptureRecord) (first : Bool) (order : List Dependant) :
    Acts s (s.revolutionRecord r first order) := by
  have noted : Acts s (s.noteRecord r.localCount) := PlantMove.acts (.turbine s _)
  unfold State.revolutionRecord
  dsimp only
  split
  · split
    · exact (noted.trans (State.revolutionSpeed_acts _ _ _)).trans
        (reflTransGen_ite (Calms.acts (State.checkWheel_calms _ _)) fun _ => State.teethless_acts _ _)
    · exact noted.trans (State.revolutionSpeed_acts _ _ _)
  · split
    · exact noted.trans (reflTransGen_ite (Calms.acts (State.checkWheel_calms _ _)) fun _ => State.teethless_acts _ _)
    · exact noted

theorem State.slaveEdgeAt_acts (unit : CaptureNo) (order : List Dependant) : Acts s (s.slaveEdgeAt unit order) := by
  unfold State.slaveEdgeAt
  dsimp only
  have stamped : Acts s (s.putCapture unit (s.captures[unit].slaveEdge s.count)) :=
    PlantMove.acts (.capture s unit _ (fifo := fun _ => length_enterNewest_le 16 ..))
  split
  · exact stamped.trans (State.toothStamp_acts _ _ _ _)
  · exact stamped

theorem State.masterEdgeAt_acts (unit : CaptureNo) (order : List Dependant) : Acts s (s.masterEdgeAt unit order) := by
  unfold State.masterEdgeAt
  dsimp only
  split
  · exact PlantMove.acts (.capture s unit _)
  · have recorded {x : Capture} (move : PlantMove s (s.putCapture unit x)) : Acts s (s.putCapture unit x) := move.acts
    split
    · refine .trans ?_ (State.revolutionRecord_acts _ _ _ _)
      exact recorded (.capture s unit _ (history := fun _ => length_enterNewest_le 4 ..))
    · refine .trans ?_ (Calms.acts (State.flowPulse_calms _ _))
      exact recorded (.capture s unit _ (history := fun _ => length_enterNewest_le 4 ..))
    all_goals exact recorded (.capture s unit _ (history := fun _ => length_enterNewest_le 4 ..))

end Turbine

/-! Line time. -/

section Time

variable (s : State)

theorem State.deliverStep_calms (e : StepEvent) (d : Dependant) : Calms s (State.deliverStep e s d) := by
  cases d with
  | group g => exact s.groupStep_calms g e
  | scalingWatch => exact s.intervalStep_calms e
  | planner => exact Plans.calms s.plannerStep_plans
  | unit n => exact Plans.calms (s.unitStep_plans n e)

theorem State.deliverSteps_calms (e : StepEvent) (order : List Dependant) : Calms s (s.deliverSteps e order) :=
  reflTransGen_foldl _ (fun s d => s.deliverStep_calms e d) _ _

theorem State.advanceBy_calms (d : LineTime) (distance : Nat) : Calms s (s.advanceBy d distance) := by
  unfold State.advanceBy
  dsimp only
  split
  · exact (PlantMove.time s _).calms.trans (Plans.calms (State.raise_plans _ _))
  · exact (PlantMove.time s _).calms

theorem State.timeHeard_calms (sender : StationNo) (senderTime syncTime : LineTime) (joined : Bool)
    (order : List Dependant) : Calms s (s.timeHeard sender senderTime syncTime joined order) := by
  unfold State.timeHeard
  dsimp only
  split
  · exact .refl
  split
  · unfold State.joinBy
    dsimp only
    split
    · exact .trans (State.advanceBy_calms _ _ _) (PlantMove.calms (.time _ _))
    · refine .trans ?_ (State.deliverSteps_calms _ _ _)
      exact .trans (State.advanceBy_calms _ _ _) (PlantMove.calms (.time _ _))
  split
  · exact .trans (State.advanceBy_calms _ _ _) (State.deliverSteps_calms _ _ _)
  · unfold State.stray
    split
    · exact .trans (PlantMove.calms (.timer s sender s.peers[sender].silence _)) (Plans.calms (State.raise_plans _ _))
    · exact .refl

end Time

/-! The station line. -/

section Line

variable (s : State)

/-- A row is written that shows no other latched trip (R14 to R20, R22). -/
theorem State.viewSettled.putPeer {s : State} (h : s.viewSettled) {n : StationNo} {x : PeerRow}
    (latched : x.tripLatched = s.peers[n].tripLatched) : (s.putPeer n x).viewSettled :=
  h.congr rfl rfl rfl fun m => by
    rw [State.putPeer_get]
    split
    · rename_i same
      rw [latched, same]
    · rfl

/-- No row that is not heard shows anything but CLEAR, after one has been written (R21). -/
theorem State.holdSettled.unheard_putPeer {s : State} (h : s.holdSettled) {n : StationNo} {x : PeerRow}
    (heard : x.heard = false → s.peers[n].heard = false ∧ x.scaling = s.peers[n].scaling) (m : StationNo)
    (peer : m ≠ s.stationNo) (unheard : (s.putPeer n x).peers[m].heard = false) :
    (s.putPeer n x).peers[m].scaling = .clear := by
  rw [State.putPeer_get] at unheard ⊢
  split
  · rename_i same
    subst same
    rw [if_pos rfl] at unheard
    obtain ⟨before, scaling⟩ := heard unheard
    rw [scaling]
    exact h.unheard m peer before
  · rename_i other
    rw [if_neg other] at unheard
    exact h.unheard m peer unheard

theorem State.fallSilent_acts (n : StationNo) : Acts s (s.fallSilent n) := by
  unfold State.fallSilent
  refine Act.acts (.whole ?_ (fun h => ?_) fun h => ?_)
  · exact .trans (.trans (RawAct.raws (.row s n _ (by exact id))) (Plans.raws (State.raise_plans _ _))) (RawAct.raws (.hold _))
  · have written : (s.putPeer n { s.peers[n] with silent := true }).viewSettled := h.putPeer rfl
    exact State.evaluateScalingHold_viewSettled (written.congr rfl rfl rfl fun _ => rfl)
  · exact State.evaluateScalingHold_settled (h.unheard_putPeer (x := { s.peers[n] with silent := true }) fun was => ⟨was, rfl⟩)

theorem State.writeRow_raws (n : StationNo) (x : PeerRow) (sound : s.peers[n].indicesSound → x.indicesSound) :
    Raws s (s.writeRow n x) := by
  unfold State.writeRow
  dsimp only
  split
  · exact .trans (RawAct.raws (.row s n x sound)) (RawAct.raws (.hold _))
  · exact RawAct.raws (.row s n x sound)

theorem State.writeRow_viewSettled {s : State} {n : StationNo} {x : PeerRow} (h : s.viewSettled)
    (latched : x.tripLatched = s.peers[n].tripLatched) : (s.writeRow n x).viewSettled := by
  unfold State.writeRow
  dsimp only
  split
  · exact State.evaluateScalingHold_viewSettled (h.putPeer latched)
  · exact h.putPeer latched

theorem State.writeRow_unheard {s : State} {n : StationNo} {x : PeerRow} (h : s.holdSettled) (heard : x.heard = true)
    (m : StationNo) (peer : m ≠ s.stationNo) (unheard : (s.writeRow n x).peers[m].heard = false) :
    (s.writeRow n x).peers[m].scaling = .clear := by
  have written : (s.writeRow n x).peers = (s.putPeer n x).peers := by
    unfold State.writeRow
    dsimp only
    split
    · exact (State.evaluateScalingHold_frame _).2.2.2.2.2.1
    · rfl
  rw [written] at unheard ⊢
  exact h.unheard_putPeer (fun not => absurd heard (by simp [not])) m peer unheard

/-- A heard row with the scaling state it had leaves the hold as it was, unless it was silent (R12, R22, R166). -/
theorem State.writeRow_holdSettled {s : State} {n : StationNo} {x : PeerRow} (foreign : n ≠ s.stationNo) (h : s.holdSettled)
    (heard : x.heard = true) (silent : x.silent = false) (scaling : x.scaling = s.peers[n].scaling) :
    (s.writeRow n x).holdSettled := by
  have unheard := State.writeRow_unheard (x := x) (n := n) h heard
  unfold State.writeRow at unheard ⊢
  dsimp only at unheard ⊢
  split
  · exact State.evaluateScalingHold_settled
      (h.unheard_putPeer (x := x) fun not => absurd heard (by simp [not]))
  · rename_i spoke
    rw [if_neg spoke] at unheard
    have alarm : (s.putPeer n x).scalingAlarm = s.scalingAlarm := State.scalingAlarm_congr rfl rfl fun m peer => ?_
    · exact ⟨h.hold.trans alarm.symm, unheard⟩
    rw [State.putPeer_get]
    split
    · rename_i same
      subst same
      rw [heard, silent, scaling, Bool.eq_false_iff.mpr spoke]
      cases was : s.peers[m].heard with
      | true => rfl
      | false => rw [h.unheard m peer was]; rfl
    · rfl

/-- A row as a notice heard leaves it, with the trip and scaling states it had, is a whole part. -/
theorem State.writeRow_acts {n : StationNo} (foreign : n ≠ s.stationNo) (x : PeerRow)
    (sound : s.peers[n].indicesSound → x.indicesSound) (heard : x.heard = true) (silent : x.silent = false)
    (latched : x.tripLatched = s.peers[n].tripLatched) (scaling : x.scaling = s.peers[n].scaling) : Acts s (s.writeRow n x) :=
  Act.acts (.whole (s.writeRow_raws n x sound) (fun h => State.writeRow_viewSettled h latched)
    fun h => State.writeRow_holdSettled foreign h heard silent scaling)

theorem indexHeard_sound (n : Nat) : indexSound (indexHeard n) := by
  unfold indexHeard
  intro m h
  split at h
  · cases h
  · rw [← Option.some.inj h]
    exact Nat.min_le_left ..

theorem State.scaleHeard_acts (n : StationNo) (p : List Byte) :
    Acts s ((s.writeRow n (scaleRow (s.heardRow n) p)).evaluateScalingHold) := by
  refine Act.acts (.whole ?_ (fun h => ?_) fun h => ?_)
  · refine .trans ?_ (RawAct.raws (.hold _))
    exact s.writeRow_raws n _ fun sound => ⟨indexHeard_sound _, sound.2⟩
  · exact State.evaluateScalingHold_viewSettled (State.writeRow_viewSettled h rfl)
  · refine State.evaluateScalingHold_settled fun m peer => ?_
    rw [(State.writeRow_frame ..).2.1] at peer
    exact State.writeRow_unheard h rfl m peer

/-- A TIME's row, up to its evaluation of the trip view (R14). -/
def State.timeViewed (s : State) (n : StationNo) (p : List Byte) (order : List Dependant) : State :=
  if (timeRow (s.heardRow n) p).tripLatched != s.peers[n].tripLatched then
    (s.writeRow n (timeRow (s.heardRow n) p)).evaluateView { time := s.now, source := .peerByTime n } order
  else s.writeRow n (timeRow (s.heardRow n) p)

theorem State.timeViewed_raws (n : StationNo) (p : List Byte) (order : List Dependant) : Raws s (s.timeViewed n p order) :=
  reflTransGen_ite (s.writeRow_raws n _ id) fun _ => RawAct.raws (.view _ _ _)

theorem State.timeViewed_viewSettled {s : State} (h : s.viewSettled) (n : StationNo) (p : List Byte) (order : List Dependant) :
    (s.timeViewed n p order).viewSettled := by
  unfold State.timeViewed
  split
  · exact State.evaluateView_settled _ _ _
  · rename_i same
    exact State.writeRow_viewSettled h (by simpa using same)

/-- A TIME's row, up to its evaluation of the scaling hold (R14). -/
def State.timeHeld (s : State) (n : StationNo) (p : List Byte) (order : List Dependant) : State :=
  if (timeRow (s.heardRow n) p).scaling != s.peers[n].scaling then (s.timeViewed n p order).evaluateScalingHold
  else s.timeViewed n p order

theorem State.timeHeld_acts {n : StationNo} (foreign : n ≠ s.stationNo) (p : List Byte) (order : List Dependant) :
    Acts s (s.timeHeld n p order) := by
  refine Act.acts (.whole ?_ (fun h => ?_) fun h => ?_)
  · exact reflTransGen_ite (s.timeViewed_raws n p order) fun _ => RawAct.raws (.hold _)
  · unfold State.timeHeld
    split
    · exact State.evaluateScalingHold_viewSettled (State.timeViewed_viewSettled h n p order)
    · exact State.timeViewed_viewSettled h n p order
  · have same : (s.timeViewed n p order).stationNo = s.stationNo
        ∧ (s.timeViewed n p order).peers = (s.writeRow n (timeRow (s.heardRow n) p)).peers := by
      have row := (s.writeRow_frame n (timeRow (s.heardRow n) p)).2.1
      unfold State.timeViewed
      split
      · obtain ⟨-, stationNo, -, -, peers, -⟩ := State.evaluateView_frame
          (s.writeRow n (timeRow (s.heardRow n) p)) { time := s.now, source := .peerByTime n } order
        exact ⟨stationNo.trans row, peers⟩
      · exact ⟨row, rfl⟩
    unfold State.timeHeld
    split
    · refine State.evaluateScalingHold_settled ?_
      rw [same.1, same.2]
      exact State.writeRow_unheard h rfl
    · rename_i unchanged
      have row := State.writeRow_holdSettled (x := timeRow (s.heardRow n) p) foreign h rfl rfl (by simpa using unchanged)
      unfold State.timeViewed
      split
      · exact State.evaluateView_holdSettled row _ _
      · exact row

theorem State.hearTime_acts {n : StationNo} (foreign : n ≠ s.stationNo) (p : List Byte) (order : List Dependant) :
    Acts s (s.hearTime n p order) :=
  (s.timeHeld_acts foreign p order).trans (Calms.acts (State.timeHeard_calms _ _ _ _ _ _))

/-- A row is written and a turbine record with it; the trip view is evaluated at once (R17, R18, R102). -/
theorem State.rowViewed_acts {n : StationNo} (foreign : n ≠ s.stationNo) {x : PeerRow}
    (sound : s.peers[n].indicesSound → x.indicesSound) (heard : x.heard = true) (silent : x.silent = false)
    (scaling : x.scaling = s.peers[n].scaling) (y : Tsv) (kept : PlantMove (s.writeRow n x) ((s.writeRow n x).putTsv y))
    (e : ViewEvent) (order : List Dependant) : Acts s (((s.writeRow n x).putTsv y).evaluateView e order) := by
  refine Act.acts (.whole ?_ (fun _ => State.evaluateView_settled _ _ _) fun h => State.evaluateView_holdSettled ?_ _ _)
  · exact ((s.writeRow_raws n x sound).trans (Calms.raws kept.calms)).trans (RawAct.raws (.view _ _ _))
  · exact (State.writeRow_holdSettled foreign h heard silent scaling).congr rfl rfl rfl fun _ => ⟨rfl, rfl, rfl⟩

theorem State.hearTrip_acts {n : StationNo} (foreign : n ≠ s.stationNo) (p : List Byte) (order : List Dependant) :
    Acts s (s.hearTrip n p order) := by
  unfold State.hearTrip
  dsimp only
  exact State.rowViewed_acts s foreign (by exact id) (by rfl) (by rfl) (by rfl) _ (PlantMove.turbine _ _) _ _

theorem State.hearClear_acts {n : StationNo} (foreign : n ≠ s.stationNo) (p : List Byte) (order : List Dependant) :
    Acts s (s.hearClear n p order) := by
  unfold State.hearClear
  dsimp only
  exact State.rowViewed_acts s foreign (by exact id) (by rfl) (by rfl) (by rfl) _ (PlantMove.turbine _ _) _ _

theorem State.hear_acts (kind : Nat) {n : StationNo} (foreign : n ≠ s.stationNo) (p : List Byte) (order : List Dependant) :
    Acts s (s.hear kind n p order) := by
  have heardRow : Acts s (s.writeRow n (s.heardRow n)) := s.writeRow_acts foreign _ id rfl rfl rfl rfl
  unfold State.hear
  split
  · exact s.hearTime_acts foreign p order
  · refine heardRow.trans (Plans.acts (State.claimHeard_plans _ ?_))
    rw [(State.writeRow_frame ..).2.1]
    exact foreign
  · refine heardRow.trans (Plans.acts (State.releaseHeard_plans _ ?_ _))
    simpa using foreign
  · exact s.hearTrip_acts foreign p order
  · exact s.hearClear_acts foreign p order
  · refine s.writeRow_acts foreign (heatRow (s.heardRow n) p) (fun _ => ⟨indexHeard_sound _, fun h eq => ?_⟩) rfl rfl rfl rfl
    rw [← Option.some.inj eq]
    exact indexHeard_sound _
  · exact s.scaleHeard_acts n p
  · exact .refl

theorem State.putCounters_calms (c : LineCounters) : Calms s (s.putCounters c) :=
  PlantMove.calms (.line s _ rfl fun f h => ⟨f, h, rfl⟩)

theorem State.validate_acts (kind : Nat) (sender : StationNo) (p : List Byte) (order : List Dependant) :
    Acts s (s.validate kind sender p order) := by
  unfold State.validate
  dsimp only
  split
  · exact Calms.acts (s.putCounters_calms _)
  split
  · exact (Calms.acts (s.putCounters_calms _)).trans (Plans.acts (State.raise_plans _ _))
  rename_i foreign
  split
  · exact Calms.acts (s.putCounters_calms _)
  · refine .trans (Calms.acts (s.putCounters_calms _)) (State.hear_acts _ kind ?_ p order)
    exact foreign

theorem State.frameComplete_acts (body : List Byte) (own : Bool) (check : Byte) (order : List Dependant) :
    Acts s (s.frameComplete body own check order) := by
  unfold State.frameComplete
  dsimp only
  split
  · exact Calms.acts (s.putCounters_calms _)
  split
  · exact .refl
  · exact s.validate_acts _ _ _ _

theorem State.flightAfter_notice {s : State} {character : Option Byte} {f : InFlight}
    (h : s.flightAfter character = some f) : ∃ g, s.lif.inFlight = some g ∧ f.notice = g.notice := by
  obtain ⟨g, flight, rfl⟩ := Option.map_eq_some_iff.mp h
  exact ⟨g, flight, InFlight.readsBack_notice ..⟩

theorem State.tellSent_plans (n : Notice) : Plans s (s.tellSent n) := by
  unfold State.tellSent
  split
  · exact s.claimSentWhole_plans _ _ _
  all_goals exact .refl

theorem State.tellDiscarded_plans (n : Notice) : Plans s (s.tellDiscarded n) := by
  unfold State.tellDiscarded
  split
  · exact s.claimDiscarded_plans _ _ _
  all_goals exact .refl

theorem State.jam_calms (n : Notice) : Calms s (s.jam n) :=
  (s.putCounters_calms _).trans (Plans.calms ((State.raise_plans _ _).trans (State.tellDiscarded_plans _ n)))

end Line

end Sys2Proof.Machine
end

section
/-! SUPPORT. Every command as a chain of moves: a reset, the settle end that confirms a claim, or a chain of the moves of
`Act`, before RUN with those of the boot check, the configuration requests and Start Station among them. -/

namespace Sys2Proof.Machine

/-! The moves that are made outside RUN. -/

inductive SetUp : State → State → Prop where
  | boot (s : State) (x : StationState) (result : BootResult) (outside : x ≠ .run) (before : s.svp.station ≠ .run) :
    SetUp s (s.putSvp { s.svp with station := x, bootResult := result })
  | run (s : State) (before : s.svp.station ≠ .run) : SetUp s (s.putSvp { s.svp with station := .run })
  | teeth (s : State) (n : Nat) : SetUp s (s.putTsv { s.tsv with effectiveTeeth := n })
  | station (s : State) (c : StationConfig) : SetUp s { s with config := c }
  | channel (s : State) (c : ChannelNo) (config : ChannelConfig) :
    SetUp s (s.putChannel c { s.channels[c] with config := config })
  | group (s : State) (g : GroupNo) (period mark : Nat) :
    SetUp s (s.putGroup g { s.groups[g] with periodMs := period, ringMark := mark })
  | capture (s : State) (u : CaptureNo) (config : CaptureConfig) :
    SetUp s (s.putCapture u { s.captures[u] with config := config })
  | turbine (s : State) (config : TurbineConfig) : SetUp s (s.putTsv { s.tsv with config := config })
  | heat (s : State) (config : HeatConfig) : SetUp s (s.putHmt { s.hmt with config := config })
  | scaling (s : State) (config : ScalingConfig) : SetUp s (s.putScw { s.scw with config := config })
  | window (s : State) (w : FixedWindow) (passes : s.windowRefusal? w = none) :
    SetUp s (s.putSpl { s.spl with windows := s.spl.windows ++ [w] })
  | noWindows (s : State) : SetUp s (s.putSpl { s.spl with windows := [] })
  | unit (s : State) (n : UnitNo) (config : UnitConfig) : SetUp s (s.putUnit n { s.units[n] with config := config })
  | edge (s : State) (n : UnitNo) (place : DefNo) (d : EdgeDef) (before : s.svp.station ≠ .run) :
    SetUp s (s.putUnit n { s.units[n] with defs := s.units[n].defs.set place d })
  | list (s : State) (items : List WatchItem) : SetUp s (s.putSvp { s.svp with watchList := items })

inductive Change (s t : State) : Prop where
  | act (act : Act s t)
  | setUp (setUp : SetUp s t)

abbrev Changes : State → State → Prop := Relation.ReflTransGen Change

theorem Acts.changes {s t : State} (h : Acts s t) : Changes s t := Relation.ReflTransGen.mono (fun _ _ h => Change.act h) _ _ h
theorem SetUp.changes {s t : State} (h : SetUp s t) : Changes s t := .single (.setUp h)

/-! What a command does. -/

/-- How a command outside RUN may move the station state (10.2). -/
def stationMoves (c : Instr) (before after : StationState) : Prop :=
  after = before
    ∨ (∃ passed high, c = .bootCheckEnd passed high ∧ before = .boot ∧ after = if passed then .config else .fault)
    ∨ (∃ payload, c = .startStation payload ∧ before = .config ∧ after = .run)

/-- The planner's state when an own claim has become FIRM (R163). -/
def State.confirmed (s : State) (k : SlotNo) : State :=
  (s.putClaims (s.spl.claims.map fun c => if s.isOwnEntry k c then { c with firm := true } else c)).slotTo k .firm

/-- An own claim becomes FIRM with nothing against it, and its unit, unless its trip flag is set, takes the start (R163, R180). -/
structure Confirms (s u : State) (k : SlotNo) (own : Claim) : Prop where
  due : s.settleDue k = true
  entry : s.ownEntry? k = some own
  tripHold : s.spl.tripHold = false
  scalingHold : (s.spl.scalingHold && s.units[own.unit].config.scalingBound) = false
  entries : s.spl.claims.any (s.blocksFirm own) = false
  windows : windowBlocked s.spl.windows own.length own.start = false
  result : s.units[own.unit].tripFlag = true ∧ u = s.confirmed k
    ∨ s.units[own.unit].tripFlag = false
      ∧ u = (s.confirmed k).putUnit own.unit (s.units[own.unit].starts own.start)

inductive Effect (c : Instr) (s : State) : State → Prop where
  | acts {t : State} (acts : Acts s t) : Effect c s t
  | setUp {t : State} (before : s.svp.station ≠ .run) (station : stationMoves c s.svp.station t.svp.station)
    (changes : Changes s t) : Effect c s t
  | reset (straps : StationNo) (cause : ResetCause) (armed : Bool) (isReset : c.isReset = true) :
    Effect c s (s.resetBy straps cause armed)
  | firm {u t : State} (k : SlotNo) (own : Claim) (command : c = .settleTimerExpiry k) (confirms : Confirms s u k own)
    (acts : Acts u t) : Effect c s t

theorem Effect.refl (c : Instr) (s : State) : Effect c s s := .acts .refl

/-! The station state under the moves. -/

theorem PlanMove.svp {s t : State} (h : PlanMove s t) : t.svp = s.svp := by
  cases h
  case expire => exact s.expireOnly_frame.2.2.2.1
  all_goals rfl

theorem PlantMove.station {s t : State} (h : PlantMove s t) : t.svp.station = s.svp.station := by
  cases h
  case port station list => exact station
  all_goals rfl

theorem RawAct.station {s t : State} (h : RawAct s t) : t.svp.station = s.svp.station := by
  cases h with
  | calm move =>
    cases move with
    | plan move => rw [move.svp]
    | plant move => exact move.station
  | view e order => simp
  | hold => simp
  | _ => rfl

theorem Raws.station {s t : State} (h : Raws s t) : t.svp.station = s.svp.station := by
  induction h with
  | refl => rfl
  | tail _ move ih => rw [move.station, ih]

theorem Act.station {s t : State} (h : Act s t) : t.svp.station = s.svp.station := by
  cases h with
  | calm move =>
    cases move with
    | plan move => rw [move.svp]
    | plant move => exact move.station
  | whole moves _ _ => exact Raws.station moves

theorem Acts.station {s t : State} (h : Acts s t) : t.svp.station = s.svp.station := by
  induction h with
  | refl => rfl
  | tail _ move ih => rw [move.station, ih]

/-! The port's moves. -/

section Port

variable (s : State)

/-- The service port's configuration and station state stay. -/
def Svp.keeps (p q : Svp) : Prop := q.station = p.station ∧ q.watchList = p.watchList

theorem Svp.keeps_refuse (p : Svp) : p.keeps p.refuse := ⟨rfl, rfl⟩

theorem Svp.keeps_dropped (p : Svp) : p.keeps p.dropped := by
  unfold Svp.dropped
  split <;> exact ⟨rfl, rfl⟩

theorem Svp.keeps_brokenCharacter (p : Svp) (count : Count) : p.keeps (p.brokenCharacter count) := by
  unfold Svp.brokenCharacter
  split <;> exact ⟨rfl, rfl⟩

theorem Svp.keeps_afterGap (p : Svp) : p.keeps p.afterGap := by
  unfold Svp.afterGap
  split <;> exact ⟨rfl, rfl⟩

theorem Svp.keeps.trans {p q r : Svp} (h : p.keeps q) (g : q.keeps r) : p.keeps r := ⟨g.1.trans h.1, g.2.trans h.2⟩

theorem State.putSvp_acts {x : Svp} (h : s.svp.keeps x) : Acts s (s.putSvp x) := PlantMove.acts (.port s x h.1 h.2)

theorem State.received_acts (code : Nat) (p : List Byte) : Acts s (s.received code p) := s.putSvp_acts ⟨rfl, rfl⟩

theorem State.putReply_acts (r : Reply) : Acts s (s.putReply r) := s.putSvp_acts ⟨rfl, rfl⟩

end Port

/-! Requests. -/

section Requests

variable {c : Instr}

theorem Effect.of_acts_before {s u t : State} (before : Acts s u)
    (h : Acts u t ∨ u.svp.station ≠ .run ∧ stationMoves c u.svp.station t.svp.station ∧ Changes u t) :
    Acts s t ∨ s.svp.station ≠ .run ∧ stationMoves c s.svp.station t.svp.station ∧ Changes s t := by
  rcases h with acts | ⟨outside, station, changes⟩
  · exact .inl (before.trans acts)
  · rw [Acts.station before] at outside station
    exact .inr ⟨outside, station, (Acts.changes before).trans changes⟩

/-- What a request's section does: the moves of `Act`, or outside RUN those of a set-up. -/
def Serves (c : Instr) (s t : State) : Prop :=
  Acts s t ∨ s.svp.station ≠ .run ∧ stationMoves c s.svp.station t.svp.station ∧ Changes s t

theorem Serves.refl (c : Instr) (s : State) : Serves c s s := .inl .refl

theorem Serves.effect {s t : State} (h : Serves c s t) : Effect c s t := by
  rcases h with acts | ⟨outside, station, changes⟩
  · exact .acts acts
  · exact .setUp outside station changes

theorem Serves.setUp {s t : State} (outside : s.svp.station ≠ .run) (move : SetUp s t)
    (station : t.svp.station = s.svp.station) : Serves c s t := .inr ⟨outside, .inl station, move.changes⟩

theorem State.arrive_effect {s : State} {code : Nat} {p : List Byte} {handle : State → Answer}
    (h : Serves c (s.received code p) (handle (s.received code p)).1) : Effect c s (s.arrive code p handle) := by
  unfold State.arrive
  split
  · exact Effect.refl c s
  split
  · exact .acts (s.putSvp_acts (.trans ⟨rfl, rfl⟩ (Svp.keeps_dropped _)))
  · rcases Effect.of_acts_before (s.received_acts code p) h with acts | ⟨outside, station, changes⟩
    · exact .acts (acts.trans (State.putReply_acts _ _))
    · exact .setUp outside station (changes.trans (Acts.changes (State.putReply_acts _ _)))

/-- A section runs only in a station state that admits its class (R199). -/
theorem State.serve_effect {s : State} {cls : RequestClass} {ok : Bool} {act : State → Answer}
    (h : s.svp.station ≠ .boot → cls.refusal? s.svp.station = none → Serves c s (act s).1) :
    Serves c s (State.serve cls ok act s).1 := by
  unfold State.serve
  split
  · exact Serves.refl c s
  · rename_i notBoot
    split
    · exact Serves.refl c s
    · split
      · exact Serves.refl c s
      · rename_i admitted
        exact h notBoot admitted

theorem State.run_of_admitted {s : State} (notBoot : s.svp.station ≠ .boot)
    (h : RequestClass.run.refusal? s.svp.station = none) : s.svp.station = .run := by
  cases state : s.svp.station <;> simp_all [RequestClass.refusal?]

theorem State.config_of_admitted {s : State} (notBoot : s.svp.station ≠ .boot)
    (h : RequestClass.configuration.refusal? s.svp.station = none) : s.svp.station = .config := by
  cases state : s.svp.station <;> simp_all [RequestClass.refusal?]

theorem State.ranged_serves {α : Type} {s : State} {fields : Option α} {act : α → Answer}
    (h : ∀ x, fields = some x → Serves c s (act x).1) : Serves c s (s.ranged fields act).1 := by
  cases fields with
  | none => exact Serves.refl c s
  | some x => exact h x rfl

/-- A request whose section only reads. -/
theorem State.read_effect {s : State} {code : Nat} {cls : RequestClass} {lengths : List Nat} {p : List Byte}
    {act : State → Answer} (h : ∀ s, (act s).1 = s) : Effect c s (s.request code cls lengths p act) :=
  State.arrive_effect (State.serve_effect fun _ _ => by rw [h]; exact Serves.refl c _)

/-- A run request. -/
theorem State.run_effect {s : State} {code : Nat} {lengths : List Nat} {p : List Byte}
    {act : State → Answer} (h : ∀ s : State, s.inRun = true → Serves c s (act s).1) :
    Effect c s (s.request code .run lengths p act) :=
  State.arrive_effect (State.serve_effect fun notBoot admitted => h _ (decide_eq_true (State.run_of_admitted notBoot admitted)))

/-- A configuration request. -/
theorem State.configuration_effect {s : State} {code : Nat} {lengths : List Nat} {p : List Byte}
    {act : State → Answer} (h : ∀ s : State, s.svp.station = .config → Serves c s (act s).1) :
    Effect c s (s.request code .configuration lengths p act) :=
  State.arrive_effect (State.serve_effect fun notBoot admitted => h _ (State.config_of_admitted notBoot admitted))

end Requests

/-! The reads. -/

theorem records_markRead (start n : Nat) (ring : List RingSet) :
    (markRead start n ring).map RingSet.record = ring.map RingSet.record := by
  have same : RingSet.record ∘ (fun r : RingSet => { r with unread := false }) = RingSet.record := rfl
  rw [markRead, List.map_append, List.map_append, List.map_map, same, ← List.map_append, ← List.map_append,
    ← List.drop_drop, List.append_assoc, List.take_append_drop, List.take_append_drop]

theorem State.readSamples_acts (s : State) (g : GroupNo) (t : BitVec 32) (n : Nat) : Acts s (s.readSamples g t n).1 := by
  unfold State.readSamples
  dsimp only
  split
  · exact .refl
  · exact PlantMove.acts (.group s g _ (Group.keeps_of_ring ⟨rfl, rfl⟩ .inl (records_markRead _ _ _) rfl))

theorem State.ranged_unchanged {α : Type} {s : State} {fields : Option α} {act : α → Answer} (h : ∀ x, (act x).1 = s) :
    (s.ranged fields act).1 = s := by
  cases fields with
  | none => rfl
  | some x => exact h x

theorem execReadWatch_effect {c : Instr} {s t : State} {p : List Byte} (h : execReadWatch p s = .next t) : Effect c s t := by
  injection h with h
  subst h
  refine State.read_effect fun s => ?_
  dsimp only
  split <;> rfl

theorem execReadSamples_effect {c : Instr} {s t : State} {p : List Byte} (h : execReadSamples p s = .next t) : Effect c s t := by
  injection h with h
  subst h
  refine State.arrive_effect (State.serve_effect fun _ _ => State.ranged_serves fun g _ => ?_)
  dsimp only
  split
  · exact .inl (State.readSamples_acts _ _ _ _)
  · exact Serves.refl c _

/-! The run requests. -/

section RunRequests

variable {s : State}

theorem State.openEarliest_takeSlot_acts (run : s.inRun = true) {k : SlotNo} {u : UnitNo} (earliest : Option LineTime)
    (free : s.slotState k = .free) (idle : s.units[u].state = .idle) (unserved : s.servingSlot? u = none) :
    Acts s (s.takeSlot k u earliest) := by
  unfold State.takeSlot
  exact .trans (PlanMove.acts (.occupy s k _ run free rfl idle unserved)) (Plans.acts (State.planSlot_plans _ k))

theorem State.startPump_acts (run : s.inRun = true) (u : UnitNo) (earliest : Option LineTime) :
    Acts s (s.startPump u earliest).1 := by
  unfold State.startPump
  split
  · exact .refl
  · rename_i k passes found
    have free : s.slotState k = .free := by simpa using List.find?_some found
    have idle : s.units[u].active = false ∧ s.servingSlot? u = none := by
      unfold State.startRefusal? at passes
      split at passes
      · cases passes
      split at passes
      · cases passes
      · rename_i calm
        simpa using calm
    exact State.openEarliest_takeSlot_acts run earliest free (by simpa [SwUnit.active] using idle.1) idle.2
  · exact .refl

theorem State.stopUnit_acts (s : State) (n : UnitNo) (time : Option LineTime) : Acts s (s.stopUnit n time).1 := by
  unfold State.stopUnit
  dsimp only
  split
  · exact .refl
  split
  · exact .refl
  · exact .refl
  · rename_i starting
    exact Plans.acts (s.writeStop_plans (.inl starting) _)
  · rename_i running
    exact Plans.acts (s.writeStop_plans (.inr running) _)

theorem State.stopPump_acts (s : State) (u : UnitNo) (time : Option LineTime) : Acts s (s.stopPump u time).1 := by
  unfold State.stopPump
  split
  · exact Plans.acts (s.abandon_plans _)
  · exact s.stopUnit_acts u time

theorem State.hostTrip_acts (s : State) (order : List Dependant) : Acts s (s.hostTrip order).1 := by
  unfold State.hostTrip
  exact s.tripCause_acts _ _ order

theorem State.resetTrip_acts (s : State) : Acts s s.resetTrip.1 := by
  unfold State.resetTrip
  split
  · exact .refl
  split
  · exact .refl
  · exact s.resetLatch_acts []

theorem State.ackScaling_acts (s : State) : Acts s s.ackScaling.1 := by
  unfold State.ackScaling
  split
  · exact .refl
  split
  · exact .refl
  · refine .trans ?_ (Calms.acts (State.queueScale_calms _ (fun sound => ?_) _))
    · exact PlantMove.acts (.watch s _ ⟨rfl, .inl, id, fun sound => ⟨sound.history, sound.latest, sound.held⟩⟩)
    · intro n index
      obtain ⟨e, latest, index⟩ := Option.bind_eq_some_iff.mp index
      exact sound.latest e latest n index

theorem State.captureBaseline_acts (s : State) : Acts s s.captureBaseline.1 := by
  unfold State.captureBaseline
  split
  · exact .refl
  split
  · exact .refl
  · exact PlantMove.acts (.watch s _ ⟨rfl, .inl, id, fun sound => ⟨sound.history, sound.latest, sound.held⟩⟩)

theorem State.clearHeat_acts (s : State) : Acts s s.clearHeat.1 :=
  PlantMove.acts (.meter s _ rfl (fun _ => Nat.pow_pos (by decide)) (fun _ => Nat.pow_pos (by decide)))

theorem State.clearFlag_acts (s : State) (c : Cause) : Acts s (s.clearFlag c) := by
  unfold State.clearFlag
  split
  · exact PlantMove.acts (.channel s _ _)
  · exact PlantMove.acts (.channel s _ _)
  · exact PlantMove.acts (.turbine s _)
  all_goals exact .refl

theorem State.clearAttention_acts (s : State) (kinds subjects : Nat) : Acts s (s.clearAttention kinds subjects).1 := by
  unfold State.clearAttention
  split
  · exact .refl
  · exact .trans (PlantMove.acts (.clear s _)) (reflTransGen_foldl _ (fun s (p : Pending) => s.clearFlag_acts p.cause) _ _)

end RunRequests

/-! The configuration requests and Start Station. -/

section Configure

variable {c : Instr}

theorem State.setStation_serves {s : State} (config : s.svp.station = .config) (x : StationConfig) :
    Serves c s (s.setStation x) := by
  have silence : Acts { s with config := x } (s.setStation x) :=
    reflTransGen_foldl _ (fun s n => by
      unfold State.silenceCheck
      split
      · exact s.fallSilent_acts n
      · exact .refl) _ _
  have station : (s.setStation x).svp.station = s.svp.station := by rw [Acts.station silence]
  exact .inr ⟨by simp [config], .inl station,
    (SetUp.changes (.station s x)).trans (Acts.changes silence)⟩

theorem State.addWindow_serves {s : State} (config : s.svp.station = .config) (w : FixedWindow) :
    Serves c s (s.addWindow w).1 := by
  unfold State.addWindow
  split
  · exact Serves.refl c s
  · rename_i passes
    exact Serves.setUp (by simp [config]) (.window s w passes) rfl

theorem State.clearWindows_serves {s : State} (config : s.svp.station = .config) : Serves c s s.clearWindows.1 :=
  Serves.setUp (by simp [config]) (.noWindows s) rfl

theorem State.enterGroup_acts {s : State} (run : s.inRun = true) (g : GroupNo) : Acts s (s.enterGroup g) := by
  unfold State.enterGroup
  split
  · exact .refl
  · exact PlantMove.acts (.group s g _ (Group.keeps_of_ring ⟨rfl, rfl⟩ (fun _ => .inr run) rfl rfl))

theorem State.enterCapture_acts {s : State} (run : s.inRun = true) (u : CaptureNo) : Acts s (s.enterCapture u) := by
  unfold State.enterCapture Capture.entered
  split
  · exact PlantMove.acts (.capture s u _)
  · exact PlantMove.acts (.capture s u _ (running := fun _ => .inr run))

/-- A fold of turns in RUN, each a chain of moves. -/
theorem acts_foldl_run {α : Type} (f : State → α → State) (turn : ∀ s : State, s.inRun = true → ∀ a, Acts s (f s a))
    (xs : List α) {s : State} (run : s.inRun = true) : Acts s (xs.foldl f s) := by
  induction xs generalizing s with
  | nil => exact .refl
  | cons x xs ih =>
    have moved := turn s run x
    exact moved.trans (ih (by simpa [State.inRun, Acts.station moved] using run))

theorem State.enterTurbine_changes (s : State) : Changes s s.enterTurbine :=
  .head (.setUp (.teeth s s.teethAtRun)) (Acts.changes (PlantMove.acts (.turbine _ _)))

theorem State.enterWatch_acts {s : State} (run : s.inRun = true) : Acts s s.enterWatch := by
  unfold State.enterWatch
  split
  · exact PlantMove.acts (.watch s _ ⟨rfl, fun _ => .inr run, id, fun sound => ⟨sound.history, sound.latest, sound.held⟩⟩)
  · exact .refl

theorem Acts.inRun {s t : State} (h : Acts s t) (run : s.inRun = true) : t.inRun = true := by
  rw [State.inRun, Acts.station h]
  exact run

/-- The entry to RUN up to its groups: timers, the TIME notice, MCLK. -/
def State.runBegun (s : State) : State := { (s.putTmu s.tmu.entered).queueNotice .time with awaitMclk := true }

theorem State.runBegun_acts (s : State) : Acts s s.runBegun :=
  .trans (.trans (PlantMove.acts (.time s _)) (PlantMove.acts (.queue _ .time fun _ => trivial))) (PlantMove.acts (.await _ true))

/-- The entry to RUN at the groups and the pulse inputs. -/
def State.setsOpened (s : State) : State :=
  (groupNumbers.foldl State.enterGroup s).putPulses (groupNumbers.foldl State.enterGroup s).pulses.entered

theorem State.setsOpened_acts {s : State} (run : s.inRun = true) : Acts s s.setsOpened :=
  .trans (acts_foldl_run State.enterGroup (fun _ run g => State.enterGroup_acts run g) groupNumbers run)
    (PlantMove.acts (.pulses _ _))

/-- The entry to RUN at the capture units. -/
def State.capturesEntered (s : State) : State := captureNumbers.foldl State.enterCapture s

theorem State.capturesEntered_acts {s : State} (run : s.inRun = true) : Acts s s.capturesEntered :=
  acts_foldl_run State.enterCapture (fun _ run u => State.enterCapture_acts run u) captureNumbers run

theorem State.enterRun_eq (s : State) :
    s.enterRun = (s.putSvp { s.svp with station := .run }).runBegun.setsOpened.capturesEntered.enterTurbine.enterWatch := rfl

theorem State.enterTurbine_inRun (s : State) : s.enterTurbine.inRun = s.inRun := rfl

theorem State.enterRun_changes {s : State} (config : s.svp.station = .config) :
    Changes s s.enterRun ∧ s.enterRun.svp.station = .run := by
  have started : Changes s (s.putSvp { s.svp with station := .run }) := SetUp.changes (.run s (by simp [config]))
  have run : (s.putSvp { s.svp with station := .run }).inRun = true := rfl
  rw [State.enterRun_eq]
  generalize s.putSvp { s.svp with station := .run } = t at started run
  have begun := t.runBegun_acts
  have opened := begun.trans (State.setsOpened_acts (Acts.inRun begun run))
  have entered := opened.trans (State.capturesEntered_acts (Acts.inRun opened run))
  generalize t.runBegun.setsOpened.capturesEntered = u at entered
  have running : u.enterTurbine.inRun = true := by
    rw [State.enterTurbine_inRun]
    exact Acts.inRun entered run
  have watched := State.enterWatch_acts running
  exact ⟨((started.trans (Acts.changes entered)).trans (State.enterTurbine_changes _)).trans (Acts.changes watched),
    of_decide_eq_true (Acts.inRun watched running)⟩

theorem State.startStation_serves {s : State} (config : s.svp.station = .config) (p : List Byte) :
    Serves (.startStation p) s s.startStation.1 := by
  unfold State.startStation
  split
  · exact Serves.refl _ s
  · obtain ⟨changes, station⟩ := State.enterRun_changes config
    exact .inr ⟨by simp [config], .inr (.inr ⟨p, rfl, config, station⟩), changes⟩

end Configure

/-! Time, and the timers. -/

section Timers

variable {s t : State}

theorem execBeacon_acts (h : execBeacon s = .next t) : Acts s t := by
  injection h with h
  subst h
  split
  · refine .trans ?_ (PlantMove.acts (.time _ _))
    exact .trans (PlantMove.acts (.queue s .time fun _ => trivial)) (Plans.acts (State.replan_plans _))
  · exact .refl

theorem execJoinTimerExpiry_acts (h : execJoinTimerExpiry s = .next t) : Acts s t := by
  injection h with h
  subst h
  exact reflTransGen_ite .refl fun _ => PlantMove.acts (.time s _)

theorem execPeerSilence_acts {n : StationNo} (h : execPeerSilence n s = .next t) : Acts s t := by
  injection h with h
  subst h
  exact reflTransGen_ite .refl fun _ => s.fallSilent_acts n

theorem execSilenceTimerStop_acts {n : StationNo} (h : execSilenceTimerStop n s = .next t) : Acts s t := by
  injection h with h
  subst h
  exact reflTransGen_ite .refl fun _ => PlantMove.acts (.timer s n .held s.peers[n].strayCount)

theorem execReferenceAgeing_acts {which : SpeedReference} (h : execReferenceAgeing which s = .next t) : Acts s t := by
  injection h with h
  subst h
  split
  · cases which <;> exact PlantMove.acts (.turbine s _)
  · exact .refl

theorem execStall_acts (h : execStall s = .next t) : Acts s t := by
  injection h with h
  subst h
  split
  · refine .trans (.trans ?_ (State.superviseSpeed_acts _ 0 [])) (Plans.acts (State.raise_plans _ _))
    exact PlantMove.acts (.turbine s _)
  · exact .refl

theorem execPollTimerExpiry_acts {u : CaptureNo} (h : execPollTimerExpiry u s = .next t) : Acts s t := by
  injection h with h
  subst h
  split
  · exact PlantMove.acts (.capture s u _)
  · exact .refl

theorem execIntervalBoundary_acts (h : execIntervalBoundary s = .next t) : Acts s t := by
  injection h with h
  subst h
  split
  · rename_i i _
    split
    · rename_i due
      exact s.closeAtBoundary_acts (Bool.and_eq_true_iff.mp due).1 i
    · exact .refl
  · exact .refl

theorem execSetBoundary_acts {g : GroupNo} (h : execSetBoundary g s = .next t) : Acts s t := by
  injection h with h
  subst h
  split
  · rename_i o opened
    split
    · exact Calms.acts (s.closeSet_calms g o _ _ (.inl (Option.ne_none_iff_exists'.mpr ⟨o, opened⟩)))
    · exact .refl
  · exact .refl

theorem execOwnStartReached_acts {k : SlotNo} (h : execOwnStartReached k s = .next t) : Acts s t := by
  injection h with h
  subst h
  split
  · rename_i due
    exact Plans.acts ((s.withdraw_plans (State.ownStartDue_unsettled (Bool.and_eq_true_iff.mp due).2)).trans
      (State.replan_plans _))
  · exact .refl

theorem execEntryExpiry_acts (h : execEntryExpiry s = .next t) : Acts s t := by
  injection h with h
  subst h
  exact reflTransGen_ite .refl fun _ => Plans.acts s.expire_plans

theorem execEdgeDue_acts {n : UnitNo} (h : execEdgeDue n s = .next t) : Acts s t := by
  injection h with h
  subst h
  exact reflTransGen_ite .refl fun _ =>
    Plans.acts (s.takeEdges_plans n _ _ (fun s _ mem => s.outputEdge_plans mem) _)

end Timers

/-! The channels and the pulse inputs. -/

section Inputs

variable {s t : State}

theorem execChannelStart_acts (h : execChannelStart s = .next t) : Acts s t := by
  injection h with h
  subst h
  split
  · rename_i due
    exact .trans (PlantMove.acts (.await s false)) (acts_foldl_run State.startChannel
      (fun s run c => Calms.acts (s.startChannel_calms run c)) channelNumbers (Bool.and_eq_true_iff.mp due).1)
  · exact .refl

theorem Channel.sampled_keeps (x : Channel) (bits : List Bool) :
    (x.sampled bits).config = x.config ∧ (x.sampled bits).running = x.running
      ∧ (x.sampled bits).guardHistory = x.guardHistory := ⟨rfl, rfl, rfl⟩

theorem execMainOutput_acts {c : ChannelNo} {bits : List Bool} (h : execMainOutput c bits s = .next t) : Acts s t := by
  injection h with h
  subst h
  split
  · exact .refl
  split
  · exact PlantMove.acts (.channel s c _)
  · exact .trans (PlantMove.acts (.channel s c _)) (Calms.acts (State.validMain_calms _ c _))

theorem execGuardOutput_acts {c : ChannelNo} {bits : List Bool} (h : execGuardOutput c bits s = .next t) : Acts s t := by
  injection h with h
  subst h
  split
  · exact .refl
  split
  · exact PlantMove.acts (.channel s c _)
  · exact .trans (PlantMove.acts (.channel s c _)) (Calms.acts (State.validGuard_calms _ c _))

theorem State.tellSample_acts (s : State) (sample : BitVec 8) : Acts s (s.tellSample sample) :=
  PlantMove.acts (.pulses s _)

theorem execSlaveEdge_acts {u : CaptureNo} {e : PulseEdge} (h : execSlaveEdge u e s = .next t) : Acts s t := by
  injection h with h
  subst h
  split
  · exact .refl
  split
  · exact ((s.tellSample_acts _).trans (PlantMove.acts (.pulses _ _))).trans (State.slaveEdgeAt_acts _ u _)
  · exact s.tellSample_acts _

theorem execMasterEdge_acts {u : CaptureNo} {e : PulseEdge} (h : execMasterEdge u e s = .next t) : Acts s t := by
  injection h with h
  subst h
  split
  · exact .refl
  split
  · exact ((s.tellSample_acts _).trans (PlantMove.acts (.pulses _ _))).trans (State.masterEdgeAt_acts _ u _)
  · exact s.tellSample_acts _

end Inputs

/-! The line. -/

section LineCommands

variable {s t : State}

/-- A line interface that only listens: its queue stays, and a notice in flight is read back. -/
theorem State.listens_acts {x : Lif} (queue : x.queue = s.lif.queue) {character : Option Byte}
    (flight : x.inFlight = s.flightAfter character) : Acts s (s.putLif x) :=
  PlantMove.acts (.line s x queue fun _ h => State.flightAfter_notice (flight ▸ h))

theorem State.waits_acts {x : Lif} (queue : x.queue = s.lif.queue) (flight : x.inFlight = s.lif.inFlight) :
    Acts s (s.putLif x) :=
  PlantMove.acts (.line s x queue fun f h => ⟨f, flight ▸ h, rfl⟩)

theorem execSyncTaken_acts {b : Byte} {e : LineTime} (h : execSyncTaken b e s = .next t) : Acts s t := by
  injection h with h
  subst h
  split
  · exact .refl
  split
  · exact State.listens_acts rfl rfl
  · refine State.listens_acts ?_ (character := some b) ?_ <;> split <;> rfl
  · exact State.listens_acts rfl rfl

theorem execCharacterError_acts {b : Bool} (h : execCharacterError b s = .next t) : Acts s t := by
  injection h with h
  subst h
  split
  · have dropped (l : Lif) : (if l.rx = .frame then l.dropTo .waitGap else l).queue = l.queue
        ∧ (if l.rx = .frame then l.dropTo .waitGap else l).inFlight = l.inFlight := by
      split <;> exact ⟨rfl, rfl⟩
    exact State.listens_acts (dropped _).1 (character := none) (dropped _).2
  · exact .refl

theorem execLongFrame_acts {b : Byte} (h : execLongFrame b s = .next t) : Acts s t := by
  injection h with h
  subst h
  exact reflTransGen_ite .refl fun _ => State.listens_acts rfl (character := some b) rfl

theorem execGap_acts (h : execGap s = .next t) : Acts s t := by
  injection h with h
  subst h
  split
  · dsimp only
    split <;> exact State.waits_acts rfl rfl
  · exact .refl

theorem execQuietMoment_acts (h : execQuietMoment s = .next t) : Acts s t := by
  injection h with h
  subst h
  exact reflTransGen_ite .refl fun _ => State.waits_acts rfl rfl

theorem execFrameReceived_acts {b : Byte} {order : List Dependant} (h : execFrameReceived b order s = .next t) : Acts s t := by
  injection h with h
  subst h
  split
  · refine .trans ?_ (State.frameComplete_acts _ _ _ _ _)
    exact State.listens_acts rfl (character := some b) rfl
  · exact .refl

theorem execNoticeStart_acts (h : execNoticeStart s = .next t) : Acts s t := by
  injection h with h
  subst h
  split
  · rename_i e rest queue
    split
    · rename_i may
      have run : s.inRun = true := (Bool.and_eq_true_iff.mp (Bool.and_eq_true_iff.mp may).1).1
      exact PlantMove.acts (.take s _ e _ run queue rfl rfl)
    · exact .refl
  · exact .refl

theorem execNoticeSentWhole_acts (h : execNoticeSentWhole s = .next t) : Acts s t := by
  injection h with h
  subst h
  split
  · split
    · refine .trans ?_ (Plans.acts (State.tellSent_plans _ _))
      refine .trans ?_ (PlantMove.acts (.own _ _ fun _ heat => heat))
      exact PlantMove.acts (.line s _ rfl nofun)
    · exact .refl
  · exact .refl

theorem execCollision_acts (h : execCollision s = .next t) : Acts s t := by
  injection h with h
  subst h
  split
  · rename_i f flight
    split
    · split
      · refine .trans ?_ (Calms.acts (State.jam_calms _ f.notice))
        exact PlantMove.acts (.line s _ rfl nofun)
      · rename_i few
        exact PlantMove.acts (.back s _ f flight (Nat.lt_of_not_le few) rfl rfl)
    · exact .refl
  · exact .refl

end LineCommands

/-! The service port. -/

section PortCommands

variable {s t : State}

theorem execRequestSyncTaken_acts (h : execRequestSyncTaken s = .next t) : Acts s t := by
  injection h with h
  subst h
  split
  · exact s.putSvp_acts (.trans ⟨rfl, rfl⟩ (Svp.keeps_dropped _))
  split
  · exact s.putSvp_acts ⟨rfl, rfl⟩
  · exact .refl

theorem execRequestTooLong_acts {b : Byte} (h : execRequestTooLong b s = .next t) : Acts s t := by
  injection h with h
  subst h
  split
  · exact .refl
  split
  · exact s.putSvp_acts ⟨rfl, rfl⟩
  · exact s.putSvp_acts (.trans ⟨rfl, rfl⟩ (Svp.keeps_dropped _))

theorem execServiceCharacterError_acts {b : Bool} (h : execServiceCharacterError b s = .next t) : Acts s t := by
  injection h with h
  subst h
  have taken : s.svp.keeps (if b then s.svp.brokenCharacter s.count else s.svp.character s.count) := by
    split
    · exact s.svp.keeps_brokenCharacter _
    · exact ⟨rfl, rfl⟩
  refine s.putSvp_acts (taken.trans ?_)
  generalize (if b then s.svp.brokenCharacter s.count else s.svp.character s.count) = p
  split
  · exact p.keeps_dropped
  split
  · exact ⟨rfl, rfl⟩
  · exact p.keeps_refuse

theorem execServiceGap_acts (h : execServiceGap s = .next t) : Acts s t := by
  injection h with h
  subst h
  exact reflTransGen_ite .refl fun _ => s.putSvp_acts (.trans ⟨rfl, rfl⟩ (Svp.keeps_afterGap _))

theorem execStartBitWhileReplying_acts (h : execStartBitWhileReplying s = .next t) : Acts s t := by
  injection h with h
  subst h
  exact reflTransGen_ite .refl fun _ => s.putSvp_acts (.trans ⟨rfl, rfl⟩ (Svp.keeps_dropped _))

theorem execReplyComplete_acts (h : execReplyComplete s = .next t) : Acts s t := by
  injection h with h
  subst h
  exact reflTransGen_ite .refl fun _ => s.putSvp_acts ⟨rfl, rfl⟩

end PortCommands

/-! Resets, the boot check, the settle end. -/

section Whole

variable {s t : State}

theorem execServiceBreak_effect {straps : StationNo} {seenHigh : Bool} (h : execServiceBreak straps seenHigh s = .next t) :
    Effect (.serviceBreak straps seenHigh) s t := by
  injection h with h
  subst h
  split
  · exact .reset straps .serviceBreak false rfl
  · exact Effect.refl _ s

theorem execBootCheckEnd_effect {passed high : Bool} (h : execBootCheckEnd passed high s = .next t) :
    Effect (.bootCheckEnd passed high) s t := by
  injection h with h
  subst h
  split
  · exact Effect.refl _ s
  · rename_i due
    have boot : s.svp.station = .boot := by
      have bootIsDue : s.bootIsDue = true := by simpa using due
      exact of_decide_eq_true (Bool.and_eq_true_iff.mp bootIsDue).1
    have outside : s.svp.station ≠ .run := by simp [boot]
    have drawn : Changes s { s with freeNext := s.freeNext + 1 } := Acts.changes (PlanMove.acts (.draw s))
    split
    · rename_i passes
      exact .setUp outside (.inr (.inl ⟨passed, high, rfl, boot, by rw [if_pos passes]; rfl⟩))
        ((drawn.tail (.setUp (.boot _ .config .passed nofun outside))).trans (Acts.changes (State.waits_acts rfl rfl)))
    · rename_i fails
      exact .setUp outside (.inr (.inl ⟨passed, high, rfl, boot, by rw [if_neg fails]; rfl⟩))
        ((drawn.tail (.setUp (.boot _ .fault .failed nofun outside))).trans
          (Acts.changes (Plans.acts (State.raise_plans _ _))))

theorem State.handOver_of_flag {s : State} {n : UnitNo} (start : LineTime) (h : s.units[n].tripFlag = true) :
    s.handOver n start = s.report n .stopped := by
  simp only [State.handOver, h, if_true]

theorem State.handOver_of_clear {s : State} {n : UnitNo} (start : LineTime) (h : s.units[n].tripFlag = false) :
    s.handOver n start = (s.putUnit n (s.units[n].starts start)).takeReached n := by
  unfold State.handOver
  exact if_neg (Bool.eq_false_iff.mp h)

theorem State.makeFirm_eq (s : State) (k : SlotNo) (own : Claim) :
    s.makeFirm k own = ((s.confirmed k).queueNotice (.claim k own.unit own.start own.length true)).handOver
      own.unit own.start := rfl

theorem State.settleEnd_effect {k : SlotNo} (due : s.settleDue k = true) : Effect (.settleTimerExpiry k) s (s.settleEnd k) := by
  have unsettled : (s.slotState k).unsettled = true := by
    unfold State.settleDue at due
    split at due
    · rename_i state
      rw [state]
      rfl
    all_goals cases due
  unfold State.settleEnd
  split
  · exact Effect.refl _ s
  rename_i own entry
  split
  · exact .acts (Plans.acts ((s.holdBack_plans unsettled _).trans (State.replan_plans _)))
  rename_i tripHold
  split
  · exact .acts (Plans.acts ((s.holdBack_plans unsettled _).trans (State.replan_plans _)))
  rename_i scalingHold
  split
  · exact .acts (Plans.acts ((s.withdraw_plans unsettled).trans (State.replan_plans _)))
  rename_i against
  obtain ⟨entries, windows⟩ := Bool.or_eq_false_iff.mp (Bool.eq_false_iff.mpr against)
  have confirms {u : State} := Confirms.mk (u := u) due entry (Bool.eq_false_iff.mpr tripHold)
    (Bool.eq_false_iff.mpr scalingHold) entries windows
  have queued (u : State) : Acts u (u.queueNotice (.claim k own.unit own.start own.length true)) :=
    PlanMove.acts (.queue u _ (.inl rfl))
  cases flag : s.units[own.unit].tripFlag with
  | true =>
    refine .firm k own rfl (confirms (.inl ⟨flag, rfl⟩)) ((queued _).trans ?_)
    rw [State.makeFirm_eq, State.handOver_of_flag (s := (s.confirmed k).queueNotice _) _ flag]
    exact Plans.acts (State.report_plans _ _ _)
  | false =>
    refine .firm k own rfl (confirms (.inr ⟨flag, rfl⟩)) ((queued _).trans ?_)
    rw [State.makeFirm_eq, State.handOver_of_clear (s := (s.confirmed k).queueNotice _) _ flag]
    exact Plans.acts (State.takeReached_plans _ _)

theorem execSettleTimerExpiry_effect {k : SlotNo} (h : execSettleTimerExpiry k s = .next t) :
    Effect (.settleTimerExpiry k) s t := by
  injection h with h
  subst h
  split
  · rename_i due
    exact State.settleEnd_effect due
  · exact Effect.refl _ s

end Whole

/-! Every command. -/

section Every

variable {s t : State}

/-- A named request (R197). -/
theorem exec_effect_of_request {c : Instr} {k : RequestKind} {p : List Byte} (named : requestOf c = some (k, p))
    (h : exec c s = .next t) : Effect c s t := by
  have set {u v : State} (config : u.svp.station = .config) (move : SetUp u v) (station : v.svp.station = u.svp.station) :
      Serves c u v := Serves.setUp (by simp [config]) move station
  match c, named with
  | .readSamples p, rfl => exact execReadSamples_effect h
  | .readWatch p, rfl => exact execReadWatch_effect h
  | .readStatus _, rfl | .readTime _, rfl | .readTurbine _, rfl | .readHeat _, rfl | .readScaling _, rfl
  | .readWindows _, rfl =>
    injection h with h
    subst h
    exact State.read_effect fun _ => rfl
  | .readPeer _, rfl | .readChannel _, rfl | .readCapture _, rfl | .readUnit _, rfl =>
    injection h with h
    subst h
    exact State.read_effect fun _ => State.ranged_unchanged fun _ => rfl
  | .startPump p, rfl =>
    injection h with h
    subst h
    exact State.run_effect fun s run => State.ranged_serves fun u _ => .inl (State.startPump_acts run u _)
  | .stopPump p, rfl =>
    injection h with h
    subst h
    exact State.run_effect fun s _ => State.ranged_serves fun u _ => .inl (s.stopPump_acts u _)
  | .trip _ order, rfl =>
    injection h with h
    subst h
    exact State.run_effect fun s _ => .inl (s.hostTrip_acts order)
  | .resetTrip _, rfl =>
    injection h with h
    subst h
    exact State.run_effect fun s _ => .inl s.resetTrip_acts
  | .ackScaling _, rfl =>
    injection h with h
    subst h
    exact State.run_effect fun s _ => .inl s.ackScaling_acts
  | .captureBaseline _, rfl =>
    injection h with h
    subst h
    exact State.run_effect fun s _ => .inl s.captureBaseline_acts
  | .clearHeat _, rfl =>
    injection h with h
    subst h
    exact State.run_effect fun s _ => .inl s.clearHeat_acts
  | .clearAttention _, rfl =>
    injection h with h
    subst h
    exact State.arrive_effect (State.serve_effect fun _ _ => .inl (State.clearAttention_acts _ _ _))
  | .setStation p, rfl =>
    injection h with h
    subst h
    exact State.configuration_effect fun s config => State.ranged_serves fun x _ => State.setStation_serves config x
  | .setChannel p, rfl =>
    injection h with h
    subst h
    exact State.configuration_effect fun s config => State.ranged_serves fun x _ => set config (.channel s x.1 x.2) rfl
  | .setGroup p, rfl =>
    injection h with h
    subst h
    exact State.configuration_effect fun s config =>
      State.ranged_serves fun x _ => set config (.group s x.1 x.2.1 x.2.2) rfl
  | .setCapture p, rfl =>
    injection h with h
    subst h
    refine State.configuration_effect fun s config => State.ranged_serves fun x _ => ?_
    dsimp only
    split
    · exact Serves.refl _ s
    · exact set config (.capture s x.1 x.2) rfl
  | .setTurbine p, rfl =>
    injection h with h
    subst h
    exact State.configuration_effect fun s config => State.ranged_serves fun x _ => set config (.turbine s x) rfl
  | .setHeat p, rfl =>
    injection h with h
    subst h
    exact State.configuration_effect fun s config => State.ranged_serves fun x _ => set config (.heat s x) rfl
  | .setScaling p, rfl =>
    injection h with h
    subst h
    exact State.configuration_effect fun s config => State.ranged_serves fun x _ => set config (.scaling s x) rfl
  | .setWindow p, rfl =>
    injection h with h
    subst h
    refine State.configuration_effect fun s config => ?_
    split
    · exact State.clearWindows_serves config
    · exact State.addWindow_serves config _
  | .setWindowClear, rfl =>
    injection h with h
    subst h
    exact State.configuration_effect fun s config => State.clearWindows_serves config
  | .setUnit p, rfl =>
    injection h with h
    subst h
    exact State.configuration_effect fun s config => State.ranged_serves fun x _ => set config (.unit s x.1 x.2) rfl
  | .setEdge p, rfl =>
    injection h with h
    subst h
    refine State.configuration_effect fun s config => State.ranged_serves fun x _ => ?_
    dsimp only
    split
    · exact Serves.refl _ s
    · exact set config (.edge s x.1 x.2.1 x.2.2 (by simp [config])) rfl
  | .setWatchList p, rfl =>
    injection h with h
    subst h
    exact State.configuration_effect fun s config => State.ranged_serves fun x _ => set config (.list s x) rfl
  | .startStation p, rfl =>
    injection h with h
    subst h
    exact State.configuration_effect fun s config => State.startStation_serves config p

/-- A request whose check byte differs, or whose code names none, only has its refusal (R197). -/
theorem execRefused_effect {c : Instr} {done : Bool} {code : Nat} {p : List Byte} {status : State → Status}
    (h : (if done then s else s.arrive code p fun s => s.refuse (status s)) = t) : Effect c s t := by
  subst h
  split
  · exact Effect.refl c s
  · exact State.arrive_effect (Serves.refl c _)

/-- Every command is a reset, a chain of moves, outside RUN a set-up, or the settle end that makes a claim FIRM. -/
theorem exec_effect (c : Instr) (h : exec c s = .next t) : Effect c s t := by
  match c with
  | .powerOn straps high =>
    injection h with h
    subst h
    exact .reset straps .powerOn high rfl
  | .resetPin straps high inProgress =>
    injection h with h
    subst h
    exact .reset straps _ high rfl
  | .serviceBreak .. => exact execServiceBreak_effect h
  | .bootCheckEnd .. => exact execBootCheckEnd_effect h
  | .settleTimerExpiry _ => exact execSettleTimerExpiry_effect h
  | .syncTaken .. => exact .acts (execSyncTaken_acts h)
  | .characterError _ => exact .acts (execCharacterError_acts h)
  | .longFrame _ => exact .acts (execLongFrame_acts h)
  | .gap => exact .acts (execGap_acts h)
  | .quietMoment => exact .acts (execQuietMoment_acts h)
  | .frameReceived .. => exact .acts (execFrameReceived_acts h)
  | .noticeStart => exact .acts (execNoticeStart_acts h)
  | .collision => exact .acts (execCollision_acts h)
  | .noticeSentWhole => exact .acts (execNoticeSentWhole_acts h)
  | .peerSilence _ => exact .acts (execPeerSilence_acts h)
  | .silenceTimerStop _ => exact .acts (execSilenceTimerStop_acts h)
  | .beacon => exact .acts (execBeacon_acts h)
  | .joinTimerExpiry => exact .acts (execJoinTimerExpiry_acts h)
  | .channelStart => exact .acts (execChannelStart_acts h)
  | .mainOutput .. => exact .acts (execMainOutput_acts h)
  | .guardOutput .. => exact .acts (execGuardOutput_acts h)
  | .setBoundary _ => exact .acts (execSetBoundary_acts h)
  | .slaveEdge .. => exact .acts (execSlaveEdge_acts h)
  | .masterEdge .. => exact .acts (execMasterEdge_acts h)
  | .pollTimerExpiry _ => exact .acts (execPollTimerExpiry_acts h)
  | .referenceAgeing _ => exact .acts (execReferenceAgeing_acts h)
  | .stall => exact .acts (execStall_acts h)
  | .intervalBoundary => exact .acts (execIntervalBoundary_acts h)
  | .ownStartReached _ => exact .acts (execOwnStartReached_acts h)
  | .entryExpiry => exact .acts (execEntryExpiry_acts h)
  | .edgeDue _ => exact .acts (execEdgeDue_acts h)
  | .requestSyncTaken => exact .acts (execRequestSyncTaken_acts h)
  | .requestTooLong _ => exact .acts (execRequestTooLong_acts h)
  | .serviceCharacterError _ => exact .acts (execServiceCharacterError_acts h)
  | .serviceGap => exact .acts (execServiceGap_acts h)
  | .startBitWhileReplying => exact .acts (execStartBitWhileReplying_acts h)
  | .replyComplete => exact .acts (execReplyComplete_acts h)
  | .unknownRequest .. =>
    injection h with h
    exact execRefused_effect (status := fun s => if s.svp.station = .boot then .notReady else .unknownRequest) h
  | .requestBadCheck code p check =>
    injection h with h
    exact execRefused_effect (done := decide (checkByte (requestBytes code.toNat p) = check)) (code := code.toNat) (p := p)
      (status := fun _ => .badCheck) (by simpa using h)
  | .readStatus _ | .readPeer _ | .readTime _ | .readSamples _ | .readChannel _ | .readCapture _ | .readTurbine _
  | .readHeat _ | .readScaling _ | .readWindows _ | .readUnit _ | .readWatch _ | .startPump _ | .stopPump _
  | .trip .. | .resetTrip _ | .ackScaling _ | .captureBaseline _ | .clearHeat _ | .clearAttention _ | .setStation _
  | .setChannel _ | .setGroup _ | .setCapture _ | .setTurbine _ | .setHeat _ | .setScaling _ | .setWindow _
  | .setWindowClear | .setUnit _ | .setEdge _ | .setWatchList _ | .startStation _ => exact exec_effect_of_request rfl h

end Every

end Sys2Proof.Machine
end

section
/-! SUPPORT and PROOFS. What every move keeps, and with it what every step keeps: the station state and the sealed
configuration, rest outside RUN, the attention set, the transmit queue, and the bounds. -/

namespace Sys2Proof.Machine

/-! A step as moves. -/

theorem State.tick_acts (s : State) : Acts s s.tick := by
  unfold State.tick
  split
  · have advanced : Acts s s.advance := by
      unfold State.advance
      refine .trans ?_ (PlantMove.acts (.pulses _ _))
      refine .trans ?_ (PlantMove.acts (.port _ _))
      exact .trans (PlantMove.acts (.time s _)) (State.waits_acts rfl rfl)
    exact advanced.trans (PlantMove.acts (.pending _ _))
  · exact PlantMove.acts (.pending s _)

theorem step_effect {s t : State} (h : step s = .next t) : ∃ c u, Acts s u ∧ Effect c u t := by
  unfold step at h
  split at h
  · rename_i c rest _
    exact ⟨c, _, PlantMove.acts (.pending s rest), exec_effect c h⟩
  · injection h with h
    subst h
    exact ⟨.gap, _, s.tick_acts, Effect.refl _ _⟩

/-! Properties that every move keeps. -/

structure KeptByMoves (P : State → Prop) : Prop where
  act : ∀ s t, Act s t → P s → P t
  setUp : ∀ s t, SetUp s t → P s → P t
  reset : ∀ straps cause armed pending freeNext, P (State.afterReset straps cause armed pending freeNext)
  firm : ∀ s u k own, Confirms s u k own → P s → P u

section Kept

variable {P : State → Prop}

theorem KeptByMoves.effect (kept : KeptByMoves P) {c : Instr} {s t : State} (h : P s) (effect : Effect c s t) : P t := by
  cases effect with
  | acts acts => exact keeps_of_moves kept.act acts h
  | setUp _ _ changes =>
    refine keeps_of_moves (fun u v change => ?_) changes h
    cases change with
    | act act => exact kept.act u v act
    | setUp setUp => exact kept.setUp u v setUp
  | reset straps cause armed _ => exact kept.reset ..
  | firm k own _ confirms acts => exact keeps_of_moves kept.act acts (kept.firm _ _ k own confirms h)

theorem KeptByMoves.step (kept : KeptByMoves P) {s t : State} (h : P s) (run : step s = .next t) : P t := by
  obtain ⟨c, u, acts, effect⟩ := step_effect run
  exact kept.effect (keeps_of_moves kept.act acts h) effect

/-- The evaluations of the trip view and of the scaling hold are chains of moves themselves. -/
theorem raw_keeps (trip : ∀ s t, TripMove s t → P s → P t)
    (row : ∀ (s : State) (n : StationNo) (x : PeerRow), (s.peers[n].indicesSound → x.indicesSound) → P s → P (s.putPeer n x))
    (latch : ∀ (s : State) (x : Tsv), x.config = s.tsv.config → x.effectiveTeeth = s.tsv.effectiveTeeth → P s → P (s.putTsv x))
    (watch : ∀ (s : State) (x : Scw), s.scw.keeps x s.inRun → P s → P (s.putScw x))
    (hold : ∀ (s : State) (on : Bool), P s → P (s.putSpl { s.spl with scalingHold := on }))
    (s t : State) (move : RawAct s t) (h : P s) : P t := by
  cases move with
  | calm move => exact trip s t (.calm move) h
  | row n x sound => exact row s n x sound h
  | latch x config teeth _ => exact latch s x config teeth h
  | watch x keeps => exact watch s x keeps h
  | view e order => exact keeps_of_moves trip (s.evaluateView_trips e order) h
  | hold =>
    refine keeps_of_moves (fun u v move => ?_) s.evaluateScalingHold_holds h
    cases move with
    | plan move => exact trip u v (.calm (.plan move))
    | hold on => exact hold u on

theorem act_keeps_of_raw (raw : ∀ s t, RawAct s t → P s → P t) (s t : State) (move : Act s t) (h : P s) : P t := by
  cases move with
  | calm move => exact raw s t (.calm move) h
  | whole moves _ _ => exact keeps_of_moves raw moves h

theorem act_keeps (trip : ∀ s t, TripMove s t → P s → P t)
    (row : ∀ (s : State) (n : StationNo) (x : PeerRow), (s.peers[n].indicesSound → x.indicesSound) → P s → P (s.putPeer n x))
    (latch : ∀ (s : State) (x : Tsv), x.config = s.tsv.config → x.effectiveTeeth = s.tsv.effectiveTeeth → P s → P (s.putTsv x))
    (watch : ∀ (s : State) (x : Scw), s.scw.keeps x s.inRun → P s → P (s.putScw x))
    (hold : ∀ (s : State) (on : Bool), P s → P (s.putSpl { s.spl with scalingHold := on }))
    (s t : State) (move : Act s t) (h : P s) : P t :=
  act_keeps_of_raw (raw_keeps trip row latch watch hold) s t move h

end Kept

end Sys2Proof.Machine
end

section
/-! SUPPORT and PROOFS. The edge queue's operations on a unit, and the laws about the station state, the configuration and
the FIRM state of a slot. -/

namespace Sys2Proof.Machine

/-! The edge queue (R174, R178). -/

/-- An entry without its sequence number. -/
def Edge.image (e : Edge) : OutputNo × Bool × LineTime × Origin × BitVec 16 := (e.output, e.high, e.due, e.origin, e.startNumber)

theorem insertEdge_perm (e : Edge) (q : List Edge) : (insertEdge e q).Perm (e :: q) := by
  induction q with
  | nil => exact .refl _
  | cons d ds ih =>
    rw [insertEdge]
    split
    · exact .refl _
    · exact (ih.cons d).trans (.swap e d ds)

/-- What the writing and the taking of entries leave of a unit. -/
structure SwUnit.sameBase (u v : SwUnit) : Prop where
  config : v.config = u.config
  defs : v.defs = u.defs
  startNumber : v.startNumber = u.startNumber
  tripFlag : v.tripFlag = u.tripFlag
  lateCount : v.lateCount = u.lateCount
  lastLate : v.lastLate = u.lastLate
  lastOnset : v.lastOnset = u.lastOnset

/-- What the writing of entries leaves of a unit. -/
structure SwUnit.sameButWritten (u v : SwUnit) : Prop extends u.sameBase v where
  state : v.state = u.state
  outputCount : v.outputCount = u.outputCount
  discarded : v.discarded = u.discarded
  edgeMark : v.edgeMark = u.edgeMark

theorem SwUnit.sameButWritten.refl (u : SwUnit) : u.sameButWritten u := ⟨⟨rfl, rfl, rfl, rfl, rfl, rfl, rfl⟩, rfl, rfl, rfl, rfl⟩

theorem SwUnit.sameButWritten.trans {u v w : SwUnit} (h : u.sameButWritten v) (g : v.sameButWritten w) : u.sameButWritten w :=
  ⟨⟨g.config.trans h.config, g.defs.trans h.defs, g.startNumber.trans h.startNumber, g.tripFlag.trans h.tripFlag,
    g.lateCount.trans h.lateCount, g.lastLate.trans h.lastLate, g.lastOnset.trans h.lastOnset⟩, g.state.trans h.state,
    g.outputCount.trans h.outputCount, g.discarded.trans h.discarded, g.edgeMark.trans h.edgeMark⟩

/-- What a unit's entries of some definitions look like, each with its due time. -/
def SwUnit.images (u : SwUnit) (origin : Origin) (due : DefNo → LineTime) (ds : List DefNo) :
    List (OutputNo × Bool × LineTime × Origin × BitVec 16) :=
  ds.map fun d => (u.defs[d].output, u.defs[d].high, due d, origin, u.startNumber)

/-- A unit after it has written entries of some definitions between u and v. -/
structure SwUnit.writes (u v : SwUnit) (origin : Origin) (due : DefNo → LineTime) (ds : List DefNo) : Prop where
  same : u.sameButWritten v
  written : v.written = u.written + BitVec.ofNat 16 ds.length
  queue : (v.queue.map Edge.image).Perm (u.images origin due ds ++ u.queue.map Edge.image)

theorem SwUnit.cumulativeOffset_congr {u v : SwUnit} (h : v.defs = u.defs) (d : DefNo) :
    v.cumulativeOffset d = u.cumulativeOffset d := by
  rw [SwUnit.cumulativeOffset, SwUnit.cumulativeOffset, h]

/-- The entry that a unit writes of a definition (R174, R178). -/
def SwUnit.entry (u : SwUnit) (origin : Origin) (due : LineTime) (d : DefNo) : Edge :=
  ⟨u.written, u.defs[d].output, u.defs[d].high, due, origin, u.startNumber⟩

/-- A fold of writings, whose due times depend on the definitions alone. -/
theorem SwUnit.foldl_writes (origin : Origin) (due : SwUnit → DefNo → LineTime)
    (stable : ∀ u v d, v.defs = u.defs → due v d = due u d) (ds : List DefNo) (u : SwUnit) :
    u.writes (ds.foldl (fun u d => u.writeEdge origin (due u d) d) u) origin (due u) ds := by
  induction ds generalizing u with
  | nil => exact ⟨SwUnit.sameButWritten.refl u, by simp, by simp [SwUnit.images]⟩
  | cons d ds ih =>
    have first : u.sameButWritten (u.writeEdge origin (due u d) d) :=
      ⟨⟨rfl, rfl, rfl, rfl, rfl, rfl, rfl⟩, rfl, rfl, rfl, rfl⟩
    have rest := ih (u.writeEdge origin (due u d) d)
    refine ⟨first.trans rest.same, ?_, ?_⟩
    · rw [List.foldl_cons, rest.written, List.length_cons, Nat.add_comm, BitVec.ofNat_add, ← BitVec.add_assoc]
      rfl
    · have same : (u.writeEdge origin (due u d) d).images origin (due (u.writeEdge origin (due u d) d)) ds
          = u.images origin (due u) ds := List.map_congr_left fun e _ => by
        rw [stable u _ e first.defs]
        rfl
      have queue := rest.queue
      rw [same] at queue
      refine queue.trans ?_
      have inserted := (insertEdge_perm (u.entry origin (due u d) d) u.queue).map Edge.image
      exact ((List.Perm.refl _).append inserted).trans List.perm_middle

theorem SwUnit.writes_writeEdges (u : SwUnit) (origin : Origin) (time : LineTime) :
    u.writes (u.writeEdges origin time) origin (fun d => time + BitVec.ofNat 32 (u.cumulativeOffset d)) (u.defsOf origin) :=
  SwUnit.foldl_writes origin (fun u d => time + BitVec.ofNat 32 (u.cumulativeOffset d))
    (fun u v d h => by rw [SwUnit.cumulativeOffset_congr h]) _ u

theorem SwUnit.writes_writeAbort (u : SwUnit) (now : LineTime) :
    u.writes (u.writeAbort now) .stop (fun _ => now) (u.defsOf .stop) :=
  SwUnit.foldl_writes .stop (fun _ _ => now) (fun _ _ _ _ => rfl) _ u

theorem SwUnit.writes.length {u v : SwUnit} {origin : Origin} {due : DefNo → LineTime} {ds : List DefNo}
    (h : u.writes v origin due ds) : v.queue.length = ds.length + u.queue.length := by
  simpa [SwUnit.images] using h.queue.length_eq

/-- Every entry is an old one, or one written with that origin for the present start. -/
theorem SwUnit.writes.mem {u v : SwUnit} {origin : Origin} {due : DefNo → LineTime} {ds : List DefNo}
    (h : u.writes v origin due ds) {e : Edge} (mem : e ∈ v.queue) :
    (∃ d ∈ u.queue, d.origin = e.origin ∧ d.startNumber = e.startNumber)
      ∨ e.origin = origin ∧ e.startNumber = u.startNumber := by
  have image := h.queue.mem_iff.mp (List.mem_map_of_mem mem)
  rcases List.mem_append.mp image with written | old
  · obtain ⟨d, -, eq⟩ := List.mem_map.mp written
    have parts := Prod.mk.inj (Prod.mk.inj (Prod.mk.inj (Prod.mk.inj eq).2).2).2
    exact .inr ⟨parts.1.symm, parts.2.symm⟩
  · obtain ⟨d, mem, eq⟩ := List.mem_map.mp old
    have parts := Prod.mk.inj (Prod.mk.inj (Prod.mk.inj (Prod.mk.inj eq).2).2).2
    exact .inl ⟨d, mem, parts.1, parts.2⟩

theorem SwUnit.sameBase_discardWhere (u : SwUnit) (test : Edge → Bool) : u.sameBase (u.discardWhere test) :=
  ⟨rfl, rfl, rfl, rfl, rfl, rfl, rfl⟩

theorem SwUnit.sameBase.trans {u v w : SwUnit} (h : u.sameBase v) (g : v.sameBase w) : u.sameBase w :=
  ⟨g.config.trans h.config, g.defs.trans h.defs, g.startNumber.trans h.startNumber, g.tripFlag.trans h.tripFlag,
    g.lateCount.trans h.lateCount, g.lastLate.trans h.lastLate, g.lastOnset.trans h.lastOnset⟩

theorem SwUnit.sameBase.withState {u v : SwUnit} (h : u.sameBase v) (x : UnitState) : u.sameBase { v with state := x } :=
  ⟨h.config, h.defs, h.startNumber, h.tripFlag, h.lateCount, h.lastLate, h.lastOnset⟩

theorem SwUnit.sameBase_afterOutput (u : SwUnit) (e : Edge) : u.sameBase (u.afterOutput e) :=
  ⟨rfl, rfl, rfl, rfl, rfl, rfl, rfl⟩

theorem SwUnit.sameBase_stopped (u : SwUnit) (time : LineTime) : u.sameBase (u.stopped time) :=
  ((u.sameBase_discardWhere _).trans (SwUnit.writes_writeEdges _ .stop time).same.tosameBase).withState _

theorem SwUnit.sameBase_abort (u : SwUnit) (e : Edge) (now : LineTime) :
    u.sameBase { (u.withoutStart e).writeAbort now with state := .stopping } :=
  ((u.sameBase_discardWhere _).trans (SwUnit.writes_writeAbort _ now).same.tosameBase).withState _

theorem SwUnit.sameBase_miss (u : SwUnit) (e : Edge) : u.sameBase { u.withoutStart e with state := .idle } :=
  (u.sameBase_discardWhere _).withState _

/-! The configuration of the units. -/

/-- Every unit keeps its parameters and definitions. -/
def State.unitsConfigured (s t : State) : Prop := ∀ n : UnitNo, t.units[n].config = s.units[n].config ∧ t.units[n].defs = s.units[n].defs

theorem State.unitsConfigured_of_eq {s t : State} (h : t.units = s.units) : s.unitsConfigured t := fun n => by
  rw [h]
  exact ⟨rfl, rfl⟩

theorem State.unitsConfigured_putUnit {s : State} {n : UnitNo} {x : SwUnit} (config : x.config = s.units[n].config)
    (defs : x.defs = s.units[n].defs) : s.unitsConfigured (s.putUnit n x) := fun m => by
  rw [State.putUnit_get]
  split
  · rename_i same
    subst same
    exact ⟨config, defs⟩
  · exact ⟨rfl, rfl⟩

theorem SwUnit.sameBase.configured {s : State} {n : UnitNo} {x : SwUnit} (h : s.units[n].sameBase x) :
    s.unitsConfigured (s.putUnit n x) := State.unitsConfigured_putUnit h.config h.defs

theorem PlanMove.unitsConfigured {s t : State} (h : PlanMove s t) : s.unitsConfigured t := by
  cases h with
  | output n e _ => exact State.unitsConfigured_putUnit (s := s.putOutput e.output e.high) rfl rfl
  | late n count late => exact State.unitsConfigured_putUnit rfl rfl
  | abort n e _ _ => exact (s.units[n].sameBase_abort e s.now).configured
  | miss n e _ _ => exact (s.units[n].sameBase_miss e).configured
  | stop n time _ => exact (s.units[n].sameBase_stopped time).configured
  | expire => exact State.unitsConfigured_of_eq s.expireOnly_frame.2.2.2.2.2.2.2.2.2.2.2.2.2.2.2.2.2.1
  | _ => exact State.unitsConfigured_of_eq rfl

theorem map_toList_congr {α β : Type} {n : Nat} {v w : Vector α n} {f : α → β} (h : ∀ i : Fin n, f v[i] = f w[i]) :
    v.toList.map f = w.toList.map f := by
  refine List.ext_getElem (by simp) fun i hi _ => ?_
  have := h ⟨i, by simpa using hi⟩
  simpa using this

/-- The configuration is the same when its parts are. -/
theorem State.configuration_eq {s t : State} (stationNo : t.stationNo = s.stationNo) (config : t.config = s.config)
    (channels : ∀ c : ChannelNo, t.channels[c].config = s.channels[c].config)
    (groups : ∀ g : GroupNo, t.groups[g].periodMs = s.groups[g].periodMs ∧ t.groups[g].ringMark = s.groups[g].ringMark)
    (captures : ∀ u : CaptureNo, t.captures[u].config = s.captures[u].config)
    (turbine : t.tsv.config = s.tsv.config ∧ t.tsv.effectiveTeeth = s.tsv.effectiveTeeth) (heat : t.hmt.config = s.hmt.config)
    (scaling : { t.scw.config with baseline := 0 } = { s.scw.config with baseline := 0 })
    (windows : t.spl.windows = s.spl.windows) (units : s.unitsConfigured t) (list : t.svp.watchList = s.svp.watchList) :
    t.configuration = s.configuration := by
  simp only [State.configuration, Configuration.mk.injEq]
  exact ⟨stationNo, config, map_toList_congr channels, map_toList_congr fun g => Prod.ext (groups g).1 (groups g).2,
    map_toList_congr captures, turbine.1, turbine.2, heat, scaling, windows,
    map_toList_congr fun n => Prod.ext (units n).1 (units n).2, list⟩

theorem PlanMove.configuration {s t : State} (h : PlanMove s t) : t.configuration = s.configuration := by
  have keeps := h.keeps
  refine State.configuration_eq keeps.stationNo keeps.config ?_ ?_ ?_ ?_ ?_ ?_ keeps.windows h.unitsConfigured ?_
  · rw [keeps.channels]; exact fun _ => rfl
  · rw [keeps.groups]; exact fun _ => ⟨rfl, rfl⟩
  · rw [keeps.captures]; exact fun _ => rfl
  · rw [keeps.tsv]; exact ⟨rfl, rfl⟩
  · rw [keeps.hmt]
  · rw [keeps.scw]
  · rw [keeps.svp]

theorem Vector.get_congr_put {α : Type} {β : Type} (f : α → β) {n : Nat} {v w : Vector α n} {i : Fin n} {x : α}
    (put : ∀ j : Fin n, w[j] = if j = i then x else v[j]) (h : f x = f v[i]) (j : Fin n) : f w[j] = f v[j] := by
  rw [put]
  split
  · rename_i same
    subst same
    exact h
  · rfl

theorem PlantMove.configuration {s t : State} (h : PlantMove s t) : t.configuration = s.configuration := by
  cases h with
  | port x station list =>
    exact State.configuration_eq rfl rfl (fun _ => rfl) (fun _ => ⟨rfl, rfl⟩) (fun _ => rfl) ⟨rfl, rfl⟩ rfl rfl rfl
      (State.unitsConfigured_of_eq rfl) list
  | channel c x config =>
    exact State.configuration_eq rfl rfl (Vector.get_congr_put Channel.config (fun _ => s.putChannel_get c _ x) config)
      (fun _ => ⟨rfl, rfl⟩) (fun _ => rfl) ⟨rfl, rfl⟩ rfl rfl rfl (State.unitsConfigured_of_eq rfl) rfl
  | group g x keeps =>
    exact State.configuration_eq rfl rfl (fun _ => rfl)
      (fun j => ⟨Vector.get_congr_put Group.periodMs (fun _ => s.putGroup_get g _ x) keeps.config.1 j,
        Vector.get_congr_put Group.ringMark (fun _ => s.putGroup_get g _ x) keeps.config.2 j⟩)
      (fun _ => rfl) ⟨rfl, rfl⟩ rfl rfl rfl (State.unitsConfigured_of_eq rfl) rfl
  | capture u x config =>
    exact State.configuration_eq rfl rfl (fun _ => rfl) (fun _ => ⟨rfl, rfl⟩)
      (Vector.get_congr_put Capture.config (fun _ => s.putCapture_get u _ x) config)
      ⟨rfl, rfl⟩ rfl rfl rfl (State.unitsConfigured_of_eq rfl) rfl
  | turbine x config teeth _ _ =>
    exact State.configuration_eq rfl rfl (fun _ => rfl) (fun _ => ⟨rfl, rfl⟩) (fun _ => rfl) ⟨config, teeth⟩ rfl rfl rfl
      (State.unitsConfigured_of_eq rfl) rfl
  | meter x config =>
    exact State.configuration_eq rfl rfl (fun _ => rfl) (fun _ => ⟨rfl, rfl⟩) (fun _ => rfl) ⟨rfl, rfl⟩ config rfl rfl
      (State.unitsConfigured_of_eq rfl) rfl
  | watch x keeps _ =>
    exact State.configuration_eq rfl rfl (fun _ => rfl) (fun _ => ⟨rfl, rfl⟩) (fun _ => rfl) ⟨rfl, rfl⟩ rfl keeps.config rfl
      (State.unitsConfigured_of_eq rfl) rfl
  | _ => rfl

theorem State.configuration_putUnit {s : State} {n : UnitNo} {x : SwUnit} (h : s.unitsConfigured (s.putUnit n x)) :
    (s.putUnit n x).configuration = s.configuration :=
  State.configuration_eq rfl rfl (fun _ => rfl) (fun _ => ⟨rfl, rfl⟩) (fun _ => rfl) ⟨rfl, rfl⟩ rfl rfl rfl h rfl

theorem SwUnit.sameBase.flagged {s : State} {n : UnitNo} {onset : UnitOnset} {x : SwUnit}
    (h : (s.units[n].flagged onset).sameBase x) : s.unitsConfigured (s.putUnit n x) :=
  State.unitsConfigured_putUnit h.config h.defs

theorem TripMove.configuration {s t : State} (h : TripMove s t) : t.configuration = s.configuration := by
  cases h with
  | calm move =>
    cases move with
    | plan move => exact move.configuration
    | plant move => exact move.configuration
  | view active onset => rfl
  | hold on => rfl
  | flag n onset _ => exact State.configuration_putUnit (State.unitsConfigured_putUnit rfl rfl)
  | shed n onset time _ => exact State.configuration_putUnit (SwUnit.sameBase_stopped _ time).flagged
  | unflag n => exact State.configuration_putUnit (State.unitsConfigured_putUnit rfl rfl)

theorem Act.configuration {s t : State} (h : Act s t) : t.configuration = s.configuration := by
  refine act_keeps (P := fun t => t.configuration = s.configuration) ?_ ?_ ?_ ?_ ?_ s t h rfl
  · exact fun _ _ move same => move.configuration.trans same
  · exact fun _ _ _ _ same => same
  · intro u x config teeth same
    refine .trans ?_ same
    exact State.configuration_eq rfl rfl (fun _ => rfl) (fun _ => ⟨rfl, rfl⟩) (fun _ => rfl) ⟨config, teeth⟩ rfl rfl rfl
      (State.unitsConfigured_of_eq rfl) rfl
  · intro u x keeps same
    refine .trans ?_ same
    exact State.configuration_eq rfl rfl (fun _ => rfl) (fun _ => ⟨rfl, rfl⟩) (fun _ => rfl) ⟨rfl, rfl⟩ rfl keeps.config rfl
      (State.unitsConfigured_of_eq rfl) rfl
  · exact fun _ _ same => same

theorem Acts.configuration {s t : State} (h : Acts s t) : t.configuration = s.configuration :=
  keeps_of_moves (P := fun t => t.configuration = s.configuration) (fun _ _ move same => move.configuration.trans same) h rfl

/-! The settle end. -/

theorem Confirms.inRun {s u : State} {k : SlotNo} {own : Claim} (h : Confirms s u k own) : s.inRun = true := by
  have due := h.due
  unfold State.settleDue at due
  split at due
  · exact (Bool.and_eq_true_iff.mp due).1
  all_goals cases due

theorem Confirms.svp {s u : State} {k : SlotNo} {own : Claim} (h : Confirms s u k own) : u.svp = s.svp := by
  rcases h.result with ⟨-, rfl⟩ | ⟨-, rfl⟩ <;> rfl

theorem Confirms.configuration {s u : State} {k : SlotNo} {own : Claim} (h : Confirms s u k own) :
    u.configuration = s.configuration := by
  rcases h.result with ⟨-, rfl⟩ | ⟨-, rfl⟩
  · rfl
  · refine State.configuration_putUnit (s := s.confirmed k) (State.unitsConfigured_putUnit ?_ ?_)
    · exact (SwUnit.writes_writeEdges _ .start own.start).same.config
    · exact (SwUnit.writes_writeEdges _ .start own.start).same.defs

/-- Settles O4: every move of a command in RUN keeps the station state and the configuration; the set-up before RUN is that of
the boot check, a configuration request or Start Station. -/
theorem stationStateAndSealedConfiguration : Obligations.StationStateAndSealedConfiguration := by
  refine ⟨fun c s t run moved => ?_, fun c s t inRun notReset run => ?_⟩
  · cases exec_effect c run with
    | acts acts => exact absurd (Acts.station acts) moved
    | setUp _ station _ =>
      rcases station with same | boot | start
      · exact absurd same moved
      · exact .inr (.inl boot)
      · exact .inr (.inr start)
    | reset _ _ _ isReset => exact .inl ⟨isReset, rfl⟩
    | firm k own _ confirms acts => exact absurd ((Acts.station acts).trans (congrArg Svp.station confirms.svp)) moved
  · cases exec_effect c run with
    | acts acts => exact Acts.configuration acts
    | setUp outside _ _ => exact absurd inRun outside
    | reset _ _ _ isReset => exact absurd isReset (by simp [notReset])
    | firm k own _ confirms acts => exact (Acts.configuration acts).trans confirms.configuration

/-! The FIRM state of a slot. -/

/-- A slot is put into a state other than FIRM. -/
theorem State.notFirm_putSlot {s : State} {j k : SlotNo} {x : Slot} (after : x.state ≠ .firm) (h : s.slotState k ≠ .firm) :
    (s.putSlot j x).slotState k ≠ .firm := by
  rw [State.slotState, State.putSlot_get]
  split
  · exact after
  · exact h

theorem SlotState.isWaiting.ne_firm {x : SlotState} (h : x.isWaiting = true) : x ≠ .firm := by
  rintro rfl
  cases h

theorem PlanMove.notFirm {s t : State} {k : SlotNo} (move : PlanMove s t) (h : s.slotState k ≠ .firm) : t.slotState k ≠ .firm := by
  cases move with
  | wait j x _ after _ => exact State.notFirm_putSlot (SlotState.isWaiting.ne_firm after) h
  | occupy j x _ _ after _ _ => exact State.notFirm_putSlot (SlotState.isWaiting.ne_firm after) h
  | announce j => exact State.notFirm_putSlot nofun h
  | leave j x goal =>
    refine State.notFirm_putSlot ?_ h
    rcases goal with free | ⟨waiting, -⟩
    · rw [free]
      exact nofun
    · exact SlotState.isWaiting.ne_firm waiting
  | expire =>
    rw [State.slotState, State.expireOnly_slot]
    split
    · exact nofun
    · exact h
  | settle j c _ => exact State.notFirm_putSlot nofun h
  | started j _ => exact State.notFirm_putSlot nofun h
  | _ => exact h

theorem TripMove.notFirm {s t : State} {k : SlotNo} (move : TripMove s t) (h : s.slotState k ≠ .firm) : t.slotState k ≠ .firm := by
  cases move with
  | calm move =>
    cases move with
    | plan move => exact move.notFirm h
    | plant move => cases move <;> exact h
  | _ => exact h

theorem Acts.notFirm {s t : State} {k : SlotNo} (acts : Acts s t) (h : s.slotState k ≠ .firm) : t.slotState k ≠ .firm :=
  keeps_of_moves (P := fun s => s.slotState k ≠ .firm)
    (act_keeps (fun _ _ move => move.notFirm) (fun _ _ _ _ h => h) (fun _ _ _ _ h => h) (fun _ _ _ h => h)
      (fun _ _ h => h)) acts h

theorem SetUp.spl_slots {s t : State} (move : SetUp s t) : t.spl.slots = s.spl.slots := by
  cases move <;> rfl

theorem State.confirmed_slot (s : State) (j k : SlotNo) :
    (s.confirmed j).spl.slots[k] = if k = j then { s.spl.slots[j] with state := .firm } else s.spl.slots[k] := by
  rw [State.confirmed, State.slotTo, State.putSlot_get]
  rfl

/-- Another slot than the confirmed one stays as it was. -/
theorem Confirms.slot_other {s u : State} {j k : SlotNo} {own : Claim} (h : Confirms s u j own) (other : k ≠ j) :
    u.spl.slots[k] = s.spl.slots[k] := by
  have slot := s.confirmed_slot j k
  rw [if_neg other] at slot
  rcases h.result with ⟨-, rfl⟩ | ⟨-, rfl⟩
  · exact slot
  · exact slot

theorem windowBlocked_iff (windows : List FixedWindow) (n : Nat) (t : LineTime) :
    windowBlocked windows n t = true ↔ ∃ w ∈ windows, ∃ i, i < n ∧ w.activeAt (t + BitVec.ofNat 32 (1024 * i)) = true := by
  induction n generalizing t with
  | zero => simp [windowBlocked]
  | succ n ih =>
    have later (i : Nat) : t + BitVec.ofNat 32 (1024 * (i + 1)) = t + 1024 + BitVec.ofNat 32 (1024 * i) := by
      rw [Nat.mul_add, Nat.add_comm, BitVec.ofNat_add, ← BitVec.add_assoc]
      rfl
    rw [windowBlocked, Bool.or_eq_true, ih, granuleBlocked, List.any_eq_true]
    constructor
    · rintro (⟨w, mem, active⟩ | ⟨w, mem, i, less, active⟩)
      · exact ⟨w, mem, 0, Nat.succ_pos n, by simpa using active⟩
      · exact ⟨w, mem, i + 1, Nat.succ_lt_succ less, by rw [later]; exact active⟩
    · rintro ⟨w, mem, i, less, active⟩
      cases i with
      | zero => exact .inl ⟨w, mem, by simpa using active⟩
      | succ i => exact .inr ⟨w, mem, i, Nat.lt_of_succ_lt_succ less, by rw [← later]; exact active⟩

/-- Settles O41: no move makes a slot FIRM, so that the settle end's own change did. -/
theorem firmOnlyWhenNothingStandsAgainst : Obligations.FirmOnlyWhenNothingStandsAgainst := by
  intro c s t k run before after
  cases exec_effect c run with
  | acts acts => exact absurd after (acts.notFirm before)
  | setUp _ _ changes =>
    refine absurd after (keeps_of_moves (P := fun s => s.slotState k ≠ .firm) (fun u v change h => ?_) changes before)
    cases change with
    | act act => exact Acts.notFirm (.single act) h
    | setUp move => rwa [State.slotState, move.spl_slots]
  | reset straps cause armed _ =>
    refine absurd after ?_
    rw [State.slotState, State.resetBy, State.afterReset_slot]
    exact nofun
  | firm j own command confirms acts =>
    by_cases same : k = j
    · subst same
      refine ⟨command, own, confirms.entry, fun w mem i less => ?_, fun d mem stronger => ?_, confirms.tripHold, ?_⟩
      · by_contra active
        have blocked := (windowBlocked_iff s.spl.windows own.length own.start).mpr
          ⟨w, mem, i, less, Bool.eq_true_of_not_eq_false active⟩
        rw [confirms.windows] at blocked
        cases blocked
      · have beaten := List.any_eq_false.mp confirms.entries d mem
        by_contra overlaps
        refine beaten (Bool.and_eq_true_iff.mpr ⟨?_, Bool.eq_true_of_not_eq_false overlaps⟩)
        simpa using stronger
      · simpa using confirms.scalingHold
    · refine absurd after (acts.notFirm ?_)
      rw [State.slotState, confirms.slot_other same]
      exact before

end Sys2Proof.Machine
end

section
/-! PROOFS. Every step keeps rest outside RUN, the form of the attention set and of the transmit queue, and the bounds. -/

namespace Sys2Proof.Machine

/-! Rest outside RUN (10.2, R30, R173). -/

/-- Everything at rest, every output low. -/
structure State.allAtRest (s : State) : Prop where
  outputs : ∀ o : OutputNo, s.outputs[o] = false
  units : ∀ n : UnitNo, s.units[n].atRest
  slots : ∀ k : SlotNo, s.spl.slots[k].state = .free
  channels : ∀ c : ChannelNo, s.channels[c].running = false
  captures : ∀ u : CaptureNo, s.captures[u].running = false
  sets : ∀ g : GroupNo, s.groups[g].openSet = none
  interval : s.scw.interval = none
  flight : s.lif.inFlight = none

theorem restOutsideRun_iff {s : State} : RestOutsideRun s ↔ (s.svp.station ≠ .run → s.allAtRest) :=
  ⟨fun h outside => ⟨h.outputs outside, h.units outside, h.slots outside, h.channels outside, h.captures outside,
    h.sets outside, h.interval outside, h.flight outside⟩,
   fun h => ⟨fun o => (h o).outputs, fun o => (h o).units, fun o => (h o).slots, fun o => (h o).channels,
    fun o => (h o).captures, fun o => (h o).sets, fun o => (h o).interval, fun o => (h o).flight⟩⟩

section Rest

variable {s t : State}

theorem State.allAtRest.slotState (h : s.allAtRest) (k : SlotNo) : s.slotState k = .free := h.slots k

theorem State.putUnit_holds {P : SwUnit → Prop} {n : UnitNo} {x : SwUnit} (new : P x) (h : ∀ m : UnitNo, P s.units[m])
    (m : UnitNo) : P (s.putUnit n x).units[m] := by
  rw [State.putUnit_get]
  split
  · exact new
  · exact h m

theorem State.putSlot_holds {P : Slot → Prop} {k : SlotNo} {x : Slot} (new : P x) (h : ∀ j : SlotNo, P s.spl.slots[j])
    (j : SlotNo) : P (s.putSlot k x).spl.slots[j] := by
  rw [State.putSlot_get]
  split
  · exact new
  · exact h j

theorem State.putChannel_holds {P : Channel → Prop} {n : ChannelNo} {x : Channel} (new : P x)
    (h : ∀ m : ChannelNo, P s.channels[m]) (m : ChannelNo) : P (s.putChannel n x).channels[m] := by
  rw [State.putChannel_get]
  split
  · exact new
  · exact h m

theorem State.putGroup_holds {P : Group → Prop} {n : GroupNo} {x : Group} (new : P x) (h : ∀ m : GroupNo, P s.groups[m])
    (m : GroupNo) : P (s.putGroup n x).groups[m] := by
  rw [State.putGroup_get]
  split
  · exact new
  · exact h m

theorem State.putCapture_holds {P : Capture → Prop} {n : CaptureNo} {x : Capture} (new : P x)
    (h : ∀ m : CaptureNo, P s.captures[m]) (m : CaptureNo) : P (s.putCapture n x).captures[m] := by
  rw [State.putCapture_get]
  split
  · exact new
  · exact h m

theorem State.putPeer_holds {P : PeerRow → Prop} {n : StationNo} {x : PeerRow} (new : P x)
    (h : ∀ m : StationNo, P s.peers[m]) (m : StationNo) : P (s.putPeer n x).peers[m] := by
  rw [State.putPeer_get]
  split
  · exact new
  · exact h m

theorem State.allAtRest.putUnit (h : s.allAtRest) {n : UnitNo} {x : SwUnit} (rest : x.atRest) : (s.putUnit n x).allAtRest :=
  { h with units := State.putUnit_holds rest h.units }

theorem State.allAtRest.putSlot (h : s.allAtRest) {k : SlotNo} {x : Slot} (free : x.state = .free) : (s.putSlot k x).allAtRest :=
  { h with slots := State.putSlot_holds (P := fun x => x.state = .free) free h.slots }

theorem State.allAtRest.not_mem_queue (h : s.allAtRest) {n : UnitNo} {e : Edge} (mem : e ∈ s.units[n].queue) : False := by
  rw [(h.units n).2] at mem
  cases mem

theorem State.allAtRest.not_active (h : s.allAtRest) {n : UnitNo}
    (active : s.units[n].state = .starting ∨ s.units[n].state = .running) : False := by
  rw [(h.units n).1] at active
  rcases active with eq | eq <;> cases eq

theorem PlanMove.allAtRest (move : PlanMove s t) (outside : s.inRun = false) (h : s.allAtRest) : t.allAtRest := by
  have waits {k : SlotNo} (waiting : (s.slotState k).isWaiting = true) : False := by
    rw [h.slotState] at waiting
    cases waiting
  cases move with
  | note | queue | draw | hear | forget => exact { h with }
  | wait k x before _ _ => exact (waits before).elim
  | occupy k x run => exact absurd run (by simp [outside])
  | announce k start length waiting _ _ => exact (waits waiting).elim
  | leave k x goal =>
    rcases goal with free | ⟨-, -, unsettled⟩
    · exact State.allAtRest.putSlot (s := s.removeOwn k) { h with } free
    · rw [h.slotState] at unsettled
      cases unsettled
  | expire =>
    have keeps := (PlanMove.expire s).keeps
    obtain ⟨-, -, -, -, -, -, -, -, -, -, -, -, -, -, -, -, -, units, outputs, -⟩ := s.expireOnly_frame
    refine ⟨by rw [outputs]; exact h.outputs, by rw [units]; exact h.units, fun k => ?_, by rw [keeps.channels]; exact h.channels,
      by rw [keeps.captures]; exact h.captures, by rw [keeps.groups]; exact h.sets, by rw [keeps.scw]; exact h.interval,
      by rw [keeps.flight]; exact h.flight⟩
    rw [State.expireOnly_slot]
    split
    · rfl
    · exact h.slots k
  | settle k _ announced => rw [h.slotState] at announced; cases announced
  | started k firm => rw [h.slotState] at firm; cases firm
  | output n e mem => exact (h.not_mem_queue mem).elim
  | late n count late => exact h.putUnit (h.units n)
  | abort n e mem _ => exact (h.not_mem_queue mem).elim
  | miss n e mem _ => exact (h.not_mem_queue mem).elim
  | stop n time active => exact (h.not_active active).elim

theorem PlantMove.allAtRest (move : PlantMove s t) (outside : s.inRun = false) (h : s.allAtRest) : t.allAtRest := by
  have quiet {c : Prop} (either : c ∨ s.inRun = true) : c := either.resolve_right (by simp [outside])
  cases move with
  | line x _ flight =>
    refine { h with flight := Option.eq_none_iff_forall_ne_some.mpr fun f eq => ?_ }
    obtain ⟨g, before, -⟩ := flight f eq
    rw [h.flight] at before
    cases before
  | take x e f run => exact absurd run (by simp [outside])
  | back x f flight => rw [h.flight] at flight; cases flight
  | channel c x config running =>
    refine { h with channels := State.putChannel_holds (P := fun x => x.running = false) ?_ h.channels }
    exact Bool.eq_false_iff.mpr fun runs => absurd (quiet (running runs)) (by simp [h.channels c, -Fin.getElem_fin])
  | group g x keeps =>
    refine { h with sets := State.putGroup_holds (P := fun x => x.openSet = none) ?_ h.sets }
    by_contra opened
    exact quiet (keeps.sets opened) (h.sets g)
  | capture u x config running =>
    refine { h with captures := State.putCapture_holds (P := fun x => x.running = false) ?_ h.captures }
    exact Bool.eq_false_iff.mpr fun runs => absurd (quiet (running runs)) (by simp [h.captures u, -Fin.getElem_fin])
  | watch x keeps _ =>
    refine { h with interval := ?_ }
    by_contra opened
    exact quiet (keeps.interval opened) h.interval
  | _ => exact { h with }

theorem TripMove.allAtRest (move : TripMove s t) (outside : s.inRun = false) (h : s.allAtRest) : t.allAtRest := by
  cases move with
  | calm move =>
    cases move with
    | plan move => exact move.allAtRest outside h
    | plant move => exact move.allAtRest outside h
  | view | hold => exact { h with }
  | flag n onset _ => exact h.putUnit (h.units n)
  | shed n onset time active => exact (h.not_active active).elim
  | unflag n => exact h.putUnit (h.units n)

theorem TripMove.station (move : TripMove s t) : t.svp.station = s.svp.station := by
  cases move with
  | calm move => exact Act.station (.calm move)
  | _ => rfl

theorem State.inRun_eq_false (outside : s.svp.station ≠ .run) : s.inRun = false := decide_eq_false outside

theorem restOutsideRun_keptByMoves : KeptByMoves fun s => s.svp.station ≠ .run → s.allAtRest where
  act := by
    refine act_keeps (fun s t move h outside => ?_) (fun s n x _ h outside => ?_) (fun s x _ _ h outside => ?_)
      (fun s x keeps h outside => ?_) (fun s on h outside => ?_)
    · rw [move.station] at outside
      exact move.allAtRest (State.inRun_eq_false outside) (h outside)
    · exact { h outside with }
    · exact { h outside with }
    · refine { h outside with interval := ?_ }
      by_contra opened
      exact (keeps.interval opened).elim (fun was => was (h outside).interval) (by simp [State.inRun_eq_false (s := s) outside])
    · exact { h outside with }
  setUp s t move h outside := by
    cases move with
    | boot x _ _ before => exact { h before with }
    | run => exact absurd rfl outside
    | channel c config =>
      exact { h outside with
        channels := State.putChannel_holds (P := fun x => x.running = false) ((h outside).channels c) (h outside).channels }
    | group g period mark =>
      exact { h outside with
        sets := State.putGroup_holds (P := fun x => x.openSet = none) ((h outside).sets g) (h outside).sets }
    | capture u config =>
      exact { h outside with
        captures := State.putCapture_holds (P := fun x => x.running = false) ((h outside).captures u) (h outside).captures }
    | unit n config => exact (h outside).putUnit ((h outside).units n)
    | edge n place d _ => exact (h outside).putUnit ((h outside).units n)
    | _ => exact { h outside with }
  reset := fun straps cause armed pending freeNext =>
    restOutsideRun_iff.mp (RestOutsideRun.afterReset straps cause armed pending freeNext)
  firm s u k own confirms _ outside := by
    rw [confirms.svp] at outside
    exact absurd confirms.inRun (by simp [State.inRun_eq_false outside])

/-- Settles O54: no move but one in RUN disturbs what is at rest, and outside RUN a command makes no such move. -/
theorem everyStepKeepsRestOutsideRun : Obligations.EveryStepKeepsRestOutsideRun := by
  intro s t h run
  exact restOutsideRun_iff.mpr (restOutsideRun_keptByMoves.step (restOutsideRun_iff.mp h) run)

end Rest

/-! The attention set (R207). -/

/-- An attention set with one record of each cause, each raised 1 to 255 times. -/
def attentionSound (ps : List Pending) : Prop := (ps.map Pending.cause).Nodup ∧ ∀ p ∈ ps, 1 ≤ p.raises ∧ p.raises ≤ 255

theorem mem_raiseIn_cause {cause : Cause} {reason : Option ClaimFailure} {t : LineTime} {ps : List Pending} {c : Cause} :
    c ∈ (raiseIn cause reason t ps).map Pending.cause ↔ c = cause ∨ c ∈ ps.map Pending.cause := by
  induction ps with
  | nil => simp [raiseIn]
  | cons p ps ih =>
    rw [raiseIn]
    split
    · rename_i same
      simp only [List.map_cons, List.mem_cons, same]
      tauto
    · simp only [List.map_cons, List.mem_cons, ih]
      tauto

theorem attentionSound_raiseIn (cause : Cause) (reason : Option ClaimFailure) (t : LineTime) {ps : List Pending}
    (h : attentionSound ps) : attentionSound (raiseIn cause reason t ps) := by
  induction ps with
  | nil => simp [raiseIn, attentionSound]
  | cons p ps ih =>
    obtain ⟨distinct, raises⟩ := h
    obtain ⟨fresh, rest⟩ := List.nodup_cons.mp distinct
    have bounds := raises p List.mem_cons_self
    have tail : attentionSound ps := ⟨rest, fun q mem => raises q (List.mem_cons_of_mem p mem)⟩
    rw [raiseIn]
    split
    · refine ⟨distinct, List.forall_mem_cons.mpr ⟨?_, tail.2⟩⟩
      show 1 ≤ min 255 (p.raises + 1) ∧ min 255 (p.raises + 1) ≤ 255
      omega
    · rename_i other
      obtain ⟨distinct', raises'⟩ := ih tail
      refine ⟨List.nodup_cons.mpr ⟨fun mem => ?_, distinct'⟩, List.forall_mem_cons.mpr ⟨bounds, raises'⟩⟩
      rcases mem_raiseIn_cause.mp mem with same | old
      · exact other same
      · exact fresh old

theorem attentionSound_filter {ps : List Pending} (h : attentionSound ps) (test : Pending → Bool) :
    attentionSound (ps.filter test) :=
  ⟨h.1.sublist (List.filter_sublist.map _), fun p mem => h.2 p (List.mem_of_mem_filter mem)⟩

theorem PlanMove.attentionSound {s t : State} (move : PlanMove s t) (h : Machine.attentionSound s.attention) :
    Machine.attentionSound t.attention := by
  cases move with
  | note cause why _ => exact attentionSound_raiseIn cause why _ h
  | expire => rwa [s.expireOnly_frame.2.2.2.2.1]
  | _ => exact h

theorem attentionSound_keptByMoves : KeptByMoves fun s => attentionSound s.attention where
  act := by
    refine act_keeps (fun s t move h => ?_) (fun _ _ _ _ h => h) (fun _ _ _ _ h => h) (fun _ _ _ h => h) (fun _ _ h => h)
    cases move with
    | calm move =>
      cases move with
      | plan move => exact move.attentionSound h
      | plant move =>
        cases move with
        | raise cause => exact attentionSound_raiseIn cause none _ h
        | clear test => exact attentionSound_filter h test
        | _ => exact h
    | _ => exact h
  setUp s t move h := by cases move <;> exact h
  reset straps cause armed pending freeNext :=
    have h := AttentionDistinct.afterReset straps cause armed pending freeNext
    ⟨h.distinct, h.raises⟩
  firm s u k own confirms h := by
    rcases confirms.result with ⟨-, rfl⟩ | ⟨-, rfl⟩ <;> exact h

/-! The transmit queue (R25 to R29). -/

/-- A queue with one entry of each group, class 0 before class 1, each with a collision count below 8. -/
structure queueSound (q : List QueueEntry) : Prop where
  distinct : (q.map fun e => e.notice.group).Nodup
  classes : q.Pairwise fun e f => f.notice.classZero = true → e.notice.classZero = true
  collisions : ∀ e ∈ q, e.collisions < 8

theorem Notice.classZero_iff (n : Notice) : n.classZero = true ↔ n.group = .latch := by
  cases n <;> simp [Notice.classZero, Notice.group]

theorem Notice.classZero_of_group {m n : Notice} (h : m.group = n.group) : m.classZero = n.classZero :=
  Bool.eq_iff_iff.mpr (by rw [m.classZero_iff, n.classZero_iff, h])

theorem sameGroup?_none {n : Notice} {q : List QueueEntry} (h : sameGroup? n q = none) :
    n.group ∉ q.map fun e => e.notice.group := by
  intro mem
  obtain ⟨e, mem, same⟩ := List.mem_map.mp mem
  exact List.find?_eq_none.mp h e mem (by simpa using same)

theorem sameGroup?_some {n : Notice} {q : List QueueEntry} {e : QueueEntry} (h : sameGroup? n q = some e) :
    e ∈ q ∧ e.notice.group = n.group :=
  ⟨List.mem_of_find?_eq_some h, by simpa using List.find?_some h⟩

theorem queueSound.sublist {q r : List QueueEntry} (h : queueSound q) (sub : r.Sublist q) : queueSound r :=
  ⟨h.distinct.sublist (sub.map _), h.classes.sublist sub, fun e mem => h.collisions e (sub.subset mem)⟩

/-- A new entry between the two classes, after those of class 0 or before those of class 1. -/
theorem queueSound_insert {q : List QueueEntry} (h : queueSound q) {e : QueueEntry} (few : e.collisions < 8)
    (fresh : e.notice.group ∉ q.map fun d => d.notice.group) :
    queueSound (q.filter (·.notice.classZero) ++ e :: q.filter (!·.notice.classZero)) := by
  have parts : (q.filter (·.notice.classZero) ++ e :: q.filter (!·.notice.classZero)).Perm (e :: q) :=
    List.perm_middle.trans ((List.filter_append_perm _ q).cons e)
  refine ⟨?_, ?_, ?_⟩
  · exact (parts.map _).nodup_iff.mpr (List.nodup_cons.mpr ⟨fresh, h.distinct⟩)
  · refine List.pairwise_append.mpr ⟨h.classes.sublist List.filter_sublist, List.pairwise_cons.mpr ⟨fun f mem zero => ?_,
      h.classes.sublist List.filter_sublist⟩, fun d mem f _ _ => by simpa using (List.mem_filter.mp mem).2⟩
    have one := (List.mem_filter.mp mem).2
    simp [zero] at one
  · intro d mem
    rcases List.mem_cons.mp (parts.mem_iff.mp mem) with rfl | old
    · exact few
    · exact h.collisions d old

/-- A new entry of class 0 at the front. -/
theorem queueSound_cons {q : List QueueEntry} (h : queueSound q) {e : QueueEntry} (few : e.collisions < 8)
    (fresh : e.notice.group ∉ q.map fun d => d.notice.group) (zero : e.notice.classZero = true) : queueSound (e :: q) :=
  ⟨List.nodup_cons.mpr ⟨fresh, h.distinct⟩, List.pairwise_cons.mpr ⟨fun _ _ _ => zero, h.classes⟩,
    List.forall_mem_cons.mpr ⟨few, h.collisions⟩⟩

/-- A new entry of class 1 at the end. -/
theorem queueSound_concat {q : List QueueEntry} (h : queueSound q) {e : QueueEntry} (few : e.collisions < 8)
    (fresh : e.notice.group ∉ q.map fun d => d.notice.group) (one : e.notice.classZero = false) : queueSound (q ++ [e]) := by
  refine ⟨?_, List.pairwise_append.mpr ⟨h.classes, List.pairwise_singleton _ _, fun d _ f mem zero => ?_⟩, fun d mem => ?_⟩
  · rw [List.map_append]
    exact List.Nodup.append h.distinct (List.nodup_singleton _) (by simpa using fresh)
  · rw [List.mem_singleton.mp mem, one] at zero
    cases zero
  · rcases List.mem_append.mp mem with old | new
    · exact h.collisions d old
    · rwa [List.mem_singleton.mp new]

theorem queueSound_placeLast {q : List QueueEntry} (h : queueSound q) {e : QueueEntry} (few : e.collisions < 8)
    (fresh : e.notice.group ∉ q.map fun d => d.notice.group) : queueSound (placeLast e q) := by
  unfold placeLast
  split
  · exact queueSound_insert h few fresh
  · rename_i one
    exact queueSound_concat h few fresh (Bool.eq_false_iff.mpr one)

theorem queueSound_placeFirst {q : List QueueEntry} (h : queueSound q) {e : QueueEntry} (few : e.collisions < 8)
    (fresh : e.notice.group ∉ q.map fun d => d.notice.group) : queueSound (placeFirst e q) := by
  unfold placeFirst
  split
  · rename_i zero
    exact queueSound_cons h few fresh zero
  · exact queueSound_insert h few fresh

theorem queueSound_replaceInPlace {q : List QueueEntry} (h : queueSound q) (n : Notice) : queueSound (replaceInPlace n q) := by
  have group (e : QueueEntry) :
      (if e.notice.group = n.group then { e with notice := n } else e).notice.group = e.notice.group := by
    split
    · rename_i same
      exact same.symm
    · rfl
  refine ⟨?_, ?_, ?_⟩
  · rw [replaceInPlace, List.map_map]
    simpa only [Function.comp_def, group] using h.distinct
  · refine List.pairwise_map.mpr (h.classes.imp fun {e f} before => ?_)
    rw [Notice.classZero_of_group (group e), Notice.classZero_of_group (group f)]
    exact before
  · intro e mem
    obtain ⟨d, old, rfl⟩ := List.mem_map.mp mem
    have few := h.collisions d old
    split <;> exact few

theorem not_mem_dropGroup (n : Notice) (q : List QueueEntry) : n.group ∉ (dropGroup n q).map fun e => e.notice.group := by
  intro mem
  obtain ⟨e, mem, same⟩ := List.mem_map.mp mem
  have other := (List.mem_filter.mp mem).2
  simp [same] at other

theorem queueSound_queueIn {q : List QueueEntry} (h : queueSound q) (n : Notice) : queueSound (queueIn n q) := by
  unfold queueIn
  split
  · rename_i none
    exact queueSound_placeLast h (Nat.zero_lt_succ 7) (sameGroup?_none none)
  · split
    · exact h.sublist List.filter_sublist
    · exact queueSound_replaceInPlace h n

theorem queueSound_returnIn {q : List QueueEntry} (h : queueSound q) (n : Notice) {collisions : Nat} (few : collisions < 8) :
    queueSound (returnIn n collisions q) := by
  unfold returnIn
  split
  · rename_i none
    exact queueSound_placeFirst h few (sameGroup?_none none)
  · rename_i e found
    have dropped : queueSound (dropGroup n q) := h.sublist List.filter_sublist
    split
    · exact dropped
    · refine queueSound_placeFirst dropped few ?_
      rw [(sameGroup?_some found).2]
      exact not_mem_dropGroup n q

theorem PlanMove.queueSound {s t : State} (move : PlanMove s t) (h : Machine.queueSound s.lif.queue) :
    Machine.queueSound t.lif.queue := by
  cases move with
  | queue n _ => exact queueSound_queueIn h n
  | expire => rwa [s.expireOnly_frame.2.2.2.2.2.1]
  | _ => exact h

theorem PlantMove.queueSound {s t : State} (move : PlantMove s t) (h : Machine.queueSound s.lif.queue) :
    Machine.queueSound t.lif.queue := by
  cases move with
  | queue n _ => exact queueSound_queueIn h n
  | line x queue _ => exact queue ▸ h
  | take x e f _ queue _ _ =>
    rw [queue] at h
    exact h.sublist (List.sublist_cons_self e _)
  | back x f _ few queue _ =>
    rw [State.putLif_lif, queue]
    exact queueSound_returnIn h _ few
  | _ => exact h

theorem queueSound_keptByMoves : KeptByMoves fun s => queueSound s.lif.queue where
  act := by
    refine act_keeps (fun s t move h => ?_) (fun _ _ _ _ h => h) (fun _ _ _ _ h => h) (fun _ _ _ h => h) (fun _ _ h => h)
    cases move with
    | calm move =>
      cases move with
      | plan move => exact move.queueSound h
      | plant move => exact move.queueSound h
    | _ => exact h
  setUp s t move h := by cases move <;> exact h
  reset straps cause armed pending freeNext :=
    have h := QueueOrdered.afterReset straps cause armed pending freeNext
    ⟨h.distinct, h.classes, h.collisions⟩
  firm s u k own confirms h := by
    rcases confirms.result with ⟨-, rfl⟩ | ⟨-, rfl⟩ <;> exact h

/-- Settles O59: raising, clearing, queuing, starting and returning keep the two forms, and no other move touches them. -/
theorem everyStepKeepsSetAndQueue : Obligations.EveryStepKeepsSetAndQueue := by
  intro s t set queue run
  have set' := attentionSound_keptByMoves.step (P := fun s => attentionSound s.attention) ⟨set.distinct, set.raises⟩ run
  have queue' := queueSound_keptByMoves.step (P := fun s => queueSound s.lif.queue)
    ⟨queue.distinct, queue.classes, queue.collisions⟩ run
  exact ⟨⟨set'.1, set'.2⟩, ⟨queue'.distinct, queue'.classes, queue'.collisions⟩⟩

/-! Residues, fixed windows, stores and fouling indices. -/

section Bounds

variable {s t : State}

theorem residuesBelow_keptByMoves : KeptByMoves ResiduesBelow where
  act := by
    refine act_keeps (fun s t move h => ?_) (fun _ _ _ _ h => h) (fun _ _ _ _ h => h) (fun _ _ _ h => h) (fun _ _ h => h)
    cases move with
    | calm move =>
      cases move with
      | plan move => rwa [ResiduesBelow, move.keeps.hmt]
      | plant move =>
        cases move with
        | meter x _ forward reverse => exact ⟨forward h.1, reverse h.2⟩
        | _ => exact h
    | _ => exact h
  setUp s t move h := by cases move <;> exact h
  reset := ResiduesBelow.afterReset
  firm s u k own confirms h := by rcases confirms.result with ⟨-, rfl⟩ | ⟨-, rfl⟩ <;> exact h

/-- What Set Window's checks say of a window that passes them (R146). -/
theorem State.windowRefusal?_none {w : FixedWindow} (h : s.windowRefusal? w = none) :
    w.sound ∧ (∀ v ∈ s.spl.windows, w.clashes v = false) ∧ s.spl.windows.length < 8 := by
  unfold State.windowRefusal? at h
  split at h
  · cases h
  rename_i exponent
  split at h
  · cases h
  rename_i length
  split at h
  · cases h
  rename_i period
  split at h
  · cases h
  rename_i apart
  split at h
  · cases h
  rename_i places
  have exponent : 20 ≤ w.exponent ∧ w.exponent ≤ 31 := by simpa [within] using exponent
  exact ⟨⟨exponent.1, exponent.2, Nat.pos_of_ne_zero length, Nat.le_of_not_lt period⟩, by simpa using apart,
    Nat.lt_of_not_le places⟩

theorem FixedWindow.apart_of_clashes {v w : FixedWindow} (h : w.clashes v = false) : v.apart w := by
  intro same
  simp only [FixedWindow.clashes, same, decide_true, Bool.true_and, Bool.and_eq_false_iff, decide_eq_false_iff_not,
    Nat.not_lt] at h
  exact h

/-- The fixed windows that Set Window lets in. -/
structure windowsSound (ws : List FixedWindow) : Prop where
  places : ws.length ≤ 8
  sound : ∀ w ∈ ws, w.sound
  apart : ws.Pairwise FixedWindow.apart

theorem windowsSound_keptByMoves : KeptByMoves fun s => windowsSound s.spl.windows where
  act := by
    refine act_keeps (fun s t move h => ?_) (fun _ _ _ _ h => h) (fun _ _ _ _ h => h) (fun _ _ _ h => h) (fun _ _ h => h)
    cases move with
    | calm move =>
      cases move with
      | plan move => rwa [move.keeps.windows]
      | plant move => cases move <;> exact h
    | _ => exact h
  setUp s t move h := by
    cases move with
    | window w passes =>
      obtain ⟨sound, apart, places⟩ := s.windowRefusal?_none passes
      refine ⟨?_, ?_, ?_⟩
      · show (s.spl.windows ++ [w]).length ≤ 8
        rw [List.length_append, List.length_singleton]
        exact places
      · exact fun v mem => (List.mem_append.mp mem).elim (h.sound v) fun new => List.mem_singleton.mp new ▸ sound
      · refine List.pairwise_append.mpr ⟨h.apart, List.pairwise_singleton _ _, fun v old x new => ?_⟩
        rw [List.mem_singleton.mp new]
        exact FixedWindow.apart_of_clashes (apart v old)
    | noWindows => exact ⟨Nat.zero_le 8, nofun, List.Pairwise.nil⟩
    | _ => exact h
  reset straps cause armed pending freeNext :=
    have h := WindowTableSound.afterReset straps cause armed pending freeNext
    ⟨h.places, h.sound, h.apart⟩
  firm s u k own confirms h := by rcases confirms.result with ⟨-, rfl⟩ | ⟨-, rfl⟩ <;> exact h

theorem PlanMove.storesBounded (move : PlanMove s t) (h : StoresBounded s) : StoresBounded t := by
  have keeps := move.keeps
  exact ⟨by rw [keeps.channels]; exact h.guardHistory, by rw [keeps.groups]; exact h.ring,
    by rw [keeps.groups]; exact h.numbered, by rw [keeps.captures]; exact h.stamps, by rw [keeps.captures]; exact h.records,
    by rw [keeps.scw]; exact h.indices⟩

theorem StoresBounded.putGroup (h : StoresBounded s) {g : GroupNo} {x : Group} (ring : x.ring.length ≤ 64)
    (numbered : x.numbered) : StoresBounded (s.putGroup g x) :=
  { h with ring := State.putGroup_holds (P := fun x => x.ring.length ≤ 64) ring h.ring
           numbered := State.putGroup_holds numbered h.numbered }

theorem PlantMove.storesBounded (move : PlantMove s t) (h : StoresBounded s) : StoresBounded t := by
  cases move with
  | channel c x _ _ history =>
    exact { h with
        guardHistory := State.putChannel_holds (P := fun x => x.guardHistory.length ≤ 8) (history (h.guardHistory c)) h.guardHistory }
  | group g x keeps => exact h.putGroup (keeps.ring (h.ring g)) (keeps.numbered (h.ring g) (h.numbered g))
  | capture u x _ _ fifo history =>
    exact { h with
      stamps := State.putCapture_holds (P := fun x => x.fifo.length ≤ 16) (fifo (h.stamps u)) h.stamps
      records := State.putCapture_holds (P := fun x => x.history.length ≤ 4) (history (h.records u)) h.records }
  | watch x keeps _ => exact { h with indices := keeps.history h.indices }
  | _ => exact { h with }

theorem storesBounded_keptByMoves : KeptByMoves StoresBounded where
  act := by
    refine act_keeps (fun s t move h => ?_) (fun _ _ _ _ h => { h with }) (fun _ _ _ _ h => { h with })
      (fun _ _ keeps h => { h with indices := keeps.history h.indices }) (fun _ _ h => { h with })
    cases move with
    | calm move =>
      cases move with
      | plan move => exact move.storesBounded h
      | plant move => exact move.storesBounded h
    | _ => exact { h with }
  setUp s t move h := by
    cases move with
    | channel c config =>
      exact { h with
        guardHistory := State.putChannel_holds (P := fun x => x.guardHistory.length ≤ 8) (h.guardHistory c) h.guardHistory }
    | group g period mark => exact h.putGroup (h.ring g) (h.numbered g)
    | capture u config =>
      exact { h with
        stamps := State.putCapture_holds (P := fun x => x.fifo.length ≤ 16) (h.stamps u) h.stamps
        records := State.putCapture_holds (P := fun x => x.history.length ≤ 4) (h.records u) h.records }
    | _ => exact { h with }
  reset := StoresBounded.afterReset
  firm s u k own confirms h := by rcases confirms.result with ⟨-, rfl⟩ | ⟨-, rfl⟩ <;> exact { h with }

theorem IndicesBounded.watch (h : IndicesBounded s) : s.scw.indicesSound := ⟨h.history, h.latest, h.held⟩

/-- The indices of the scaling watch after it has been written. -/
theorem IndicesBounded.putScw (h : IndicesBounded s) {x : Scw} (sound : x.indicesSound) : IndicesBounded (s.putScw x) :=
  { h with history := sound.history, latest := sound.latest, held := sound.held }

/-- Every notice of the queue is an old one or the new one. -/
theorem mem_queueIn_notice {n : Notice} {q : List QueueEntry} {e : QueueEntry} (mem : e ∈ queueIn n q) :
    e.notice = n ∨ ∃ d ∈ q, d.notice = e.notice := by
  have kept {d : QueueEntry} (mem : d ∈ q) : d.notice = n ∨ ∃ c ∈ q, c.notice = d.notice := .inr ⟨d, mem, rfl⟩
  have placed {test : QueueEntry → Bool} (mem : e ∈ q.filter test) : e.notice = n ∨ ∃ c ∈ q, c.notice = e.notice :=
    kept (List.mem_of_mem_filter mem)
  unfold queueIn at mem
  split at mem
  · unfold placeLast at mem
    split at mem
    · rcases List.mem_append.mp mem with old | rest
      · exact placed old
      · rcases List.mem_cons.mp rest with rfl | old
        · exact .inl rfl
        · exact placed old
    · rcases List.mem_append.mp mem with old | new
      · exact kept old
      · exact .inl (List.mem_singleton.mp new ▸ rfl)
  · split at mem
    · exact placed mem
    · obtain ⟨d, old, rfl⟩ := List.mem_map.mp mem
      split
      · exact .inl rfl
      · exact kept old

theorem mem_placeFirst {e d : QueueEntry} {q : List QueueEntry} (mem : d ∈ placeFirst e q) : d = e ∨ d ∈ q := by
  unfold placeFirst at mem
  split at mem
  · exact List.mem_cons.mp mem
  · rcases List.mem_append.mp mem with old | rest
    · exact .inr (List.mem_of_mem_filter old)
    · exact (List.mem_cons.mp rest).imp_right List.mem_of_mem_filter

theorem mem_returnIn_notice {n : Notice} {collisions : Nat} {q : List QueueEntry} {e : QueueEntry}
    (mem : e ∈ returnIn n collisions q) : e.notice = n ∨ ∃ d ∈ q, d.notice = e.notice := by
  unfold returnIn at mem
  split at mem
  · rcases mem_placeFirst mem with rfl | old
    · exact .inl rfl
    · exact .inr ⟨e, old, rfl⟩
  · rename_i d found
    split at mem
    · exact .inr ⟨e, List.mem_of_mem_filter mem, rfl⟩
    · rcases mem_placeFirst mem with rfl | old
      · exact .inr ⟨d, (sameGroup?_some found).1, rfl⟩
      · exact .inr ⟨e, List.mem_of_mem_filter old, rfl⟩

theorem PlanMove.indicesBounded (move : PlanMove s t) (h : IndicesBounded s) : IndicesBounded t := by
  have keeps := move.keeps
  refine ⟨by rw [keeps.scw]; exact h.history, by rw [keeps.scw]; exact h.latest, by rw [keeps.scw]; exact h.held,
    by rw [keeps.own]; exact h.own, ?_, by rw [keeps.flight]; exact h.flight, by rw [keeps.peers]; exact h.rows⟩
  cases move with
  | queue n planner =>
    intro e mem
    rcases mem_queueIn_notice mem with new | ⟨d, old, same⟩
    · rw [new]
      cases n with
      | claim | release => trivial
      | _ => rcases planner with no | no <;> cases no
    · rw [← same]
      exact h.queued d old
  | expire =>
    rw [s.expireOnly_frame.2.2.2.2.2.1]
    exact h.queued
  | _ => exact h.queued

theorem IndicesBounded.putPeer (h : IndicesBounded s) {n : StationNo} {x : PeerRow} (sound : x.indicesSound) :
    IndicesBounded (s.putPeer n x) :=
  { h with rows := State.putPeer_holds (P := PeerRow.indicesSound) sound h.rows }

theorem PlantMove.indicesBounded (move : PlantMove s t) (h : IndicesBounded s) : IndicesBounded t := by
  cases move with
  | own x sound => exact { h with own := sound h.watch h.own }
  | queue n sound =>
    refine { h with queued := fun e mem => ?_ }
    rcases mem_queueIn_notice mem with new | ⟨d, old, same⟩
    · rw [new]
      exact sound h.watch
    · rw [← same]
      exact h.queued d old
  | line x queue flight =>
    refine { h with queued := queue ▸ h.queued, flight := fun f eq => ?_ }
    obtain ⟨g, was, same⟩ := flight f eq
    rw [same]
    exact h.flight g was
  | take x e f _ queue flight notice =>
    have front := fun d (mem : d ∈ e :: x.queue) => h.queued d (queue ▸ mem)
    refine { h with queued := fun d mem => front d (List.mem_cons_of_mem e mem), flight := fun g eq => ?_ }
    obtain rfl : f = g := Option.some.inj (flight.symm.trans eq)
    rw [notice]
    exact front e List.mem_cons_self
  | back x f flight _ queue ended =>
    refine { h with queued := fun d mem => ?_, flight := fun g eq => ?_ }
    · rcases mem_returnIn_notice (queue ▸ mem) with new | ⟨e, old, same⟩
      · rw [new]
        exact h.flight f flight
      · rw [← same]
        exact h.queued e old
    · cases ended.symm.trans eq
  | timer n timer stray => exact h.putPeer (h.rows n)
  | watch x keeps _ => exact h.putScw (keeps.indices h.watch)
  | _ => exact { h with }

theorem indicesBounded_keptByMoves : KeptByMoves IndicesBounded where
  act := by
    refine act_keeps (fun s t move h => ?_) (fun s n _ sound h => h.putPeer (sound (h.rows n))) (fun _ _ _ _ h => { h with })
      (fun _ _ keeps h => h.putScw (keeps.indices h.watch)) (fun _ _ h => { h with })
    cases move with
    | calm move =>
      cases move with
      | plan move => exact move.indicesBounded h
      | plant move => exact move.indicesBounded h
    | _ => exact { h with }
  setUp s t move h := by cases move <;> exact { h with }
  reset := IndicesBounded.afterReset
  firm s u k own confirms h := by rcases confirms.result with ⟨-, rfl⟩ | ⟨-, rfl⟩ <;> exact { h with }

/-- Settles O60: each bound is kept by the moves that touch what it bounds. -/
theorem everyStepKeepsBounds : Obligations.EveryStepKeepsBounds := by
  intro s t residues windows stores indices run
  have windows' := windowsSound_keptByMoves.step (P := fun s => windowsSound s.spl.windows)
    ⟨windows.places, windows.sound, windows.apart⟩ run
  exact ⟨residuesBelow_keptByMoves.step residues run, ⟨windows'.places, windows'.sound, windows'.apart⟩,
    storesBounded_keptByMoves.step stores run, indicesBounded_keptByMoves.step indices run⟩

end Bounds

end Sys2Proof.Machine
end

section
/-! PROOFS. Every step keeps own slots, own entries and units in agreement. -/

namespace Sys2Proof.Machine

/-! The own entries of a slot, by their units. -/

/-- The units of the own entries of a slot. -/
def State.ownUnits (s : State) (k : SlotNo) : List UnitNo := (s.spl.claims.filter (s.isOwnEntry k)).map Claim.unit

/-- The agreement of slots, entries and units, with the own entries of a slot by their units. -/
structure State.pumps (s : State) : Prop where
  own : ∀ k : SlotNo, s.ownUnits k = if (s.slotState k).holdsEntry then [s.spl.slots[k].unit] else []
  apart : ∀ j k : SlotNo, j ≠ k → s.slotState j ≠ .free → s.slotState k ≠ .free → s.spl.slots[j].unit ≠ s.spl.slots[k].unit
  idle : ∀ (k : SlotNo) (n : UnitNo), (s.slotState k).before = true → s.spl.slots[k].unit = n → s.units[n].state = .idle
  units : ∀ n : UnitNo, s.units[n].sound

theorem pumpsAgree_iff {s : State} : PumpsAgree s ↔ s.pumps := by
  constructor
  · intro h
    refine ⟨fun k => ?_, fun j k other usedJ usedK => ?_, fun k n early eq => eq ▸ h.idle k early, h.units⟩
    · split
      · rename_i holds
        obtain ⟨c, only, unit⟩ := h.entry k holds
        rw [State.ownUnits, only, List.map_singleton, unit]
      · rename_i none
        rw [State.ownUnits, h.none k (Bool.eq_false_iff.mpr none), List.map_nil]
    · match j, k with
      | 0, 1 => exact h.apart usedJ usedK
      | 1, 0 => exact (h.apart usedK usedJ).symm
      | 0, 0 | 1, 1 => exact absurd rfl other
  · intro h
    refine ⟨fun k holds => ?_, fun k none => ?_, h.apart 0 1 (by decide), fun k early => h.idle k _ early rfl, h.units⟩
    · have own := h.own k
      rw [if_pos holds] at own
      obtain ⟨c, only, unit⟩ := List.map_eq_singleton_iff.mp own
      exact ⟨c, only, unit⟩
    · have own := h.own k
      rw [if_neg (by simp [none])] at own
      exact List.map_eq_nil_iff.mp own

/-- The own entries of a slot are among the station's. -/
theorem State.ownUnits_of_station {s t : State} (stationNo : t.stationNo = s.stationNo)
    (same : (t.spl.claims.filter (·.station = s.stationNo)).Perm (s.spl.claims.filter (·.station = s.stationNo))) (k : SlotNo) :
    (t.ownUnits k).Perm (s.ownUnits k) := by
  have among (claims : List Claim) : claims.filter (s.isOwnEntry k)
      = (claims.filter (·.station = s.stationNo)).filter (·.slot = SlotNo.inTag k) := by
    rw [List.filter_filter]
    exact List.filter_congr fun c _ => Bool.and_comm _ _
  have entries : t.isOwnEntry k = s.isOwnEntry k := by
    funext c
    rw [State.isOwnEntry, stationNo, State.isOwnEntry]
  rw [State.ownUnits, State.ownUnits, entries, among, among]
  exact (same.filter _).map _

/-- A list equal to one or none up to order is equal. -/
theorem eq_of_perm_short {α : Type} {c : Prop} [Decidable c] {xs ys : List α} {x : α} (perm : xs.Perm ys)
    (h : ys = if c then [x] else []) : xs = if c then [x] else [] := by
  subst h
  split
  · rename_i holds
    rw [if_pos holds] at perm
    exact List.perm_singleton.mp perm
  · rename_i none
    rw [if_neg none] at perm
    exact List.perm_nil.mp perm

theorem insertClaim_perm (c : Claim) (cs : List Claim) : (insertClaim c cs).Perm (c :: cs) := by
  induction cs with
  | nil => exact .refl _
  | cons d ds ih =>
    rw [insertClaim]
    split
    · exact .refl _
    · exact (ih.cons d).trans (.swap c d ds)

/-- The station's own entries stay when entries of another are replaced by one of that station. -/
theorem filter_own_map {c : Claim} {me : StationNo} (foreign : c.station ≠ me) (claims : List Claim) :
    (claims.map fun d => if d.station = c.station && d.slot = c.slot then c else d).filter (·.station = me)
      = claims.filter (·.station = me) := by
  induction claims with
  | nil => rfl
  | cons d ds ih =>
    rw [List.map_cons, List.filter_cons, List.filter_cons, ih]
    by_cases same : d.station = c.station ∧ d.slot = c.slot
    · simp [same.1, same.2, foreign]
    · simp [same]

/-- The entries of the station itself stay when another station's claim is written. -/
theorem writeHeard_own {c : Claim} {me : StationNo} (foreign : c.station ≠ me) (claims : List Claim) :
    ((writeHeard c claims).1.filter (·.station = me)).Perm (claims.filter (·.station = me)) := by
  have inserted (cs : List Claim) : ((insertClaim c cs).filter (·.station = me)).Perm (cs.filter (·.station = me)) := by
    have := (insertClaim_perm c cs).filter (·.station = me)
    rwa [List.filter_cons_of_neg (by simpa using foreign)] at this
  unfold writeHeard
  dsimp only
  split
  · split
    · exact List.Perm.of_eq (filter_own_map foreign claims)
    · refine (inserted _).trans (List.Perm.of_eq ?_)
      rw [List.filter_filter]
      refine List.filter_congr fun d _ => ?_
      by_cases own : d.station = me
      · simp [own, Ne.symm foreign]
      · simp [own]
  · split
    · rename_i d e rest entries
      refine (inserted _).trans (List.Perm.of_eq (filter_own_erase ?_))
      have of_entry {x : Claim} (mem : x ∈ d :: e :: rest) : x.station ≠ me := by
        rw [← entries] at mem
        have station : x.station = c.station := by simpa using (List.mem_filter.mp mem).2
        rw [station]
        exact foreign
      split
      · exact of_entry (by simp)
      · exact of_entry (by simp)
    · exact inserted _

/-! How the parts of the agreement are kept. -/

section Pumps

variable {s t : State}

/-- Slots and units stay, and the station's own entries stay up to order. -/
theorem State.pumps.claims (h : s.pumps) {cs : List Claim}
    (same : (cs.filter (·.station = s.stationNo)).Perm (s.spl.claims.filter (·.station = s.stationNo))) :
    (s.putClaims cs).pumps :=
  ⟨fun k => eq_of_perm_short (State.ownUnits_of_station (s := s) (t := s.putClaims cs) rfl same k) (h.own k),
    h.apart, h.idle, h.units⟩

/-- A slot passes to another state that holds an entry as the old one did. -/
theorem State.pumps.slot (h : s.pumps) {k : SlotNo} {x : Slot} (unit : x.unit = s.spl.slots[k].unit)
    (entry : x.state.holdsEntry = (s.slotState k).holdsEntry) (used : s.slotState k ≠ .free)
    (before : x.state.before = true → (s.slotState k).before = true) : (s.putSlot k x).pumps := by
  have units (j : SlotNo) : (s.putSlot k x).spl.slots[j].unit = s.spl.slots[j].unit := by
    rw [State.putSlot_get]
    split
    · rename_i same
      rw [unit, same]
    · rfl
  have states (j : SlotNo) : (s.putSlot k x).slotState j = if j = k then x.state else s.slotState j := by
    rw [State.slotState, State.putSlot_get]
    split <;> rfl
  have free (j : SlotNo) (h : (s.putSlot k x).slotState j ≠ .free) : s.slotState j ≠ .free := by
    rw [states] at h
    split at h
    · rename_i same
      exact same ▸ used
    · exact h
  refine ⟨fun j => ?_, fun i j other usedI usedJ => ?_, fun j n early serves => ?_, h.units⟩
  · have own := h.own j
    rw [units, states]
    split
    · rename_i same
      subst same
      rw [entry]
      exact own
    · exact own
  · rw [units, units]
    exact h.apart i j other (free i usedI) (free j usedJ)
  · rw [units] at serves
    refine h.idle j n ?_ serves
    rw [states] at early
    split at early
    · rename_i same
      subst same
      exact before early
    · exact early

/-- A unit is written, idle still where a slot that serves it has not handed a start over. -/
theorem State.pumps.unit (h : s.pumps) {n : UnitNo} {x : SwUnit} (sound : x.sound)
    (idle : ∀ k : SlotNo, (s.slotState k).before = true → s.spl.slots[k].unit = n → x.state = .idle) : (s.putUnit n x).pumps := by
  refine ⟨h.own, h.apart, fun k m early serves => ?_, State.putUnit_holds sound h.units⟩
  rw [State.putUnit_get]
  split
  · rename_i same
    exact idle k early (serves.trans same)
  · exact h.idle k m early serves

/-- A unit that is not idle serves no slot that waits. -/
theorem State.pumps.unit_of_busy (h : s.pumps) {n : UnitNo} {x : SwUnit} (sound : x.sound) (busy : s.units[n].state ≠ .idle) :
    (s.putUnit n x).pumps :=
  h.unit sound fun k early same => absurd (h.idle k n early same) busy

/-! Units. -/

/-- A unit whose queue holds only stop entries, in STOPPING. -/
theorem SwUnit.sound_of_stopping {u : SwUnit} (state : u.state = .stopping) (stops : ∀ e ∈ u.queue, e.origin = .stop) :
    u.sound where
  idle h := by rw [state] at h; cases h
  running h := by rw [state] at h; cases h
  starting h := by rw [state] at h; cases h
  stopping _ := stops
  present e mem start := by rw [stops e mem] at start; cases start
  tripped _ := by rw [state]; exact nofun

theorem SwUnit.sound.busy {u : SwUnit} (h : u.sound) {e : Edge} (mem : e ∈ u.queue) : u.state ≠ .idle ∧ u.state ≠ .running := by
  constructor <;> intro state
  · rw [h.idle state] at mem
    cases mem
  · rw [h.running state] at mem
    cases mem

/-- A queued start entry shows the unit in STARTING. -/
theorem SwUnit.sound.starting_of_start {u : SwUnit} (h : u.sound) {e : Edge} (mem : e ∈ u.queue) (start : e.origin = .start) :
    u.state = .starting := by
  obtain ⟨notIdle, notRunning⟩ := h.busy mem
  cases state : u.state with
  | idle => exact absurd state notIdle
  | running => exact absurd state notRunning
  | starting => rfl
  | stopping => rw [h.stopping state e mem] at start; cases start

/-- Every entry is of the present start where a start entry is queued. -/
theorem SwUnit.sound.withoutStart_queue {u : SwUnit} (h : u.sound) {e : Edge} (mem : e ∈ u.queue) (start : e.origin = .start) :
    (u.withoutStart e).queue = [] := by
  have starting := h.starting_of_start mem start
  refine List.filter_eq_nil_iff.mpr fun d mem' => ?_
  have origin := h.starting starting d mem'
  simp [origin, h.present d mem' origin, h.present e mem start]

/-- Nothing is left of a unit's queue in STARTING or RUNNING without its start entries. -/
theorem SwUnit.sound.discardStart_queue {u : SwUnit} (h : u.sound) (active : u.state = .starting ∨ u.state = .running) :
    (u.discardWhere fun e => e.origin = .start).queue = [] := by
  refine List.filter_eq_nil_iff.mpr fun d mem => ?_
  rcases active with starting | running
  · simp [h.starting starting d mem]
  · rw [h.running running] at mem
    cases mem

theorem SwUnit.sound.stopped {u : SwUnit} (h : u.sound) (active : u.state = .starting ∨ u.state = .running) (time : LineTime) :
    (u.stopped time).sound := by
  refine SwUnit.sound_of_stopping rfl fun e mem => ?_
  rcases (SwUnit.writes_writeEdges _ .stop time).mem mem with ⟨d, old, -⟩ | ⟨origin, -⟩
  · rw [h.discardStart_queue active] at old
    cases old
  · exact origin

theorem SwUnit.sound.abort {u : SwUnit} (h : u.sound) {e : Edge} (mem : e ∈ u.queue) (start : e.origin = .start)
    (now : LineTime) : ({ (u.withoutStart e).writeAbort now with state := .stopping } : SwUnit).sound := by
  refine SwUnit.sound_of_stopping rfl fun d mem' => ?_
  rcases (SwUnit.writes_writeAbort _ now).mem mem' with ⟨d, old, -⟩ | ⟨origin, -⟩
  · rw [h.withoutStart_queue mem start] at old
    cases old
  · exact origin

theorem SwUnit.sound.miss {u : SwUnit} (h : u.sound) {e : Edge} (mem : e ∈ u.queue) (start : e.origin = .start) :
    ({ u.withoutStart e with state := .idle } : SwUnit).sound where
  idle _ := h.withoutStart_queue mem start
  running := nofun
  starting := nofun
  stopping := nofun
  present d mem' := by
    rw [show ({ u.withoutStart e with state := .idle } : SwUnit).queue = [] from h.withoutStart_queue mem start] at mem'
    cases mem'
  tripped _ := nofun

theorem SwUnit.sound.afterOutput {u : SwUnit} (h : u.sound) {e : Edge} (mem : e ∈ u.queue) : (u.afterOutput e).sound := by
  obtain ⟨notIdle, notRunning⟩ := h.busy mem
  have sub {d : Edge} (left : d ∈ (u.afterOutput e).queue) : d ∈ u.queue := List.mem_of_mem_erase left
  have state : (u.afterOutput e).state
      = if (u.queue.erase e).isEmpty then match e.origin with | .start => .running | .stop => .idle else u.state := rfl
  by_cases last : (u.queue.erase e).isEmpty
  · have empty : (u.afterOutput e).queue = [] := List.isEmpty_iff.mp last
    rw [if_pos last] at state
    refine ⟨fun _ => empty, fun _ => empty, fun _ d left => ?_, fun _ d left => ?_, fun d left => ?_, fun _ => ?_⟩
    · rw [empty] at left; cases left
    · rw [empty] at left; cases left
    · rw [empty] at left; cases left
    · rw [state]
      split <;> exact nofun
  · rw [if_neg last] at state
    exact ⟨fun eq => absurd (state ▸ eq) notIdle, fun eq => absurd (state ▸ eq) notRunning,
      fun eq d left => h.starting (state ▸ eq) d (sub left), fun eq d left => h.stopping (state ▸ eq) d (sub left),
      fun d left => h.present d (sub left), fun flag => state ▸ h.tripped flag⟩

theorem SwUnit.sound.flagged {u : SwUnit} (h : u.sound) (calm : u.state ≠ .starting) (onset : UnitOnset) :
    (u.flagged onset).sound := { h with tripped := fun _ => calm }

theorem SwUnit.sound.starts {u : SwUnit} (h : u.sound) (idle : u.state = .idle) (flag : u.tripFlag = false) (time : LineTime) :
    (u.starts time).sound := by
  have writes := SwUnit.writes_writeEdges { u with startNumber := u.startNumber + 1, edgeMark := false } .start time
  have written {e : Edge} (mem : e ∈ (u.starts time).queue) : e.origin = .start ∧ e.startNumber = (u.starts time).startNumber := by
    rcases writes.mem mem with ⟨d, old, -⟩ | ⟨origin, number⟩
    · rw [show ({ u with startNumber := u.startNumber + 1, edgeMark := false } : SwUnit).queue = [] from h.idle idle] at old
      cases old
    · exact ⟨origin, number.trans writes.same.startNumber.symm⟩
  refine ⟨nofun, nofun, fun _ e mem => (written mem).1, nofun, fun e mem _ => (written mem).2, fun tripped => ?_⟩
  rw [show (u.starts time).tripFlag = u.tripFlag from writes.same.tripFlag, flag] at tripped
  cases tripped

/-! The moves. -/

theorem SlotState.isWaiting.facts {x : SlotState} (h : x.isWaiting = true) :
    x.holdsEntry = false ∧ x ≠ .free ∧ x.before = true := by
  cases x with
  | waiting => exact ⟨rfl, nofun, rfl⟩
  | _ => cases h

theorem SlotState.unsettled.facts {x : SlotState} (h : x.unsettled = true) :
    x.holdsEntry = true ∧ x ≠ .free ∧ x.before = true := by
  cases x with
  | announced | settling => exact ⟨rfl, nofun, rfl⟩
  | _ => cases h

/-- Slots after one of them has been written. -/
theorem State.slotState_putSlot (s : State) (k j : SlotNo) (x : Slot) :
    (s.putSlot k x).slotState j = if j = k then x.state else s.slotState j := by
  rw [State.slotState, State.putSlot_get]
  split <;> rfl

theorem mem_slotNumbers : ∀ k : SlotNo, k ∈ slotNumbers := by decide

theorem State.pumps.occupy (h : s.pumps) {k : SlotNo} {x : Slot} (before : s.slotState k = .free)
    (after : x.state.isWaiting = true) (idle : s.units[x.unit].state = .idle) (unserved : s.servingSlot? x.unit = none) :
    (s.putSlot k x).pumps := by
  obtain ⟨noEntry, -, -⟩ := SlotState.isWaiting.facts after
  have others (j : SlotNo) (used : s.slotState j ≠ .free) : s.spl.slots[j].unit ≠ x.unit := by
    have mem : j ∈ slotNumbers := mem_slotNumbers j
    have serves := List.find?_eq_none.mp unserved j mem
    intro same
    exact serves (by simpa [used] using same)
  refine ⟨fun j => ?_, fun i j other usedI usedJ => ?_, fun j n early serves => ?_, h.units⟩
  · have own := h.own j
    rw [State.slotState_putSlot, State.putSlot_get]
    split
    · rename_i same
      subst same
      rw [before] at own
      rw [noEntry]
      exact own
    · exact own
  · rw [State.slotState_putSlot] at usedI usedJ
    rw [State.putSlot_get, State.putSlot_get]
    split <;> split
    · rename_i left right
      exact absurd (left.trans right.symm) other
    · rename_i right
      rw [if_neg right] at usedJ
      exact (others j usedJ).symm
    · rename_i left right
      rw [if_neg left] at usedI
      exact others i usedI
    · rename_i left right
      rw [if_neg left] at usedI
      rw [if_neg right] at usedJ
      exact h.apart i j other usedI usedJ
  · rw [State.slotState_putSlot] at early
    rw [State.putSlot_get] at serves
    split at serves
    · exact serves ▸ idle
    · rename_i other
      rw [if_neg other] at early
      exact h.idle j n early serves

theorem State.isOwnEntry_ownClaim (s : State) (j k : SlotNo) (start : LineTime) (length : Nat) :
    s.isOwnEntry j (s.ownClaim k start length) = decide (j = k) := by
  simp only [State.isOwnEntry, State.ownClaim, decide_true, Bool.true_and, decide_eq_decide, SlotNo.inTag, Fin.mk.injEq]
  exact ⟨fun h => (Fin.ext h).symm, fun h => by rw [h]⟩

theorem State.pumps.announce (h : s.pumps) {k : SlotNo} (waiting : (s.slotState k).isWaiting = true) (start : LineTime)
    (length : Nat) : ((s.putClaims (insertClaim (s.ownClaim k start length) s.spl.claims)).slotTo k .announced).pumps := by
  obtain ⟨noEntry, used, early⟩ := SlotState.isWaiting.facts waiting
  have unit : ({ s.spl.slots[k] with state := .announced } : Slot).unit = s.spl.slots[k].unit := rfl
  have states (j : SlotNo) : ((s.putClaims (insertClaim (s.ownClaim k start length) s.spl.claims)).slotTo k .announced).slotState j
      = if j = k then .announced else s.slotState j := State.slotState_putSlot _ k j _
  have units (j : SlotNo) :
      ((s.putClaims (insertClaim (s.ownClaim k start length) s.spl.claims)).slotTo k .announced).spl.slots[j].unit
        = s.spl.slots[j].unit := by
    rw [State.slotTo, State.putSlot_get]
    split
    · rename_i same
      rw [same]
      rfl
    · rfl
  have free (j : SlotNo) (h : (if j = k then SlotState.announced else s.slotState j) ≠ .free) : s.slotState j ≠ .free := by
    split at h
    · rename_i same
      exact same ▸ used
    · exact h
  refine ⟨fun j => ?_, fun i j other usedI usedJ => ?_, fun j n waits serves => ?_, h.units⟩
  · have entries : ((insertClaim (s.ownClaim k start length) s.spl.claims).filter (s.isOwnEntry j)).Perm
        ((s.ownClaim k start length :: s.spl.claims).filter (s.isOwnEntry j)) := (insertClaim_perm _ _).filter _
    have own := h.own j
    rw [units, states]
    refine eq_of_perm_short (entries.map Claim.unit) ?_
    by_cases same : j = k
    · subst same
      rw [noEntry] at own
      have none : s.spl.claims.filter (s.isOwnEntry j) = [] := List.map_eq_nil_iff.mp own
      rw [List.filter_cons_of_pos (by simp [State.isOwnEntry_ownClaim]), none, if_pos rfl]
      rfl
    · rw [List.filter_cons_of_neg (by simp [State.isOwnEntry_ownClaim, same]), if_neg same]
      exact own
  · rw [states] at usedI usedJ
    rw [units, units]
    exact h.apart i j other (free i usedI) (free j usedJ)
  · rw [states] at waits
    rw [units] at serves
    refine h.idle j n ?_ serves
    split at waits
    · rename_i same
      exact same ▸ early
    · exact waits

/-- No entry is the own entry of two slots. -/
theorem State.isOwnEntry_other {s : State} {j k : SlotNo} (other : j ≠ k) {c : Claim} (own : s.isOwnEntry j c = true) :
    s.isOwnEntry k c = false := by
  refine Bool.eq_false_iff.mpr fun also => ?_
  have slotJ := of_decide_eq_true (Bool.and_eq_true_iff.mp own).2
  have slotK := of_decide_eq_true (Bool.and_eq_true_iff.mp also).2
  exact other (Fin.ext (Fin.mk.inj (slotJ.symm.trans slotK)))

theorem State.ownUnits_removeOwn (s : State) (k j : SlotNo) :
    (s.removeOwn k).ownUnits j = if j = k then [] else s.ownUnits j := by
  have entries : (s.removeOwn k).ownUnits j
      = ((s.spl.claims.filter (!s.isOwnEntry k ·)).filter (s.isOwnEntry j)).map Claim.unit := rfl
  rw [entries, List.filter_filter]
  split
  · rename_i same
    subst same
    rw [List.map_eq_nil_iff, List.filter_eq_nil_iff]
    simp
  · rename_i other
    refine congrArg (List.map Claim.unit) (List.filter_congr fun c _ => ?_)
    cases own : s.isOwnEntry j c with
    | false => rfl
    | true => rw [State.isOwnEntry_other other own]; rfl

theorem State.pumps.leave (h : s.pumps) {k : SlotNo} {x : Slot}
    (goal : x.state = .free ∨ x.state.isWaiting = true ∧ x.unit = s.spl.slots[k].unit ∧ (s.slotState k).unsettled = true) :
    ((s.removeOwn k).putSlot k x).pumps := by
  have noEntry : x.state.holdsEntry = false := by
    rcases goal with free | ⟨waiting, -⟩
    · rw [free]; rfl
    · exact (SlotState.isWaiting.facts waiting).1
  have states (j : SlotNo) : ((s.removeOwn k).putSlot k x).slotState j = if j = k then x.state else s.slotState j :=
    State.slotState_putSlot _ k j x
  have slots (j : SlotNo) : ((s.removeOwn k).putSlot k x).spl.slots[j] = if j = k then x else s.spl.slots[j] :=
    State.putSlot_get (s.removeOwn k) k j x
  have used (j : SlotNo) (h : (if j = k then x.state else s.slotState j) ≠ .free) :
      s.slotState j ≠ .free ∧ (if j = k then x else s.spl.slots[j]).unit = s.spl.slots[j].unit := by
    by_cases same : j = k
    · subst same
      rw [if_pos rfl] at h
      obtain ⟨-, unit, unsettled⟩ := goal.resolve_left h
      rw [if_pos rfl]
      exact ⟨(SlotState.unsettled.facts unsettled).2.1, unit⟩
    · rw [if_neg same] at h ⊢
      exact ⟨h, rfl⟩
  refine ⟨fun j => ?_, fun i j other usedI usedJ => ?_, fun j n early serves => ?_, h.units⟩
  · have own := h.own j
    have removed := s.ownUnits_removeOwn k j
    rw [states, slots]
    by_cases same : j = k
    · rw [if_pos same] at removed
      rw [if_pos same, noEntry]
      exact removed
    · rw [if_neg same] at removed
      rw [if_neg same, if_neg same]
      exact removed.trans own
  · rw [states] at usedI usedJ
    rw [slots, slots, (used i usedI).2, (used j usedJ).2]
    exact h.apart i j other (used i usedI).1 (used j usedJ).1
  · rw [states] at early
    have notFree : (if j = k then x.state else s.slotState j) ≠ .free := fun free => by rw [free] at early; cases early
    rw [slots, (used j notFree).2] at serves
    refine h.idle j n ?_ serves
    by_cases same : j = k
    · subst same
      rw [if_pos rfl] at notFree
      exact (SlotState.unsettled.facts (goal.resolve_left notFree).2.2).2.2
    · rwa [if_neg same] at early

theorem State.pumps.expire (h : s.pumps) : s.expireOnly.1.pumps := by
  obtain ⟨-, -, -, claims⟩ := s.expireOnly_spl
  have keeps := (PlanMove.expire s).keeps
  have unitsEq : s.expireOnly.1.units = s.units := s.expireOnly_frame.2.2.2.2.2.2.2.2.2.2.2.2.2.2.2.2.2.1
  let gone (k : SlotNo) := (s.spl.claims.filter (·.expiredAt s.now)).any (s.isOwnEntry k)
  have slots (k : SlotNo) : s.expireOnly.1.spl.slots[k] = if gone k then {} else s.spl.slots[k] := s.expireOnly_slot k
  have states (k : SlotNo) : s.expireOnly.1.slotState k = if gone k then .free else s.slotState k := by
    rw [State.slotState, slots]
    split <;> rfl
  have entries (k : SlotNo) : s.expireOnly.1.ownUnits k
      = ((s.spl.claims.filter (s.isOwnEntry k)).filter (!·.expiredAt s.now)).map Claim.unit := by
    have own : s.expireOnly.1.isOwnEntry k = s.isOwnEntry k := by
      funext c
      rw [State.isOwnEntry, keeps.stationNo, State.isOwnEntry]
    rw [State.ownUnits, own, claims, List.filter_filter, List.filter_filter]
    exact congrArg _ (List.filter_congr fun c _ => Bool.and_comm _ _)
  have used (k : SlotNo) (h : s.expireOnly.1.slotState k ≠ .free) : gone k = false := by
    rw [states] at h
    by_contra expired
    rw [if_pos (by simpa using expired)] at h
    exact h rfl
  refine ⟨fun k => ?_, fun i j other usedI usedJ => ?_, fun k n early serves => ?_, by rw [unitsEq]; exact h.units⟩
  · have own := h.own k
    rw [entries, states, slots]
    cases expired : gone k with
    | true =>
      obtain ⟨c, mem, isOwn⟩ := List.any_eq_true.mp expired
      obtain ⟨mem, past⟩ := List.mem_filter.mp mem
      have among : c ∈ s.spl.claims.filter (s.isOwnEntry k) := List.mem_filter.mpr ⟨mem, isOwn⟩
      simp only [if_true, SlotState.holdsEntry, Bool.false_eq_true, if_false]
      rw [List.map_eq_nil_iff, List.filter_eq_nil_iff]
      intro d also
      have single : s.spl.claims.filter (s.isOwnEntry k) = [c] := by
        have length := congrArg List.length own
        rw [State.ownUnits, List.length_map] at length
        split at length
        · obtain ⟨e, only⟩ := List.length_eq_one_iff.mp length
          rw [only] at among ⊢
          rw [List.mem_singleton.mp among]
        · rw [List.length_eq_zero_iff.mp length] at among
          cases among
      rw [single] at also
      rw [List.mem_singleton.mp also]
      simpa using past
    | false =>
      have alive : (s.spl.claims.filter (s.isOwnEntry k)).filter (!·.expiredAt s.now) = s.spl.claims.filter (s.isOwnEntry k) := by
        refine List.filter_eq_self.mpr fun c mem => ?_
        obtain ⟨mem, isOwn⟩ := List.mem_filter.mp mem
        by_contra past
        exact List.any_eq_false.mp expired c (List.mem_filter.mpr ⟨mem, by simpa using past⟩) isOwn
      rw [alive]
      exact own
  · have notI := used i usedI
    have notJ := used j usedJ
    rw [states, notI] at usedI
    rw [states, notJ] at usedJ
    rw [slots, slots, notI, notJ]
    exact h.apart i j other usedI usedJ
  · have notFree : s.expireOnly.1.slotState k ≠ .free := fun free => by rw [free] at early; cases early
    have not := used k notFree
    rw [states, not] at early
    rw [slots, not] at serves
    rw [unitsEq]
    exact h.idle k n early serves

theorem PlanMove.pumps (move : PlanMove s t) (h : s.pumps) : t.pumps := by
  cases move with
  | note | queue | draw => exact { h with }
  | wait k x before after unit =>
    obtain ⟨noEntry, used, early⟩ := SlotState.isWaiting.facts before
    exact h.slot unit ((SlotState.isWaiting.facts after).1.trans noEntry.symm) used fun _ => early
  | occupy k x _ before after idle unserved => exact h.occupy before after idle unserved
  | announce k start length waiting _ _ => exact h.announce waiting start length
  | leave k x goal => exact h.leave goal
  | expire => exact h.expire
  | settle k c announced =>
    refine h.slot rfl ?_ ?_ fun _ => ?_
    all_goals rw [announced]
    · rfl
    · exact nofun
    · rfl
  | started k firm =>
    refine h.slot rfl ?_ ?_ nofun
    all_goals rw [firm]
    · rfl
    · exact nofun
  | hear c foreign => exact h.claims (writeHeard_own foreign _)
  | forget cs _ own => exact h.claims (List.Perm.of_eq own)
  | output n e mem =>
    exact State.pumps.unit_of_busy (s := s.putOutput e.output e.high) { h with } ((h.units n).afterOutput mem)
      ((h.units n).busy mem).1
  | late n count late => exact h.unit { h.units n with } fun k early same => h.idle k n early same
  | abort n e mem start => exact h.unit_of_busy ((h.units n).abort mem start s.now) ((h.units n).busy mem).1
  | miss n e mem start => exact h.unit_of_busy ((h.units n).miss mem start) ((h.units n).busy mem).1
  | stop n time active =>
    refine h.unit_of_busy ((h.units n).stopped active time) ?_
    rcases active with eq | eq <;> rw [eq] <;> exact nofun

theorem TripMove.pumps (move : TripMove s t) (h : s.pumps) : t.pumps := by
  cases move with
  | calm move =>
    cases move with
    | plan move => exact move.pumps h
    | plant move => cases move <;> exact { h with }
  | view | hold => exact { h with }
  | flag n onset calm => exact h.unit ((h.units n).flagged calm onset) fun k early same => h.idle k n early same
  | shed n onset time active =>
    have sound : ((s.units[n].flagged onset).stopped time).sound := by
      refine SwUnit.sound_of_stopping rfl fun e mem => ?_
      rcases (SwUnit.writes_writeEdges _ .stop time).mem mem with ⟨d, old, -⟩ | ⟨origin, -⟩
      · have none : ((s.units[n].flagged onset).discardWhere fun e => e.origin = .start).queue = [] :=
          (h.units n).discardStart_queue active
        rw [none] at old
        cases old
      · exact origin
    refine h.unit_of_busy sound ?_
    rcases active with eq | eq <;> rw [eq] <;> exact nofun
  | unflag n =>
    exact h.unit { h.units n with tripped := nofun } fun k early same => h.idle k n early same

theorem SetUp.pumps (move : SetUp s t) (h : s.pumps) : t.pumps := by
  cases move with
  | unit n config => exact h.unit { h.units n with } fun k early same => h.idle k n early same
  | edge n place d _ => exact h.unit { h.units n with } fun k early same => h.idle k n early same
  | _ => exact { h with }

/-! The settle end. -/

theorem State.settleDue_settling {k : SlotNo} (due : s.settleDue k = true) : (s.slotState k).unsettled = true := by
  unfold State.settleDue at due
  split at due
  · rename_i state
    rw [state]
    rfl
  all_goals cases due

/-- The own entry of a slot names the slot's unit. -/
theorem State.pumps.ownEntry_unit (h : s.pumps) {k : SlotNo} {own : Claim} (entry : s.ownEntry? k = some own) :
    own.unit = s.spl.slots[k].unit := by
  have mem : own ∈ s.spl.claims.filter (s.isOwnEntry k) :=
    List.mem_filter.mpr ⟨List.mem_of_find?_eq_some entry, List.find?_some entry⟩
  have unit : own.unit ∈ s.ownUnits k := List.mem_map_of_mem mem
  rw [h.own k] at unit
  split at unit
  · exact List.mem_singleton.mp unit
  · cases unit

theorem State.confirmed_ownUnits (s : State) (k j : SlotNo) : (s.confirmed k).ownUnits j = s.ownUnits j := by
  have same (c : Claim) : s.isOwnEntry j (if s.isOwnEntry k c then { c with firm := true } else c) = s.isOwnEntry j c := by
    split <;> rfl
  show ((s.spl.claims.map _).filter (s.isOwnEntry j)).map Claim.unit = _
  rw [List.filter_map, List.map_map, State.ownUnits]
  refine congrArg₂ List.map (funext fun c => ?_) (List.filter_congr fun c _ => same c)
  dsimp only [Function.comp_apply]
  split <;> rfl

theorem State.pumps.confirmed (h : s.pumps) {k : SlotNo} (due : s.settleDue k = true) : (s.confirmed k).pumps := by
  obtain ⟨entry, used, -⟩ := SlotState.unsettled.facts (State.settleDue_settling due)
  have firm := h.slot (k := k) (x := { s.spl.slots[k] with state := .firm }) rfl entry.symm used nofun
  exact ⟨fun j => (s.confirmed_ownUnits k j).trans (firm.own j), firm.apart, firm.idle, firm.units⟩

theorem Confirms.pumps {u : State} {k : SlotNo} {own : Claim} (confirms : Confirms s u k own) (h : s.pumps) : u.pumps := by
  have unit := h.ownEntry_unit confirms.entry
  obtain ⟨-, used, early⟩ := SlotState.unsettled.facts (State.settleDue_settling confirms.due)
  have idle : s.units[own.unit].state = .idle := h.idle k _ early unit.symm
  rcases confirms.result with ⟨-, rfl⟩ | ⟨flag, rfl⟩
  · exact h.confirmed confirms.due
  · refine (h.confirmed confirms.due).unit ((h.units own.unit).starts idle flag own.start) fun j waits same => ?_
    have states : (s.confirmed k).slotState j = if j = k then .firm else s.slotState j := State.slotState_putSlot _ k j _
    rw [states] at waits
    by_cases eq : j = k
    · rw [if_pos eq] at waits
      cases waits
    · rw [if_neg eq] at waits
      rw [s.confirmed_slot, if_neg eq] at same
      refine absurd (same.trans unit) (h.apart j k eq (fun free => ?_) used)
      rw [free] at waits
      cases waits

theorem pumps_keptByMoves : KeptByMoves State.pumps where
  act := act_keeps (fun _ _ move h => move.pumps h) (fun _ _ _ _ h => { h with }) (fun _ _ _ _ h => { h with })
    (fun _ _ _ h => { h with }) (fun _ _ h => { h with })
  setUp _ _ move h := move.pumps h
  reset straps cause armed pending freeNext := pumpsAgree_iff.mp (PumpsAgree.afterReset straps cause armed pending freeNext)
  firm _ _ _ _ confirms h := confirms.pumps h

/-- Settles O55: every move keeps slots, entries and units in agreement, each by the condition under which it is made. -/
theorem everyStepKeepsPumpsAgree : Obligations.EveryStepKeepsPumpsAgree := by
  intro s t h run
  exact pumpsAgree_iff.mpr (pumps_keptByMoves.step (pumpsAgree_iff.mp h) run)

end Pumps

end Sys2Proof.Machine
end

section
/-! PROOFS. Every step keeps the claim table's form, and the edge counts with the queues. -/

namespace Sys2Proof.Machine

/-! The claim table (R147, R149, R156). -/

section Claims

variable {s t : State}

/-- The claim table of a station: one entry of each station and slot, two entries of a station at most, the own ones of its two
slots and apart from each other. -/
structure claimsSound (me : StationNo) (cs : List Claim) : Prop where
  distinct : (cs.map fun c => (c.station, c.slot)).Nodup
  two : ∀ n : StationNo, (cs.filter (·.station = n)).length ≤ 2
  slots : ∀ c ∈ cs, c.station = me → c.slot.val < 2
  own : ∀ c ∈ cs, ∀ d ∈ cs, c.station = me → d.station = me → c.slot ≠ d.slot → c.overlaps d = false

theorem claimTableSound_iff : ClaimTableSound s ↔ claimsSound s.stationNo s.spl.claims :=
  ⟨fun h => ⟨h.distinct, h.two, h.slots, h.own⟩, fun h => ⟨h.distinct, h.two, h.slots, h.own⟩⟩

theorem claimsSound.sublist {me : StationNo} {cs ds : List Claim} (h : claimsSound me cs) (sub : ds.Sublist cs) :
    claimsSound me ds where
  distinct := h.distinct.sublist (sub.map _)
  two n := (sub.filter _).length_le.trans (h.two n)
  slots c mem := h.slots c (sub.subset mem)
  own c memC d memD := h.own c (sub.subset memC) d (sub.subset memD)

theorem claimsSound.perm {me : StationNo} {cs ds : List Claim} (h : claimsSound me cs) (perm : ds.Perm cs) :
    claimsSound me ds where
  distinct := (perm.map _).nodup_iff.mpr h.distinct
  two n := by rw [(perm.filter _).length_eq]; exact h.two n
  slots c mem := h.slots c (perm.mem_iff.mp mem)
  own c memC d memD := h.own c (perm.mem_iff.mp memC) d (perm.mem_iff.mp memD)

/-- Entries with the same keys and windows, one for one. -/
theorem claimsSound.map {me : StationNo} {cs : List Claim} (h : claimsSound me cs) (f : Claim → Claim)
    (key : ∀ c ∈ cs, (f c).station = c.station ∧ (f c).slot = c.slot)
    (window : ∀ c ∈ cs, c.station = me → (f c).start = c.start ∧ (f c).length = c.length) : claimsSound me (cs.map f) where
  distinct := by
    have keys : cs.map ((fun c => (c.station, c.slot)) ∘ f) = cs.map fun c => (c.station, c.slot) :=
      List.map_congr_left fun c mem => Prod.ext (key c mem).1 (key c mem).2
    rw [List.map_map, keys]
    exact h.distinct
  two n := by
    have stations : cs.filter ((fun c => decide (c.station = n)) ∘ f) = cs.filter (·.station = n) :=
      List.filter_congr fun c mem => by rw [Function.comp_apply, (key c mem).1]
    rw [List.filter_map, List.length_map, stations]
    exact h.two n
  slots c mem own := by
    obtain ⟨d, old, rfl⟩ := List.mem_map.mp mem
    rw [(key d old).1] at own
    rw [(key d old).2]
    exact h.slots d old own
  own c memC d memD ownC ownD other := by
    obtain ⟨a, memA, rfl⟩ := List.mem_map.mp memC
    obtain ⟨b, memB, rfl⟩ := List.mem_map.mp memD
    rw [(key a memA).1] at ownC
    rw [(key b memB).1] at ownD
    rw [(key a memA).2, (key b memB).2] at other
    rw [Claim.overlaps, (window a memA ownC).1, (window a memA ownC).2, (window b memB ownD).1, (window b memB ownD).2]
    exact h.own a memA b memB ownC ownD other

theorem windowsOverlap_comm (a b : LineTime) (la lb : Nat) : windowsOverlap a la b lb = windowsOverlap b lb a la := by
  unfold windowsOverlap
  rw [Bool.and_comm (0 < la : Bool), Bool.or_comm]

theorem Claim.overlaps_comm (c d : Claim) : c.overlaps d = d.overlaps c := windowsOverlap_comm ..

/-- A station has two entries at most where its entries are of two slots, one of each. -/
theorem two_of_slots {cs : List Claim} {me : StationNo} (distinct : (cs.map fun c => (c.station, c.slot)).Nodup)
    (slots : ∀ c ∈ cs, c.station = me → c.slot.val < 2) : (cs.filter (·.station = me)).length ≤ 2 := by
  have own := distinct.sublist ((List.filter_sublist (l := cs) (p := (·.station = me))).map _)
  have slotsNodup : ((cs.filter (·.station = me)).map Claim.slot).Nodup := by
    refine (List.nodup_map_iff_inj_on (List.Nodup.of_map _ own)).mpr fun c memC d memD same => ?_
    have stationC : c.station = me := by simpa using (List.mem_filter.mp memC).2
    have stationD : d.station = me := by simpa using (List.mem_filter.mp memD).2
    exact List.inj_on_of_nodup_map own memC memD (Prod.ext (stationC.trans stationD.symm) same)
  have sub : (cs.filter (·.station = me)).map Claim.slot ⊆ [0, 1] := by
    intro k mem
    obtain ⟨c, among, rfl⟩ := List.mem_map.mp mem
    obtain ⟨among, station⟩ := List.mem_filter.mp among
    have low := slots c among (by simpa using station)
    revert low
    generalize c.slot = k
    revert k
    decide
  have count := (slotsNodup.subperm sub).length_le
  rwa [List.length_map] at count

/-- Another station's entry comes in, where that station has room for it. -/
theorem claimsSound.cons_foreign {me : StationNo} {cs : List Claim} (h : claimsSound me cs) {c : Claim}
    (foreign : c.station ≠ me) (fresh : ∀ d ∈ cs, d.station = c.station → d.slot ≠ c.slot)
    (room : (cs.filter (·.station = c.station)).length ≤ 1) : claimsSound me (c :: cs) where
  distinct := by
    refine List.nodup_cons.mpr ⟨fun mem => ?_, h.distinct⟩
    obtain ⟨d, mem, same⟩ := List.mem_map.mp mem
    exact fresh d mem (Prod.mk.inj same).1 (Prod.mk.inj same).2
  two n := by
    rw [List.filter_cons]
    split
    · rename_i station
      rw [← of_decide_eq_true station, List.length_cons]
      exact Nat.succ_le_succ room
    · exact h.two n
  slots d mem own := by
    rcases List.mem_cons.mp mem with rfl | old
    · exact absurd own foreign
    · exact h.slots d old own
  own d memD e memE ownD ownE other := by
    rcases List.mem_cons.mp memD with rfl | oldD
    · exact absurd ownD foreign
    · rcases List.mem_cons.mp memE with rfl | oldE
      · exact absurd ownE foreign
      · exact h.own d oldD e oldE ownD ownE other

/-- An own entry comes in, of a slot that has none, overlapping no entry. -/
theorem claimsSound.cons_own {me : StationNo} {cs : List Claim} (h : claimsSound me cs) {c : Claim}
    (isOwn : c.station = me) (slot : c.slot.val < 2) (fresh : ∀ d ∈ cs, d.station = me → d.slot ≠ c.slot)
    (free : ∀ d ∈ cs, c.overlaps d = false) : claimsSound me (c :: cs) := by
  have distinct : ((c :: cs).map fun c => (c.station, c.slot)).Nodup := by
    refine List.nodup_cons.mpr ⟨fun mem => ?_, h.distinct⟩
    obtain ⟨d, mem, same⟩ := List.mem_map.mp mem
    exact fresh d mem ((Prod.mk.inj same).1.trans isOwn) (Prod.mk.inj same).2
  have slots : ∀ d ∈ c :: cs, d.station = me → d.slot.val < 2 := List.forall_mem_cons.mpr ⟨fun _ => slot, h.slots⟩
  refine ⟨distinct, fun n => ?_, slots, fun d memD e memE ownD ownE other => ?_⟩
  · by_cases own : n = me
    · subst own
      exact two_of_slots distinct slots
    · rw [List.filter_cons_of_neg (by simpa [isOwn] using Ne.symm own)]
      exact h.two n
  · rcases List.mem_cons.mp memD with rfl | oldD
    · rcases List.mem_cons.mp memE with rfl | oldE
      · exact absurd rfl other
      · exact free e oldE
    · rcases List.mem_cons.mp memE with rfl | oldE
      · rw [Claim.overlaps_comm]
        exact free d oldD
      · exact h.own d oldD e oldE ownD ownE other

/-- The table after another station's claim has been written (R149). -/
theorem claimsSound_writeHeard {me : StationNo} {cs : List Claim} (h : claimsSound me cs) {c : Claim}
    (foreign : c.station ≠ me) : claimsSound me (writeHeard c cs).1 := by
  unfold writeHeard
  dsimp only
  split
  · rename_i old found
    have same := List.find?_some found
    split
    · refine h.map _ (fun d _ => ?_) fun d _ own => ?_
      · split
        · rename_i key
          exact ⟨(of_decide_eq_true (Bool.and_eq_true_iff.mp key).1).symm, (of_decide_eq_true (Bool.and_eq_true_iff.mp key).2).symm⟩
        · exact ⟨rfl, rfl⟩
      · split
        · rename_i key
          exact absurd ((of_decide_eq_true (Bool.and_eq_true_iff.mp key).1).symm.trans own) foreign
        · exact ⟨rfl, rfl⟩
    · refine (claimsSound.cons_foreign (h.sublist List.filter_sublist) foreign (fun d mem station slot => ?_) ?_).perm
        (insertClaim_perm _ _)
      · have other := (List.mem_filter.mp mem).2
        simp [station, slot] at other
      · have memOld : old ∈ cs.filter (·.station = c.station) := List.mem_filter.mpr
          ⟨List.mem_of_find?_eq_some found, (Bool.and_eq_true_iff.mp same).1⟩
        have two := h.two c.station
        have shorter : ((cs.filter (·.station = c.station)).filter fun d =>
            !(decide (d.station = c.station) && decide (d.slot = c.slot))).length
              < (cs.filter (·.station = c.station)).length := by
          refine List.length_filter_lt_length_iff_exists.mpr ⟨old, memOld, ?_⟩
          rw [same]
          exact nofun
        rw [List.filter_filter] at shorter
        rw [List.filter_filter, List.filter_congr fun d _ => Bool.and_comm _ _]
        omega
  · rename_i none
    have fresh : ∀ d ∈ cs, d.station = c.station → d.slot ≠ c.slot := fun d mem station slot =>
      List.find?_eq_none.mp none d mem (by simp [station, slot])
    split
    · rename_i d e rest entries
      have goes (out : Claim) (mem : out ∈ d :: e :: rest) : claimsSound me (insertClaim c (cs.erase out)) := by
        refine (claimsSound.cons_foreign (h.sublist List.erase_sublist) foreign
          (fun x mem => fresh x (List.mem_of_mem_erase mem)) ?_).perm (insertClaim_perm _ _)
        rw [← entries] at mem
        have two := h.two c.station
        obtain ⟨mem, station⟩ := List.mem_filter.mp mem
        have parts := ((List.perm_cons_erase mem).filter (·.station = c.station)).length_eq
        rw [List.filter_cons, if_pos station, List.length_cons] at parts
        omega
      split
      · exact goes e (by simp)
      · exact goes d (by simp)
    · rename_i few
      refine (h.cons_foreign foreign fresh ?_).perm (insertClaim_perm _ _)
      by_contra many
      match short : cs.filter (·.station = c.station) with
      | [] | [_] => simp [short] at many
      | d :: e :: rest => exact (few d e rest short).elim

/-- The own claim of a slot without an entry, announced where no entry overlaps it (R156). -/
theorem State.claimsSound_announce (pumps : s.pumps) (h : claimsSound s.stationNo s.spl.claims) {k : SlotNo} {start : LineTime}
    {length : Nat} (waiting : (s.slotState k).isWaiting = true) (free : s.candidateFree length start = true) :
    claimsSound s.stationNo (insertClaim (s.ownClaim k start length) s.spl.claims) := by
  have own := pumps.own k
  rw [(SlotState.isWaiting.facts waiting).1] at own
  have none : s.spl.claims.filter (s.isOwnEntry k) = [] := List.map_eq_nil_iff.mp own
  have clear := (Bool.and_eq_true_iff.mp free).1
  refine (h.cons_own rfl k.isLt (fun d mem station slot => ?_) fun d mem => ?_).perm (insertClaim_perm _ _)
  · exact List.filter_eq_nil_iff.mp none d mem (by simp [State.isOwnEntry, station, slot, State.ownClaim])
  · have apart := List.any_eq_false.mp (by simpa using clear) d mem
    exact Bool.eq_false_iff.mpr apart

theorem PlanMove.claimsSound (move : PlanMove s t) (pumps : s.pumps) (h : Machine.claimsSound s.stationNo s.spl.claims) :
    Machine.claimsSound t.stationNo t.spl.claims := by
  cases move with
  | announce k start length waiting _ free => exact State.claimsSound_announce pumps h waiting free
  | leave k x _ => exact h.sublist List.filter_sublist
  | expire =>
    rw [s.expireOnly_spl.2.2.2, s.expireOnly_frame.2.1]
    exact h.sublist List.filter_sublist
  | hear c foreign => exact claimsSound_writeHeard h foreign
  | forget cs sub _ => exact h.sublist sub
  | _ => exact h

theorem TripMove.claimsSound (move : TripMove s t) (pumps : s.pumps) (h : Machine.claimsSound s.stationNo s.spl.claims) :
    Machine.claimsSound t.stationNo t.spl.claims := by
  cases move with
  | calm move =>
    cases move with
    | plan move => exact move.claimsSound pumps h
    | plant move => cases move <;> exact h
  | _ => exact h

theorem State.claimsSound_confirmed (h : claimsSound s.stationNo s.spl.claims) (k : SlotNo) :
    claimsSound s.stationNo (s.confirmed k).spl.claims := by
  refine h.map _ (fun c _ => ?_) fun c _ _ => ?_
  all_goals split <;> exact ⟨rfl, rfl⟩

theorem claims_keptByMoves : KeptByMoves fun s => s.pumps ∧ claimsSound s.stationNo s.spl.claims where
  act := act_keeps (fun _ _ move h => ⟨move.pumps h.1, move.claimsSound h.1 h.2⟩) (fun _ _ _ _ h => ⟨{ h.1 with }, h.2⟩)
    (fun _ _ _ _ h => ⟨{ h.1 with }, h.2⟩) (fun _ _ _ h => ⟨{ h.1 with }, h.2⟩) (fun _ _ h => ⟨{ h.1 with }, h.2⟩)
  setUp _ _ move h := ⟨move.pumps h.1, by cases move <;> exact h.2⟩
  reset straps cause armed pending freeNext := ⟨pumps_keptByMoves.reset .., claimTableSound_iff.mp (ClaimTableSound.afterReset ..)⟩
  firm s u k own confirms h := by
    refine ⟨confirms.pumps h.1, ?_⟩
    rcases confirms.result with ⟨-, rfl⟩ | ⟨-, rfl⟩ <;> exact State.claimsSound_confirmed h.2 k

/-- Settles O56: entries leave, come from other stations within their two, or are own ones of a slot without one where no entry
overlaps. -/
theorem everyStepKeepsClaimTable : Obligations.EveryStepKeepsClaimTable := by
  intro s t agree sound run
  exact claimTableSound_iff.mpr
    (claims_keptByMoves.step (P := fun s => s.pumps ∧ claimsSound s.stationNo s.spl.claims)
      ⟨pumpsAgree_iff.mp agree, claimTableSound_iff.mp sound⟩ run).2

end Claims

/-! The edge counts and the queues (R178). -/

section Queues

variable {s t : State}

/-- The number of a unit's enabled definitions. -/
def SwUnit.enabledDefs (u : SwUnit) : Nat := (defNumbers.filter fun d => u.defs[d].enabled).length

/-- A unit whose counts agree with its queue, which holds no more entries than definitions are enabled. -/
structure SwUnit.counted (u : SwUnit) : Prop where
  counts : u.written - u.outputCount - u.discarded = BitVec.ofNat 16 u.queue.length
  fits : u.queue.length ≤ u.enabledDefs

theorem SwUnit.length_defsOf_le (u : SwUnit) (origin : Origin) : (u.defsOf origin).length ≤ u.enabledDefs :=
  (List.monotone_filter_right _ fun _ h => (Bool.and_eq_true_iff.mp h).1).length_le

theorem SwUnit.counts_discardWhere {u : SwUnit} (h : u.written - u.outputCount - u.discarded = BitVec.ofNat 16 u.queue.length)
    (test : Edge → Bool) :
    (u.discardWhere test).written - (u.discardWhere test).outputCount - (u.discardWhere test).discarded
      = BitVec.ofNat 16 (u.discardWhere test).queue.length := by
  have parts : u.queue.length = (u.queue.filter (!test ·)).length + (u.queue.filter test).length := by
    rw [Nat.add_comm]
    simpa using (List.filter_append_perm test u.queue).length_eq.symm
  rw [parts, BitVec.ofNat_add] at h
  show u.written - u.outputCount - (u.discarded + BitVec.ofNat 16 (u.queue.filter test).length)
    = BitVec.ofNat 16 (u.queue.filter (!test ·)).length
  bv_omega

theorem SwUnit.writes.counts {u v : SwUnit} {origin : Origin} {due : DefNo → LineTime} {ds : List DefNo}
    (writes : u.writes v origin due ds) (h : u.written - u.outputCount - u.discarded = BitVec.ofNat 16 u.queue.length) :
    v.written - v.outputCount - v.discarded = BitVec.ofNat 16 v.queue.length := by
  rw [writes.length, writes.written, writes.same.outputCount, writes.same.discarded, BitVec.ofNat_add, ← h]
  bv_omega

/-- A unit that discards its whole queue and writes the entries of one origin. -/
theorem SwUnit.counted.rewritten {u v : SwUnit} (h : u.counted) {test : Edge → Bool} {origin : Origin}
    {due : DefNo → LineTime} {ds : List DefNo} (emptied : (u.discardWhere test).queue = [])
    (writes : (u.discardWhere test).writes v origin due ds) (few : ds.length ≤ u.enabledDefs) (state : UnitState) :
    ({ v with state := state } : SwUnit).counted := by
  have length : v.queue.length = ds.length := by rw [writes.length, emptied]; rfl
  refine ⟨writes.counts (SwUnit.counts_discardWhere h.counts test), ?_⟩
  have defs : ({ v with state := state } : SwUnit).enabledDefs = u.enabledDefs := by
    rw [SwUnit.enabledDefs, show ({ v with state := state } : SwUnit).defs = u.defs from writes.same.defs]
    rfl
  rw [defs]
  exact length.trans_le few

theorem SwUnit.counted.stopped {u : SwUnit} (h : u.counted) (sound : u.sound)
    (active : u.state = .starting ∨ u.state = .running) (time : LineTime) : (u.stopped time).counted :=
  h.rewritten (sound.discardStart_queue active) (SwUnit.writes_writeEdges _ .stop time) (u.length_defsOf_le .stop) .stopping

theorem SwUnit.counted.abort {u : SwUnit} (h : u.counted) (sound : u.sound) {e : Edge} (mem : e ∈ u.queue)
    (start : e.origin = .start) (now : LineTime) :
    ({ (u.withoutStart e).writeAbort now with state := .stopping } : SwUnit).counted :=
  h.rewritten (sound.withoutStart_queue mem start) (SwUnit.writes_writeAbort _ now) (u.length_defsOf_le .stop) .stopping

theorem SwUnit.counted.miss {u : SwUnit} (h : u.counted) (e : Edge) :
    ({ u.withoutStart e with state := .idle } : SwUnit).counted :=
  ⟨SwUnit.counts_discardWhere h.counts _, (List.length_filter_le _ _).trans h.fits⟩

theorem SwUnit.counted.afterOutput {u : SwUnit} (h : u.counted) {e : Edge} (mem : e ∈ u.queue) : (u.afterOutput e).counted := by
  have counts := h.counts
  have length : (u.queue.erase e).length + 1 = u.queue.length := by
    have positive := List.length_pos_of_mem mem
    rw [List.length_erase_of_mem mem]
    omega
  rw [← length, BitVec.ofNat_add] at counts
  refine ⟨?_, (List.length_erase_le ..).trans h.fits⟩
  show u.written - (u.outputCount + 1) - u.discarded = BitVec.ofNat 16 (u.queue.erase e).length
  bv_omega

theorem SwUnit.counted.starts {u : SwUnit} (h : u.counted) (sound : u.sound) (idle : u.state = .idle) (time : LineTime) :
    (u.starts time).counted := by
  have empty := sound.idle idle
  have writes := SwUnit.writes_writeEdges { u with startNumber := u.startNumber + 1, edgeMark := false } .start time
  have length : (u.starts time).queue.length = (u.defsOf .start).length := by
    have old : ({ u with startNumber := u.startNumber + 1, edgeMark := false } : SwUnit).queue.length = 0 :=
      List.length_eq_zero_iff.mpr empty
    have length := writes.length
    rw [old] at length
    exact length
  refine ⟨writes.counts h.counts, ?_⟩
  rw [length, SwUnit.enabledDefs, show (u.starts time).defs = u.defs from writes.same.defs]
  exact u.length_defsOf_le .start

/-- Every unit's counts agree with its queue. -/
def State.counted (s : State) : Prop := ∀ n : UnitNo, s.units[n].counted

theorem State.counted_iff : s.counted ↔ EdgeCountsAgree s ∧ QueuesFit s :=
  ⟨fun h => ⟨fun n => (h n).counts, fun n => (h n).fits⟩, fun h n => ⟨h.1 n, h.2 n⟩⟩

theorem State.counted.putUnit (h : s.counted) {n : UnitNo} {x : SwUnit} (new : x.counted) : (s.putUnit n x).counted :=
  State.putUnit_holds new h

theorem PlanMove.counted (move : PlanMove s t) (pumps : s.pumps) (h : s.counted) : t.counted := by
  cases move with
  | output n e mem => exact State.counted.putUnit (s := s.putOutput e.output e.high) h ((h n).afterOutput mem)
  | late n count late => exact h.putUnit ⟨(h n).counts, (h n).fits⟩
  | abort n e mem start => exact h.putUnit ((h n).abort (pumps.units n) mem start s.now)
  | miss n e _ _ => exact h.putUnit ((h n).miss e)
  | stop n time active => exact h.putUnit ((h n).stopped (pumps.units n) active time)
  | expire =>
    rw [State.counted, s.expireOnly_frame.2.2.2.2.2.2.2.2.2.2.2.2.2.2.2.2.2.1]
    exact h
  | _ => exact h

theorem TripMove.counted (move : TripMove s t) (pumps : s.pumps) (h : s.counted) : t.counted := by
  cases move with
  | calm move =>
    cases move with
    | plan move => exact move.counted pumps h
    | plant move => cases move <;> exact h
  | view | hold => exact h
  | flag n onset _ => exact h.putUnit ⟨(h n).counts, (h n).fits⟩
  | shed n onset time active =>
    have flagged : (s.units[n].flagged onset).counted := ⟨(h n).counts, (h n).fits⟩
    exact h.putUnit (flagged.rewritten ((pumps.units n).discardStart_queue active) (SwUnit.writes_writeEdges _ .stop time)
      (SwUnit.length_defsOf_le (s.units[n].flagged onset) .stop) .stopping)
  | unflag n => exact h.putUnit ⟨(h n).counts, (h n).fits⟩

/-- The agreements that the edge queues rest on. -/
structure State.queuesSound (s : State) : Prop where
  pumps : s.pumps
  rest : s.svp.station ≠ .run → s.allAtRest
  counted : s.counted

theorem SetUp.counted (move : SetUp s t) (rest : s.svp.station ≠ .run → s.allAtRest) (h : s.counted) : t.counted := by
  cases move with
  | unit n config => exact h.putUnit ⟨(h n).counts, (h n).fits⟩
  | edge n place d before =>
    have empty : s.units[n].queue = [] := ((rest before).units n).2
    refine h.putUnit ⟨(h n).counts, ?_⟩
    rw [show ({ s.units[n] with defs := s.units[n].defs.set place d } : SwUnit).queue = [] from empty]
    exact Nat.zero_le _
  | _ => exact h

theorem Confirms.counted {u : State} {k : SlotNo} {own : Claim} (confirms : Confirms s u k own) (pumps : s.pumps)
    (h : s.counted) : u.counted := by
  have early := (SlotState.unsettled.facts (State.settleDue_settling confirms.due)).2.2
  have idle : s.units[own.unit].state = .idle := pumps.idle k _ early (pumps.ownEntry_unit confirms.entry).symm
  rcases confirms.result with ⟨-, rfl⟩ | ⟨-, rfl⟩
  · exact h
  · exact State.counted.putUnit (s := s.confirmed k) h ((h own.unit).starts (pumps.units own.unit) idle own.start)

theorem queues_keptByMoves : KeptByMoves State.queuesSound where
  act s t move h := ⟨pumps_keptByMoves.act s t move h.pumps, restOutsideRun_keptByMoves.act s t move h.rest,
    (act_keeps (P := fun s => s.pumps ∧ s.counted) (fun _ _ move h => ⟨move.pumps h.1, move.counted h.1 h.2⟩)
      (fun _ _ _ _ h => ⟨{ h.1 with }, h.2⟩) (fun _ _ _ _ h => ⟨{ h.1 with }, h.2⟩) (fun _ _ _ h => ⟨{ h.1 with }, h.2⟩)
      (fun _ _ h => ⟨{ h.1 with }, h.2⟩) s t move ⟨h.pumps, h.counted⟩).2⟩
  setUp s t move h := ⟨move.pumps h.pumps, restOutsideRun_keptByMoves.setUp s t move h.rest, move.counted h.rest h.counted⟩
  reset straps cause armed pending freeNext := ⟨pumps_keptByMoves.reset ..,
    restOutsideRun_keptByMoves.reset straps cause armed pending freeNext,
    State.counted_iff.mpr ⟨EdgeCountsAgree.afterReset straps cause armed pending freeNext,
      QueuesFit.afterReset straps cause armed pending freeNext⟩⟩
  firm s u k own confirms h := ⟨confirms.pumps h.pumps, restOutsideRun_keptByMoves.firm s u k own confirms h.rest,
    confirms.counted h.pumps h.counted⟩

/-- Settles O57: a unit that writes entries has emptied its queue, and each entry that leaves is counted as output or
discarded. -/
theorem everyStepKeepsEdgeQueues : Obligations.EveryStepKeepsEdgeQueues := by
  intro s t agree rest counts fit run
  exact State.counted_iff.mp (queues_keptByMoves.step ⟨pumpsAgree_iff.mp agree, restOutsideRun_iff.mp rest,
    State.counted_iff.mpr ⟨counts, fit⟩⟩ run).counted

end Queues

end Sys2Proof.Machine
end

section
/-! PROOFS. Every step keeps the trip view, the two holds and the trip flags in agreement with what they follow. -/

namespace Sys2Proof.Machine

section Holds

variable {s t : State}

/-! What follows the trip view. -/

/-- Under the trip hold, a slot is neither ANNOUNCED, SETTLING nor FIRM (R167). -/
def State.heldSlot (s : State) (k : SlotNo) : Prop :=
  s.spl.tripHold = true ∧ (s.slotState k).unsettled = false ∧ s.slotState k ≠ .firm

/-- The trip hold and every trip flag follow the trip view, and the hold holds the slots (R166, R167, R190, R192). -/
structure State.followsView (s : State) : Prop where
  hold : s.spl.tripHold = s.tsv.viewActive
  flags : ∀ n : UnitNo, s.units[n].tripFlag = s.tsv.viewActive
  held : s.spl.tripHold = true → ∀ k : SlotNo, (s.slotState k).unsettled = false ∧ s.slotState k ≠ .firm

theorem tripViewAgrees_iff : TripViewAgrees s ↔ s.viewSettled ∧ s.followsView :=
  ⟨fun h => ⟨h.view, h.hold, h.flags, h.held⟩, fun ⟨view, h⟩ => ⟨view, h.hold, h.flags, h.held⟩⟩

theorem State.heldSlot.putSlot {j k : SlotNo} {x : Slot} (h : s.heldSlot k) (unsettled : x.state.unsettled = false)
    (notFirm : x.state ≠ .firm) : (s.putSlot j x).heldSlot k := by
  refine ⟨h.1, ?_, ?_⟩
  all_goals
    rw [State.slotState_putSlot]
    split
  · exact unsettled
  · exact h.2.1
  · exact notFirm
  · exact h.2.2

theorem SlotState.isWaiting.held {x : SlotState} (h : x.isWaiting = true) : x.unsettled = false ∧ x ≠ .firm := by
  cases x with
  | waiting => exact ⟨rfl, nofun⟩
  | _ => cases h

/-- No move of the planner announces or confirms a claim under the trip hold. -/
theorem PlanMove.heldSlot (move : PlanMove s t) {k : SlotNo} (h : s.heldSlot k) : t.heldSlot k := by
  cases move with
  | wait j x _ after _ =>
    obtain ⟨unsettled, notFirm⟩ := SlotState.isWaiting.held after
    exact h.putSlot unsettled notFirm
  | occupy j x _ _ after _ _ =>
    obtain ⟨unsettled, notFirm⟩ := SlotState.isWaiting.held after
    exact h.putSlot unsettled notFirm
  | announce j _ _ _ clear _ => rw [h.1] at clear; cases clear
  | leave j x goal =>
    have after : x.state.unsettled = false ∧ x.state ≠ .firm := by
      rcases goal with free | ⟨waiting, -⟩
      · rw [free]
        exact ⟨rfl, nofun⟩
      · exact SlotState.isWaiting.held waiting
    exact State.heldSlot.putSlot (s := s.removeOwn j) h after.1 after.2
  | expire =>
    have slot := s.expireOnly_slot k
    refine ⟨s.expireOnly_spl.2.1.trans h.1, ?_⟩
    rw [State.slotState, slot]
    split
    · exact ⟨rfl, nofun⟩
    · exact h.2
  | settle j c announced =>
    by_cases same : k = j
    · have unsettled := h.2.1
      rw [same, announced] at unsettled
      cases unsettled
    · refine ⟨h.1, ?_⟩
      rw [State.slotTo, State.slotState_putSlot, if_neg same]
      exact h.2
  | started j _ => exact h.putSlot rfl nofun
  | _ => exact h

/-- A move of the planner or a unit leaves every trip flag. -/
theorem PlanMove.tripFlag (move : PlanMove s t) (n : UnitNo) : t.units[n].tripFlag = s.units[n].tripFlag := by
  have put {m : UnitNo} {x : SwUnit} (same : x.tripFlag = s.units[m].tripFlag) :
      (s.putUnit m x).units[n].tripFlag = s.units[n].tripFlag :=
    Vector.get_congr_put SwUnit.tripFlag (fun _ => s.putUnit_get m _ x) same n
  cases move with
  | output m e _ => exact put (m := m) rfl
  | late m count late => exact put rfl
  | abort m e _ _ => exact put (s.units[m].sameBase_abort e s.now).tripFlag
  | miss m e _ _ => exact put (s.units[m].sameBase_miss e).tripFlag
  | stop m time _ => exact put (s.units[m].sameBase_stopped time).tripFlag
  | expire => rw [s.expireOnly_frame.2.2.2.2.2.2.2.2.2.2.2.2.2.2.2.2.2.1]
  | _ => rfl

theorem PlanMove.followsView (move : PlanMove s t) (h : s.followsView) : t.followsView where
  hold := by rw [move.keeps.tripHold, move.keeps.tsv]; exact h.hold
  flags n := by rw [move.tripFlag, move.keeps.tsv]; exact h.flags n
  held on k := by
    rw [move.keeps.tripHold] at on
    exact (move.heldSlot ⟨on, h.held on k⟩).2

theorem PlantMove.followsView (move : PlantMove s t) (h : s.followsView) : t.followsView := by
  cases move with
  | turbine x _ _ _ view => exact ⟨h.hold.trans view.symm, fun n => (h.flags n).trans view.symm, h.held⟩
  | _ => exact { h with }

/-! An onset of the trip view (R104, R166, R167, R190). -/

theorem OnsetMove.heldSlot (move : OnsetMove s t) {k : SlotNo} (h : s.heldSlot k) : t.heldSlot k := by
  cases move with
  | plan move => exact move.heldSlot h
  | hold => exact ⟨rfl, h.2⟩
  | _ => exact h

theorem State.putUnit_set {n m : UnitNo} {x : SwUnit} (h : s.units[n].tripFlag = true) (set : x.tripFlag = true) :
    (s.putUnit m x).units[n].tripFlag = true := by
  rw [State.putUnit_get]
  split
  · exact set
  · exact h

theorem OnsetMove.tripFlag (move : OnsetMove s t) {n : UnitNo} (h : s.units[n].tripFlag = true) :
    t.units[n].tripFlag = true := by
  cases move with
  | plan move => exact (move.tripFlag n).trans h
  | hold => exact h
  | flag m onset _ => exact State.putUnit_set h rfl
  | shed m onset time _ => exact State.putUnit_set h (SwUnit.sameBase_stopped _ time).tripFlag

/-- A slot is held once the trip hold has treated it (R167). -/
theorem State.tripHoldSlot_held {k : SlotNo} (on : s.spl.tripHold = true) : (s.tripHoldSlot k).1.heldSlot k := by
  have freed (u : State) (hold : u.spl.tripHold = true) (x : Slot) (after : x.state.unsettled = false ∧ x.state ≠ .firm) :
      (u.putSlot k x).heldSlot k := by
    refine ⟨hold, ?_⟩
    rw [State.slotState_putSlot, if_pos rfl]
    exact after
  unfold State.tripHoldSlot
  split
  · exact freed _ on _ ⟨rfl, nofun⟩
  · exact freed _ on _ ⟨rfl, nofun⟩
  · exact freed _ on _ ⟨rfl, nofun⟩
  all_goals
    rename_i state
    refine ⟨on, ?_⟩
    rw [state]
    exact ⟨rfl, nofun⟩

theorem Plans.heldSlot (plans : Plans s t) {k : SlotNo} (h : s.heldSlot k) : t.heldSlot k :=
  keeps_of_moves (P := fun s => s.heldSlot k) (fun _ _ move => move.heldSlot) plans h

/-- The onset holds every slot once it has reached the planner (R166, R167). -/
theorem State.tripHoldOnset_held (s : State) (k : SlotNo) : s.tripHoldOnset.heldSlot k := by
  have first : ((s.putSpl { s.spl with tripHold := true }).tripHoldSlot 0).1.heldSlot 0 := State.tripHoldSlot_held rfl
  have second : (((s.putSpl { s.spl with tripHold := true }).tripHoldSlot 0).1.tripHoldSlot 1).1.heldSlot 1 :=
    State.tripHoldSlot_held first.1
  have rest := State.replanIf_plans (((s.putSpl { s.spl with tripHold := true }).tripHoldSlot 0).1.tripHoldSlot 1).1
  match k with
  | 0 => exact Plans.heldSlot (.trans (State.tripHoldSlot_plans _ 1) (rest _)) first
  | 1 => exact Plans.heldSlot (rest _) second

theorem Plans.tripFlag (plans : Plans s t) {n : UnitNo} (h : s.units[n].tripFlag = true) : t.units[n].tripFlag = true :=
  keeps_of_moves (P := fun s => s.units[n].tripFlag = true) (fun _ _ move h => (move.tripFlag n).trans h) plans h

/-- The onset sets a unit's trip flag once it has reached the unit (R190). -/
theorem State.shed_tripFlag (s : State) (n : UnitNo) (time : LineTime) (rank : Nat) :
    (s.shed n time rank).units[n].tripFlag = true := by
  have set (x : SwUnit) (flag : x.tripFlag = true) : (s.putUnit n x).units[n].tripFlag = true := by
    rw [State.putUnit_get, if_pos rfl]
    exact flag
  have stops (x : SwUnit) (flag : x.tripFlag = true) (active : x.state = .starting ∨ x.state = .running) (due : LineTime) :
      ((s.putUnit n x).writeStop n due).units[n].tripFlag = true := by
    refine Plans.tripFlag (State.writeStop_plans _ ?_ due) (set x flag)
    rw [State.putUnit_get, if_pos rfl]
    exact active
  have marks := set (s.units[n].flagged ⟨rank, time⟩) rfl
  unfold State.shed
  dsimp only
  split
  · exact marks
  · exact marks
  · rename_i starting
    exact stops (s.units[n].flagged ⟨rank, time⟩) rfl (.inl starting) _
  · rename_i running
    split
    · exact stops (s.units[n].flagged ⟨rank, time⟩) rfl (.inr running) _
    · exact marks

/-- What one turn of a fold establishes and every turn keeps holds after the fold. -/
theorem foldl_establishes {α : Type} {f : State → α → State} {Q : State → Prop} {a : α} (establishes : ∀ s, Q (f s a))
    (keeps : ∀ s x, Q s → Q (f s x)) {xs : List α} (mem : a ∈ xs) (s : State) : Q (xs.foldl f s) := by
  induction xs generalizing s with
  | nil => cases mem
  | cons x xs ih =>
    rw [List.foldl_cons]
    rcases List.mem_cons.mp mem with rfl | later
    · exact foldl_holds f Q (fun s x h => keeps s x h) xs _ (establishes s)
    · exact ih later _

theorem State.tripOnset_followsView (s : State) (e : ViewEvent) (order : List Dependant) : (s.tripOnset e order).followsView := by
  have receives (d : Dependant) (mem : d ∈ onsetDependants) : d ∈ deliveryOrder onsetDependants order :=
    (mem_deliveryOrder _ _ d).mpr mem
  have held (k : SlotNo) : (s.tripOnset e order).heldSlot k := by
    rw [State.tripOnset_eq]
    exact foldl_establishes (a := Dependant.planner) (Q := fun s => s.heldSlot k) (fun s => s.tripHoldOnset_held k)
      (fun s d h => keeps_of_moves (P := fun s => s.heldSlot k) (fun _ _ (move : OnsetMove _ _) => move.heldSlot)
        (s.deliverOnset_onsets _ _ d) h)
      (receives .planner (by decide)) _
  have flag (n : UnitNo) : (s.tripOnset e order).units[n].tripFlag = true := by
    rw [State.tripOnset_eq]
    refine foldl_establishes (a := Dependant.unit n) (Q := fun s => s.units[n].tripFlag = true) (fun s => s.shed_tripFlag n _ _)
      (fun s d h => keeps_of_moves (P := fun s => s.units[n].tripFlag = true) (fun _ _ (move : OnsetMove _ _) => move.tripFlag)
        (s.deliverOnset_onsets _ _ d) h) (receives _ ?_) _
    revert n
    decide
  have active : (s.tripOnset e order).tsv.viewActive = true := by rw [State.tripOnset_tsv]
  exact ⟨(held 0).1.trans active.symm, fun n => (flag n).trans active.symm, fun _ k => (held k).2⟩

/-- The release clears the hold and every trip flag (R105, R167, R192). -/
theorem State.tripRelease_followsView (s : State) : s.tripRelease.followsView := by
  have hold : s.tripRelease.spl.tripHold = false := by
    rw [State.tripRelease, foldl_keeps State.clearTripFlag (fun s => s.spl.tripHold) (fun _ _ => rfl)]
    exact keeps_of_moves (P := fun s => s.spl.tripHold = false) (fun _ _ move h => move.keeps.tripHold.trans h)
      (State.replan_plans _) rfl
  have flag (n : UnitNo) : s.tripRelease.units[n].tripFlag = false := by
    refine foldl_establishes (a := n) (Q := fun s => s.units[n].tripFlag = false) (fun s => ?_) (fun s m h => ?_) ?_ _
    · rw [State.clearTripFlag, State.putUnit_get, if_pos rfl]
    · rw [State.clearTripFlag, State.putUnit_get]
      split
      · rfl
      · exact h
    · revert n
      decide
  have quiet : s.tripRelease.tsv.viewActive = false := by rw [State.tripRelease_tsv]
  exact ⟨hold.trans quiet.symm, fun n => (flag n).trans quiet.symm, fun on => by rw [hold] at on; cases on⟩

theorem State.followsView.evaluateView (h : s.followsView) (e : ViewEvent) (order : List Dependant) :
    (s.evaluateView e order).followsView := by
  unfold State.evaluateView
  split
  · exact h
  · split
    · exact s.tripOnset_followsView e order
    · exact s.tripRelease_followsView

theorem State.followsView.evaluateScalingHold (h : s.followsView) : s.evaluateScalingHold.followsView := by
  refine keeps_of_moves (fun u v move h => ?_) s.evaluateScalingHold_holds h
  cases move with
  | plan move => exact move.followsView h
  | hold on => exact { h with }

theorem RawAct.followsView (move : RawAct s t) (h : s.followsView) : t.followsView := by
  cases move with
  | calm move =>
    cases move with
    | plan move => exact move.followsView h
    | plant move => exact move.followsView h
  | latch x _ _ view => exact ⟨h.hold.trans view.symm, fun n => (h.flags n).trans view.symm, h.held⟩
  | view e order => exact h.evaluateView e order
  | hold => exact h.evaluateScalingHold
  | _ => exact { h with }

/-! The trip view and the scaling hold themselves. -/

theorem Calm.viewSettled (move : Calm s t) (h : s.viewSettled) : t.viewSettled := by
  cases move with
  | plan move =>
    have keeps := move.keeps
    exact h.congr keeps.stationNo (by rw [keeps.tsv]) (by rw [keeps.tsv]) fun n => by rw [keeps.peers]
  | plant move =>
    cases move with
    | turbine x _ _ latch view => exact h.congr rfl latch view fun _ => rfl
    | timer n timer stray => exact h.putPeer rfl
    | _ => exact h

theorem Calm.holdSettled (move : Calm s t) (h : s.holdSettled) : t.holdSettled := by
  cases move with
  | plan move =>
    have keeps := move.keeps
    exact h.congr keeps.stationNo (by rw [keeps.scw]) keeps.scalingHold fun n => by rw [keeps.peers]; exact ⟨rfl, rfl, rfl⟩
  | plant move =>
    cases move with
    | timer n timer stray =>
      have row := fun m => s.putPeer_get n m { s.peers[n] with silence := timer, strayCount := stray }
      exact h.congr rfl rfl rfl fun m => ⟨Vector.get_congr_put PeerRow.heard row rfl m,
        Vector.get_congr_put PeerRow.silent row rfl m, Vector.get_congr_put PeerRow.scaling row rfl m⟩
    | watch x _ state => exact h.congr rfl state rfl fun _ => ⟨rfl, rfl, rfl⟩
    | _ => exact { h with }

theorem Act.viewSettled (act : Act s t) (h : s.viewSettled) : t.viewSettled := by
  cases act with
  | calm move => exact move.viewSettled h
  | whole _ view _ => exact view h

theorem Act.holdSettled (act : Act s t) (h : s.holdSettled) : t.holdSettled := by
  cases act with
  | calm move => exact move.holdSettled h
  | whole _ _ hold => exact hold h

theorem holdSettled_keptByMoves : KeptByMoves State.holdSettled where
  act _ _ act h := act.holdSettled h
  setUp _ _ move h := by cases move <;> exact { h with }
  reset straps cause armed pending freeNext :=
    have h := ScalingHoldAgrees.afterReset straps cause armed pending freeNext
    ⟨h.hold, h.unheard⟩
  firm s u k own confirms h := by rcases confirms.result with ⟨-, rfl⟩ | ⟨-, rfl⟩ <;> exact { h with }

theorem Confirms.followsView {u : State} {k : SlotNo} {own : Claim} (confirms : Confirms s u k own) (h : s.followsView) :
    u.followsView := by
  have off (v : State) (hold : v.spl.tripHold = s.spl.tripHold) (on : v.spl.tripHold = true) : False := by
    rw [hold, confirms.tripHold] at on
    cases on
  rcases confirms.result with ⟨-, rfl⟩ | ⟨-, rfl⟩
  · exact ⟨h.hold, h.flags, fun on => (off (s.confirmed k) rfl on).elim⟩
  · refine ⟨h.hold, fun n => ?_, fun on => (off ((s.confirmed k).putUnit own.unit _) rfl on).elim⟩
    refine (Vector.get_congr_put SwUnit.tripFlag (fun _ => (s.confirmed k).putUnit_get own.unit _ _) ?_ n).trans (h.flags n)
    exact (SwUnit.writes_writeEdges _ .start own.start).same.tripFlag

theorem tripView_keptByMoves : KeptByMoves fun s => s.viewSettled ∧ s.followsView where
  act s t act h := ⟨act.viewSettled h.1, act_keeps_of_raw (fun _ _ move => move.followsView) s t act h.2⟩
  setUp s t move h := by
    cases move with
    | unit n config =>
      exact ⟨h.1, { h.2 with flags := fun m => (Vector.get_congr_put SwUnit.tripFlag (fun _ => s.putUnit_get n _ _)
        (x := { s.units[n] with config := config }) rfl m).trans (h.2.flags m) }⟩
    | edge n place d _ =>
      exact ⟨h.1, { h.2 with flags := fun m => (Vector.get_congr_put SwUnit.tripFlag (fun _ => s.putUnit_get n _ _)
        (x := { s.units[n] with defs := s.units[n].defs.set place d }) rfl m).trans (h.2.flags m) }⟩
    | _ => exact ⟨h.1, { h.2 with }⟩
  reset straps cause armed pending freeNext := tripViewAgrees_iff.mp (TripViewAgrees.afterReset ..)
  firm s u k own confirms h := by
    refine ⟨?_, confirms.followsView h.2⟩
    rcases confirms.result with ⟨-, rfl⟩ | ⟨-, rfl⟩ <;> exact h.1

/-- Settles O58: where a row, the latch or the scaling state changes, the command evaluates the view and the hold again, and
an onset or a release brings the planner's hold and every unit's trip flag along. -/
theorem everyStepKeepsHolds : Obligations.EveryStepKeepsHolds := by
  intro s t run
  refine ⟨fun _ h => tripViewAgrees_iff.mpr (tripView_keptByMoves.step (tripViewAgrees_iff.mp h) run), fun h => ?_⟩
  have settled := holdSettled_keptByMoves.step ⟨h.hold, h.unheard⟩ run
  exact ⟨settled.hold, settled.unheard⟩

end Holds

end Sys2Proof.Machine
end

section
/-! PROOFS. The attention set and the transmit queue: what a raise, a clear and a queued notice do to them. -/

namespace Sys2Proof.Machine

/-! A raised cause (R207, R208). -/

/-- A raise of a cause that does not stand in the set enters its record last. -/
theorem raiseIn_of_new {cause : Cause} {set : List Pending} (new : ∀ p ∈ set, p.cause ≠ cause) (reason : Option ClaimFailure)
    (t : LineTime) :
    raiseIn cause reason t set = set ++ [{ cause := cause, first := t, raises := 1, reason := reason }] := by
  induction set with
  | nil => rfl
  | cons p ps ih =>
    obtain ⟨other, rest⟩ := List.forall_mem_cons.mp new
    rw [raiseIn, if_neg other, ih rest, List.cons_append]

/-- A raise of a pending cause counts it where it stands. -/
theorem raiseIn_of_pending {before after : List Pending} {p : Pending} (others : ∀ q ∈ before, q.cause ≠ p.cause)
    (reason : Option ClaimFailure) (t : LineTime) :
    raiseIn p.cause reason t (before ++ p :: after) =
      before ++ { p with raises := min 255 (p.raises + 1), reason := reason } :: after := by
  induction before with
  | nil => exact if_pos rfl
  | cons q qs ih =>
    obtain ⟨other, rest⟩ := List.forall_mem_cons.mp others
    rw [List.cons_append, raiseIn, if_neg other, ih rest, List.cons_append]

/-- A raise adds its cause to what the attention output follows, and nothing else. -/
theorem any_raiseIn (drives : Cause → Bool) (cause : Cause) (reason : Option ClaimFailure) (t : LineTime) (set : List Pending) :
    (raiseIn cause reason t set).any (fun p => drives p.cause) = (set.any (fun p => drives p.cause) || drives cause) := by
  induction set with
  | nil => simp [raiseIn]
  | cons p ps ih =>
    rw [raiseIn]
    split
    · rename_i same
      simp only [List.any_cons, same]
      cases drives cause <;> simp
    · simp only [List.any_cons, ih, Bool.or_assoc]

/-- The attention set with a cause raised for a reason. -/
def State.raisedFor (s : State) (cause : Cause) (reason : Option ClaimFailure) : State :=
  { s with attention := raiseIn cause reason s.tmu.lineTime s.attention }

/-- Settles O13: the raise finds its cause in the set or does not. -/
theorem raisedCauseIsRecorded : Obligations.RaisedCauseIsRecorded := by
  intro s cause reason t raised
  have result : t = s.raisedFor cause reason := by
    rcases raised with ⟨rfl, rfl⟩ | ⟨slot, why, rfl, rfl, rfl⟩ <;> rfl
  subst result
  refine ⟨fun new => raiseIn_of_new new reason _, ?_, ?_, ?_⟩
  · rintro before p after set rfl others
    exact (congrArg (raiseIn p.cause reason s.tmu.lineTime) set).trans (raiseIn_of_pending others reason _)
  · rw [Bool.or_assoc]
    exact any_raiseIn (fun c => c = .bootFault || s.config.enableMask.getLsbD c.kind) cause reason _ _
  · simp [State.onlyChanges, Part.all, Part.same, State.raisedFor]

/-! A queued notice (R26 to R28). -/

theorem replaceInPlace_of_other {n : Notice} {q : List QueueEntry} (other : ∀ e ∈ q, e.notice.group ≠ n.group) :
    replaceInPlace n q = q := by
  rw [replaceInPlace, List.map_congr_left (g := id) (fun e mem => ?_), List.map_id]
  exact if_neg (other e mem)

theorem dropGroup_of_other {n : Notice} {q : List QueueEntry} (other : ∀ e ∈ q, e.notice.group ≠ n.group) :
    dropGroup n q = q :=
  List.filter_eq_self.mpr fun e mem => decide_eq_true (other e mem)

section OneEntry

variable {n : Notice} {e : QueueEntry} {before after : List QueueEntry} (same : e.notice.group = n.group)
  (others : ∀ x ∈ before ++ after, x.notice.group ≠ n.group)

include same others

theorem sameGroup?_of_one : sameGroup? n (before ++ e :: after) = some e := by
  rw [sameGroup?, List.find?_append, List.find?_eq_none.mpr fun x mem => by simpa using others x (by simp [mem])]
  simp [same]

theorem replaceInPlace_of_one : replaceInPlace n (before ++ e :: after) = before ++ { e with notice := n } :: after := by
  have left := replaceInPlace_of_other fun x mem => others x (List.mem_append_left _ mem)
  have right := replaceInPlace_of_other fun x mem => others x (List.mem_append_right _ mem)
  rw [replaceInPlace] at left right ⊢
  rw [List.map_append, List.map_cons, left, right, if_pos same]

theorem dropGroup_of_one : dropGroup n (before ++ e :: after) = before ++ after := by
  have left := dropGroup_of_other fun x mem => others x (List.mem_append_left _ mem)
  have right := dropGroup_of_other fun x mem => others x (List.mem_append_right _ mem)
  rw [dropGroup] at left right ⊢
  rw [List.filter_append, List.filter_cons_of_neg (by simp [same]), left, right]

end OneEntry

/-- Settles O20: the queue holds an entry of the notice's group or does not. -/
theorem queuedNoticeIsCoalesced : Obligations.QueuedNoticeIsCoalesced := by
  intro s n
  refine ⟨by simp [State.onlyChanges, Part.all, Part.same, State.queueNotice], rfl, fun other => ?_, ?_⟩
  · have none : sameGroup? n s.lif.queue = none := List.find?_eq_none.mpr fun e mem => by simpa using other e mem
    show queueIn n s.lif.queue = _
    rw [queueIn, none]
    rfl
  · intro before e after queue same others
    show queueIn n s.lif.queue = _
    rw [queueIn, queue, sameGroup?_of_one same others, replaceInPlace_of_one same others, dropGroup_of_one same others]

end Sys2Proof.Machine
end

section
/-! PROOFS. Bytes, fields and layouts: what a field of a payload reads from the pieces that the payload is laid out of. -/

namespace Sys2Proof.Machine

/-! Bytes of a number (R1). -/

@[simp] theorem length_bytesOf (k n : Nat) : (bytesOf k n).length = k := by
  induction k generalizing n with
  | zero => rfl
  | succ k ih => rw [bytesOf, List.length_cons, ih]

theorem numberOf_bytesOf (k n : Nat) : numberOf (bytesOf k n) = n % 256 ^ k := by
  induction k generalizing n with
  | zero => rw [Nat.pow_zero, Nat.mod_one]; rfl
  | succ k ih =>
    rw [bytesOf, numberOf, ih, BitVec.toNat_ofNat, Nat.pow_succ' (m := 256), Nat.mod_mul]

theorem numberOf_lt (bytes : List Byte) : numberOf bytes < 256 ^ bytes.length := by
  induction bytes with
  | nil => exact Nat.one_pos
  | cons b bs ih =>
    rw [numberOf, List.length_cons, Nat.pow_succ]
    have := b.isLt
    omega

/-- The bytes of the number that k bytes carry are those bytes. -/
theorem bytesOf_numberOf (bytes : List Byte) : bytesOf bytes.length (numberOf bytes) = bytes := by
  induction bytes with
  | nil => rfl
  | cons b bs ih =>
    have low : (b.toNat + 256 * numberOf bs) / 256 = numberOf bs := by have := b.isLt; omega
    have byte : BitVec.ofNat 8 (b.toNat + 256 * numberOf bs) = b := by
      apply BitVec.eq_of_toNat_eq
      rw [BitVec.toNat_ofNat]
      have := b.isLt
      omega
    rw [List.length_cons, numberOf, bytesOf, low, ih, byte]

/-- The bytes of a signed number carry its two's complement. -/
theorem ofNat_signedBytes (x : Int) : BitVec.ofNat 32 (numberOf (signedBytes 4 x)) = BitVec.ofInt 32 x := by
  apply BitVec.eq_of_toNat_eq
  rw [signedBytes, numberOf_bytesOf, BitVec.toNat_ofNat, BitVec.toNat_ofInt]
  omega

/-! Fields of a payload (chapter 11). -/

/-- A field behind a piece of a layout is read behind it. -/
theorem fieldNat_append_right {xs : List Byte} {offset : Nat} (behind : xs.length ≤ offset) (ys : List Byte) (size : Nat) :
    fieldNat (xs ++ ys) offset size = fieldNat ys (offset - xs.length) size := by
  rw [fieldNat, fieldNat, field, field, List.drop_append, List.drop_eq_nil_of_le behind, List.nil_append]

/-- A field within a piece of a layout is read from that piece. -/
theorem fieldNat_append_left {xs : List Byte} {offset size : Nat} (within : offset + size ≤ xs.length) (ys : List Byte) :
    fieldNat (xs ++ ys) offset size = fieldNat xs offset size := by
  have cut : (xs.drop offset).length = xs.length - offset := List.length_drop
  rw [fieldNat, fieldNat, field, field, List.drop_append_of_le_length (by omega), List.take_append_of_le_length (by omega)]

/-- A field that starts where a piece of a layout ends. -/
theorem fieldNat_append (xs ys : List Byte) (offset size : Nat) :
    fieldNat (xs ++ ys) (xs.length + offset) size = fieldNat ys offset size := by
  rw [fieldNat_append_right (Nat.le_add_right ..), Nat.add_sub_cancel_left]

@[simp] theorem fieldNat_cons_zero (b : Byte) (bs : List Byte) : fieldNat (b :: bs) 0 1 = b.toNat := rfl

@[simp] theorem fieldNat_cons_succ (b : Byte) (bs : List Byte) (offset size : Nat) :
    fieldNat (b :: bs) (offset + 1) size = fieldNat bs offset size := rfl

/-- An index of a bounded kind that a byte carries. -/
theorem index?_of_lt {n x : Nat} (inside : x < n) : index? n x = some ⟨x, inside⟩ := dif_pos inside

theorem index?_of_le {n x : Nat} (outside : n ≤ x) : index? n x = none := dif_neg (Nat.not_lt.mpr outside)

theorem index?_byte {n : Nat} (i : Fin n) (small : n ≤ 256) : index? n (BitVec.ofNat 8 i.val).toNat = some i := by
  have value : (BitVec.ofNat 8 i.val).toNat = i.val := by
    rw [BitVec.toNat_ofNat]
    have := i.isLt
    omega
  rw [value, index?_of_lt i.isLt]

theorem fieldNat_whole (bytes : List Byte) : fieldNat bytes 0 bytes.length = numberOf bytes := by
  rw [fieldNat, field, List.drop_zero, List.take_length]

@[simp] theorem fieldNat_bytesOf (k n : Nat) : fieldNat (bytesOf k n) 0 k = n % 256 ^ k := by
  have whole := fieldNat_whole (bytesOf k n)
  rwa [length_bytesOf, numberOf_bytesOf] at whole

@[simp] theorem length_signedBytes (k : Nat) (x : Int) : (signedBytes k x).length = k := length_bytesOf ..

@[simp] theorem ofNat_fieldNat_signedBytes (x : Int) :
    BitVec.ofNat 32 (fieldNat (signedBytes 4 x) 0 4) = BitVec.ofInt 32 x := by
  rw [← ofNat_signedBytes, ← fieldNat_whole, length_signedBytes]

/-! The pieces of a reply (R215, R217). -/

@[simp] theorem length_byte1 (n : Nat) : (byte1 n).length = 1 := rfl
@[simp] theorem length_flag1 (b : Bool) : (flag1 b).length = 1 := rfl
@[simp] theorem length_word2 (c : Counter16) : (word2 c).length = 2 := rfl
@[simp] theorem length_word4 (t : BitVec 32) : (word4 t).length = 4 := rfl

@[simp] theorem fieldNat_byte1 (n : Nat) : fieldNat (byte1 n) 0 1 = n % 256 := fieldNat_bytesOf 1 n

theorem fieldNat_byte1_of_lt {n : Nat} (small : n < 256) : fieldNat (byte1 n) 0 1 = n := by
  rw [fieldNat_byte1, Nat.mod_eq_of_lt small]

@[simp] theorem fieldNat_flag1 (b : Bool) : fieldNat (flag1 b) 0 1 = b.toNat := by cases b <;> rfl

@[simp] theorem fieldNat_word2 (c : Counter16) : fieldNat (word2 c) 0 2 = c.toNat := by
  rw [word2, fieldNat_bytesOf]
  exact Nat.mod_eq_of_lt c.isLt

@[simp] theorem fieldNat_word4 (t : BitVec 32) : fieldNat (word4 t) 0 4 = t.toNat := by
  rw [word4, fieldNat_bytesOf]
  exact Nat.mod_eq_of_lt t.isLt

@[simp] theorem length_optional {width : Nat} {bytes : Option (List Byte)} (widths : ∀ b, bytes = some b → b.length = width) :
    (optional width bytes).length = 1 + width := by
  cases bytes with
  | none => rw [optional, List.length_append, List.length_replicate, length_flag1]
  | some b => rw [optional, List.length_append, widths b rfl, length_flag1]

theorem flatten_length {α : Type} {f : α → List Byte} {width : Nat} (widths : ∀ x, (f x).length = width) (xs : List α) :
    ((xs.map f).flatten).length = width * xs.length := by
  induction xs with
  | nil => rfl
  | cons x xs ih =>
    rw [List.map_cons, List.flatten_cons, List.length_append, widths, ih, List.length_cons]
    ring

/-- The field of the i-th of records of one width. -/
theorem fieldNat_flatten {α : Type} {f : α → List Byte} {width : Nat} (widths : ∀ x, (f x).length = width) {xs : List α}
    {i : Nat} {x : α} (at_ : xs[i]? = some x) {offset size : Nat} (within : offset + size ≤ width) :
    fieldNat ((xs.map f).flatten) (width * i + offset) size = fieldNat (f x) offset size := by
  induction xs generalizing i with
  | nil => cases at_
  | cons y ys ih =>
    rw [List.map_cons, List.flatten_cons]
    cases i with
    | zero =>
      obtain rfl : y = x := by simpa using at_
      rw [Nat.mul_zero, Nat.zero_add, fieldNat_append_left (by rw [widths]; exact within)]
    | succ i =>
      have place : width * (i + 1) + offset = (f y).length + (width * i + offset) := by rw [widths]; ring
      rw [place, fieldNat_append]
      exact ih (by simpa using at_)

/-- What is read of each record of a list of records, read in order. -/
theorem map_range_reads {α β : Type} {xs : List α} {read : Nat → β} {view : α → β}
    (reads : ∀ i x, xs[i]? = some x → read i = view x) : (List.range xs.length).map read = xs.map view := by
  apply List.ext_getElem
  · simp
  · intro i _ inside
    rw [List.length_map] at inside
    simpa using reads i xs[i] (List.getElem?_eq_getElem inside)

end Sys2Proof.Machine
end

section
/-! PROOFS. Requests that their station admits: what carrying one out leaves; Clear Attention. -/

namespace Sys2Proof.Machine

/-! A request that is carried out (R197, R199). -/

/-- The port takes the next request, and the station admits requests of a class (R199). -/
structure State.admits (s : State) (cls : RequestClass) : Prop where
  takes : s.takesRequests
  notBoot : s.svp.station ≠ .boot
  admitted : cls.refusal? s.svp.station = none

theorem State.admitsReads.admits {s : State} (h : s.admitsReads) {cls : RequestClass} (read : cls = .read ∨ cls = .clearAttention) :
    s.admits cls := by
  obtain ⟨takes, config | run⟩ := h
  · refine ⟨takes, by rw [config]; decide, ?_⟩
    rw [config]
    rcases read with rfl | rfl <;> rfl
  · refine ⟨takes, by rw [run]; decide, ?_⟩
    rw [run]
    rcases read with rfl | rfl <;> rfl

theorem State.admitsRun.admits {s : State} (h : s.admitsRun) : s.admits .run := by
  obtain ⟨takes, run⟩ := h
  exact ⟨takes, by rw [run]; decide, by rw [run]; rfl⟩

theorem State.admitsConfiguration.admits {s : State} (h : s.admitsConfiguration) : s.admits .configuration := by
  obtain ⟨takes, config⟩ := h
  exact ⟨takes, by rw [config]; decide, by rw [config]; rfl⟩

section Admitted

variable {s : State} {cls : RequestClass} (admits : s.admits cls) {lengths : List Nat} {p : List Byte}
  (length : p.length ∈ lengths) (fits : p.length ≤ 64)

include admits length fits

/-- An admitted request of a length it takes is judged by its own section. -/
theorem State.request_of_admits (code : Nat) (act : State → Answer) :
    s.request code cls lengths p act = (act (s.received code p)).1.putReply (act (s.received code p)).2 := by
  have good : lengths.contains p.length = true := List.contains_iff_mem.mpr length
  rw [State.request, State.arrive_of_takes admits.takes fits, good,
    State.serve_of_admitted (s := s.received code p) admits.notBoot admits.admitted]

theorem State.replies_of_admits {c : Instr} {code : Nat} {act : State → Answer} {r : Reply}
    (run : exec c s = .next (s.request code cls lengths p act)) (answer : act (s.received code p) = (s.received code p, r)) :
    s.replies c code p r := by
  refine ⟨_, run, ?_⟩
  rw [State.request_of_admits admits length fits, answer]
  exact ⟨rfl, State.onlyChanges_trans (s.onlyChanges_received code p) (State.onlyChanges_putReply _ r)⟩

end Admitted

theorem State.onlyChanges_mono {s t : State} {parts more : List Part} (h : s.onlyChanges t parts) (sub : parts ⊆ more) :
    s.onlyChanges t more :=
  ⟨h.1, fun part other => h.2 part fun mem => other (sub mem)⟩

/-- The parts that change while a request is carried out, and the service port that takes it and replies. -/
theorem State.onlyChanges_answered {s t : State} {code : Nat} {p : List Byte} {parts : List Part}
    (h : (s.received code p).onlyChanges t parts) (r : Reply) : s.onlyChanges (t.putReply r) (.svp :: parts) :=
  State.onlyChanges_trans (State.onlyChanges_mono (s.onlyChanges_received code p) (by simp))
    (State.onlyChanges_trans (State.onlyChanges_mono h (List.subset_cons_self ..))
      (State.onlyChanges_mono (State.onlyChanges_putReply t r) (by simp)))

theorem bit_eq_testBit (n k : Nat) : bit n k = n.testBit k := by
  rw [bit, bits, Nat.testBit_eq_decide_div_mod_eq, Nat.pow_one]

/-! Clear Attention (R209). -/

/-- A cleared cause takes its flag along. -/
theorem State.clearFlag_channel (s : State) (cause : Cause) (c : ChannelNo) :
    (s.clearFlag cause).channels[c] = { s.channels[c] with
      saturationFlag := s.channels[c].saturationFlag && cause ≠ .saturation c
      guardLimitFlag := s.channels[c].guardLimitFlag && cause ≠ .guardLimit c } := by
  cases cause with
  | saturation n =>
    rw [State.clearFlag, State.putChannel_get]
    split
    · rename_i same
      simp [same]
    · rename_i other
      simp [Ne.symm other]
  | guardLimit n =>
    rw [State.clearFlag, State.putChannel_get]
    split
    · rename_i same
      simp [same]
    · rename_i other
      simp [Ne.symm other]
  | _ => simp [State.clearFlag]

theorem State.clearFlag_tsv (s : State) (cause : Cause) :
    (s.clearFlag cause).tsv = { s.tsv with wheelFaultFlag := s.tsv.wheelFaultFlag && cause ≠ .wheelFault } := by
  cases cause <;> simp [State.clearFlag]

/-- What a run of clears leaves of the flags. -/
theorem foldl_clearFlag (set : List Pending) (s : State) :
    (∀ c : ChannelNo, (set.foldl (fun s p => s.clearFlag p.cause) s).channels[c] = { s.channels[c] with
      saturationFlag := s.channels[c].saturationFlag && !set.any (·.cause = .saturation c)
      guardLimitFlag := s.channels[c].guardLimitFlag && !set.any (·.cause = .guardLimit c) })
    ∧ (set.foldl (fun s p => s.clearFlag p.cause) s).tsv =
        { s.tsv with wheelFaultFlag := s.tsv.wheelFaultFlag && !set.any (·.cause = .wheelFault) } := by
  induction set generalizing s with
  | nil => simp
  | cons p ps ih =>
    obtain ⟨channels, tsv⟩ := ih (s.clearFlag p.cause)
    refine ⟨fun c => ?_, ?_⟩
    · rw [List.foldl_cons, channels c, State.clearFlag_channel]
      simp [Bool.and_assoc]
    · rw [List.foldl_cons, tsv, State.clearFlag_tsv]
      simp [Bool.and_assoc]

/-- A cause leaves a set with the named ones exactly when it is named and stands in it. -/
theorem any_filter_cause (named : Cause → Bool) (set : List Pending) (cause : Cause) :
    (set.filter fun p => named p.cause).any (·.cause = cause) = (named cause && set.any (·.cause = cause)) := by
  rw [Bool.eq_iff_iff]
  simp only [List.any_eq_true, List.mem_filter, decide_eq_true_eq, Bool.and_eq_true]
  constructor
  · rintro ⟨p, ⟨mem, name⟩, rfl⟩
    exact ⟨name, p, mem, rfl⟩
  · rintro ⟨name, p, mem, rfl⟩
    exact ⟨p, ⟨mem, name⟩, rfl⟩

theorem Cause.named_eq (c : Cause) (kinds subjects : Nat) :
    c.named kinds subjects = (kinds.testBit c.kind && c.subject.all (subjects.testBit ·)) := by
  simp only [Cause.named, bit_eq_testBit]

section ClearedCauses

variable (s : State) (kinds subjects : Nat)

theorem State.clearCauses_attention :
    (s.clearCauses kinds subjects).attention = s.attention.filter fun p => !p.cause.named kinds subjects :=
  foldl_keeps (fun (s : State) (p : Pending) => s.clearFlag p.cause) State.attention
    (fun s p => by unfold State.clearFlag; split <;> rfl) _ _

theorem State.clearCauses_svp : (s.clearCauses kinds subjects).svp = s.svp :=
  foldl_keeps (fun (s : State) (p : Pending) => s.clearFlag p.cause) State.svp
    (fun s p => by unfold State.clearFlag; split <;> rfl) _ _

theorem State.clearCauses_channel (c : ChannelNo) :
    (s.clearCauses kinds subjects).channels[c] = { s.channels[c] with
      saturationFlag := s.channels[c].saturationFlag &&
        !((Cause.saturation c).named kinds subjects && s.isPending (.saturation c))
      guardLimitFlag := s.channels[c].guardLimitFlag &&
        !((Cause.guardLimit c).named kinds subjects && s.isPending (.guardLimit c)) } := by
  refine ((foldl_clearFlag _ _).1 c).trans ?_
  rw [any_filter_cause (Cause.named · kinds subjects), any_filter_cause (Cause.named · kinds subjects)]
  rfl

theorem State.clearCauses_tsv :
    (s.clearCauses kinds subjects).tsv = { s.tsv with
      wheelFaultFlag := s.tsv.wheelFaultFlag && !(Cause.wheelFault.named kinds subjects && s.isPending .wheelFault) } := by
  refine (foldl_clearFlag _ _).2.trans ?_
  rw [any_filter_cause (Cause.named · kinds subjects)]
  rfl

/-- The clear of the named causes changes the set and its flags alone. -/
theorem State.clearCauses_parts :
    s.onlyChanges (s.clearCauses kinds subjects) [.attention, .channels, .tsv] := by
  refine foldl_holds _ (fun t => s.onlyChanges t [.attention, .channels, .tsv]) (fun t p h => ?_) _ _ ?_
  · refine State.onlyChanges_trans h ?_
    unfold State.clearFlag
    split <;> simp [State.onlyChanges, Part.all, Part.same]
  · simp [State.onlyChanges, Part.all, Part.same]

end ClearedCauses

/-- Settles O14: the named causes are filtered out of the set, and the fold over them clears each one's flag. -/
theorem clearAttentionClearsTheNamed : Obligations.ClearAttentionClearsTheNamed := by
  intro s kinds subjects reads kindsFit subjectsFit
  have admits := State.admitsReads.admits reads (.inr rfl)
  have kindField : fieldNat (bytesOf 4 kinds ++ bytesOf 2 subjects) 0 4 = kinds := by
    rw [fieldNat_append_left (by simp), fieldNat_bytesOf]
    exact Nat.mod_eq_of_lt kindsFit
  have subjectField : fieldNat (bytesOf 4 kinds ++ bytesOf 2 subjects) 4 2 = subjects := by
    rw [fieldNat_append_right (by simp), length_bytesOf, fieldNat_bytesOf]
    exact Nat.mod_eq_of_lt subjectsFit
  have length : (bytesOf 4 kinds ++ bytesOf 2 subjects).length = 6 := by simp
  generalize bytesOf 4 kinds ++ bytesOf 2 subjects = p at kindField subjectField length
  have ofLength : p.length ∈ [6] := by rw [length]; decide
  have fits : p.length ≤ 64 := by omega
  refine ⟨fun small => ?_, fun large => ?_⟩
  · have answer : (s.received 0x27 p).clearAttention kinds subjects =
        ((s.received 0x27 p).clearCauses kinds subjects,
          success ((s.received 0x27 p).clearCauses kinds subjects).attentionPayload) :=
      if_neg (Nat.not_le.mpr small)
    have run : exec (.clearAttention p) s =
        .next (((s.received 0x27 p).clearCauses kinds subjects).putReply
          (success ((s.received 0x27 p).clearCauses kinds subjects).attentionPayload)) := by
      rw [exec, execClearAttention, State.request_of_admits admits ofLength fits, kindField, subjectField, answer]
    simp only [← Cause.named_eq]
    refine ⟨_, run, ?_, ?_, fun c => ?_, ?_, State.onlyChanges_answered (State.clearCauses_parts _ _ _) _⟩
    · rw [State.putReply_svp, State.clearCauses_svp]
      rfl
    · exact State.clearCauses_attention (s.received 0x27 p) kinds subjects
    · exact State.clearCauses_channel (s.received 0x27 p) kinds subjects c
    · exact State.clearCauses_tsv (s.received 0x27 p) kinds subjects
  · refine State.replies_of_admits admits ofLength fits rfl ?_
    rw [kindField, subjectField]
    exact if_pos large

end Sys2Proof.Machine
end

section
/-! PROOFS. The read requests: each answers with its payload and changes nothing (10.7, 11.3). -/

namespace Sys2Proof.Machine

/-! The payloads of the reads do not show the port's own receiver. -/

theorem State.watchRecord_received (s : State) (code : Nat) (p : List Byte) (item : WatchItem) :
    (s.received code p).watchRecord item = s.watchRecord item := by cases item <;> rfl

/-! The items that Read Watch carries (R211). -/

theorem watchItems_of_empty (p n : Nat) : watchItems [] p n = [] := by
  rw [watchItems, List.filterMap_eq_nil_iff]
  exact fun _ _ => rfl

/-- From a position in the list on, each of the n places names an item. -/
theorem watchItems_of_mem {items : List WatchItem} (some_ : 0 < items.length) (p n : Nat) :
    watchItems items p n = (List.range n).map fun i => items.getD ((p + i) % items.length) .lineTime := by
  rw [watchItems, ← List.filterMap_eq_map]
  refine List.filterMap_congr fun i _ => ?_
  have inside : (p + i) % items.length < items.length := Nat.mod_lt _ some_
  simp [inside]

/-- Settles O10: each read answers from the state that took its request, which shows the same payload. -/
theorem readsAnswerWithoutChange : Obligations.ReadsAnswerWithoutChange := by
  intro s
  refine ⟨fun takes notBoot => ?_, fun reads => ?_⟩
  · have admits : s.admits .status := ⟨takes, notBoot, by
      cases station : s.svp.station with
      | boot => exact absurd station notBoot
      | _ => rfl⟩
    exact State.replies_of_admits admits (lengths := [0]) (p := []) (by decide) (by decide) rfl rfl
  have admits := State.admitsReads.admits reads (.inl rfl)
  have plain {c : Instr} {code : Nat} {act : State → Answer} {r : Reply}
      (run : exec c s = .next (s.request code .read [0] [] act)) (answer : act (s.received code []) = (s.received code [], r)) :
      s.replies c code [] r := State.replies_of_admits admits (by decide) (by decide) run answer
  have indexed {c : Instr} {code n : Nat} {b : Byte} {act : Fin n → State → Answer} {i : Option (Fin n)} {r : Reply}
      (run : exec c s = .next (s.request code .read [1] [b] fun s => s.ranged (index? n (fieldNat [b] 0 1)) (act · s)))
      (index : index? n b.toNat = i)
      (answer : (s.received code [b]).ranged i (act · (s.received code [b])) = (s.received code [b], r)) :
      s.replies c code [b] r := by
    refine State.replies_of_admits admits (by simp) (by simp) run ?_
    rw [fieldNat_cons_zero, index]
    exact answer
  refine ⟨plain rfl rfl, plain rfl rfl, plain rfl rfl, plain rfl rfl, plain rfl rfl, ?_⟩
  refine ⟨fun n => ?_, fun n => ?_, fun n => ?_, fun n => ?_, fun b out => ?_, fun b out => ?_, fun b out => ⟨?_, ?_⟩, ?_⟩
  · exact indexed (act := fun n s => s.succeed (s.peerPayload n)) rfl (index?_byte n (by decide)) rfl
  · exact indexed (act := fun n s => s.succeed s.channels[n].payload) rfl (index?_byte n (by decide)) rfl
  · exact indexed (act := fun n s => s.succeed s.captures[n].payload) rfl (index?_byte n (by decide)) rfl
  · exact indexed (act := fun n s => s.succeed (s.unitPayload n)) rfl (index?_byte n (by decide)) rfl
  · exact indexed (act := fun n s => s.succeed (s.peerPayload n)) rfl (index?_of_le out) rfl
  · exact indexed (act := fun n s => s.succeed s.channels[n].payload) rfl (index?_of_le out) rfl
  · exact indexed (act := fun n s => s.succeed s.captures[n].payload) rfl (index?_of_le out) rfl
  · exact indexed (act := fun n s => s.succeed (s.unitPayload n)) rfl (index?_of_le out) rfl
  intro p n
  have answers {r : Reply} (answer : (if within 1 16 n.toNat && (s.svp.watchList.isEmpty || p.toNat < s.svp.watchList.length) then
      success (listed ((watchItems s.svp.watchList p.toNat n.toNat).map s.watchRecord)) else refused .range) = r) :
      s.replies (.readWatch [p, n]) 0x0C [p, n] r := by
    refine State.replies_of_admits admits (lengths := [2]) (by simp) (by simp) rfl ?_
    have records : (s.received 0x0C [p, n]).watchRecord = s.watchRecord := funext fun item => s.watchRecord_received _ _ item
    rw [records, ← answer, fieldNat_cons_succ, fieldNat_cons_zero, fieldNat_cons_zero]
    exact (apply_ite (Prod.mk (s.received 0x0C [p, n])) _ _ _).symm
  refine ⟨fun ⟨low, high⟩ => ⟨fun empty => answers ?_, fun inside => answers ?_, fun some_ outside => answers ?_⟩,
    fun bad => answers ?_⟩
  · have none : s.svp.watchList = [] := List.length_eq_zero_iff.mp empty
    have good : within 1 16 n.toNat = true := by simp [within, low, high]
    rw [none, watchItems_of_empty, good]
    rfl
  · have good : within 1 16 n.toNat = true := by simp [within, low, high]
    rw [watchItems_of_mem (by omega), good, if_pos (by simp [inside])]
    simp [listed, byte1, bytesOf, Function.comp_def, success]
  · rw [if_neg]
    · rfl
    · have notEmpty : s.svp.watchList ≠ [] := List.ne_nil_of_length_pos some_
      simp [notEmpty, outside]
  · rw [if_neg]
    · rfl
    · simp only [within, Bool.and_eq_true, decide_eq_true_eq]
      omega

end Sys2Proof.Machine
end

section
/-! PROOFS. Read Samples: where in a ring it begins, and what it carries (3.9, 3.10). -/

namespace Sys2Proof.Machine

/-! Sequence numbers (R70, 5.1). -/

/-- The numbers from the oldest to the newest of a short ring contain those at most as far from the oldest. -/
theorem ringHolds_iff {oldest newest s : BitVec 32} (short : (newest - oldest).toNat < 64) :
    ringHolds oldest newest s = decide ((s - oldest).toNat ≤ (newest - oldest).toNat) := by
  rw [Bool.eq_iff_iff]
  simp only [ringHolds, later, Bool.and_eq_true, Bool.or_eq_true, Bool.not_eq_true', Bool.and_eq_false_iff, decide_eq_true_eq,
    decide_eq_false_iff_not]
  bv_omega

theorem later_iff {a b : BitVec 32} : later a b = true ↔ 2 ^ 31 < (b - a).toNat := by
  simp only [later, Bool.and_eq_true, decide_eq_true_eq]
  bv_omega

/-- From the oldest to the newest set of a numbered ring, the sequence number grows by one a set. -/
theorem Group.numbered.newest {x : Group} (numbered : x.numbered) {oldest newest : RingSet}
    (first : x.ring.head? = some oldest) (last : x.ring.getLast? = some newest) (short : x.ring.length ≤ 64) :
    (newest.record.sequence - oldest.record.sequence).toNat = x.ring.length - 1 := by
  have some_ : 0 < x.ring.length := by
    cases ring : x.ring with
    | nil => rw [ring] at first; cases first
    | cons _ _ => exact Nat.zero_lt_succ _
  have atFirst := numbered 0 some_
  have atLast := numbered (x.ring.length - 1) (by omega)
  have isFirst : x.ring[0] = oldest := by
    rw [List.head?_eq_getElem?, List.getElem?_eq_getElem some_] at first
    exact Option.some.inj first
  have isLast : x.ring[x.ring.length - 1] = newest := by
    rw [List.getLast?_eq_getElem?, List.getElem?_eq_getElem (by omega)] at last
    exact Option.some.inj last
  rw [isFirst, Nat.sub_zero] at atFirst
  rw [isLast, Nat.sub_sub_self some_] at atLast
  rw [← atLast] at atFirst
  bv_omega

section Ring

variable {x : Group} {oldest : RingSet} {rest : List RingSet} (ring : x.ring = oldest :: rest) (numbered : x.numbered)
  (short : x.ring.length ≤ 64) (first : BitVec 32)

include ring numbered short

/-- Where Read Samples begins in a ring that holds a set (R70). -/
theorem samplesFrom_eq :
    samplesFrom x.ring first =
      if (first - oldest.record.sequence).toNat < x.ring.length then some ((first - oldest.record.sequence).toNat, false)
      else if 2 ^ 31 < (first - oldest.record.sequence).toNat then some (0, true)
      else none := by
  obtain ⟨newest, last⟩ : ∃ newest, x.ring.getLast? = some newest := by
    rw [ring]
    exact ⟨_, List.getLast?_eq_some_getLast (List.cons_ne_nil _ _)⟩
  have head : x.ring.head? = some oldest := by rw [ring, List.head?_cons]
  have some_ : 0 < x.ring.length := by rw [ring]; exact Nat.zero_lt_succ _
  have span := numbered.newest head last short
  have holds : ringHolds oldest.record.sequence newest.record.sequence first =
      decide ((first - oldest.record.sequence).toNat < x.ring.length) := by
    rw [ringHolds_iff (by omega), span, decide_eq_decide]
    omega
  rw [samplesFrom, head, last]
  simp only [holds, decide_eq_true_eq, later_iff]

end Ring

/-! The section of Read Samples (R68, R70). -/

section Carry

variable {t : State} {g : GroupNo} {first : BitVec 32}

theorem State.readSamples_of_none (nothing : samplesFrom t.groups[g].ring first = none) (n : Nat) :
    t.readSamples g first n = t.succeed (samplesReply t.groups[g] false []) := by
  unfold State.readSamples
  dsimp only
  rw [nothing]

theorem State.readSamples_of_some {start : Nat} {gap : Bool} (begins : samplesFrom t.groups[g].ring first = some (start, gap))
    (n : Nat) :
    t.readSamples g first n =
      (t.putGroup g { t.groups[g] with ring := markRead start n t.groups[g].ring, overrunMark := false }).succeed
        (samplesReply t.groups[g] gap ((t.groups[g].ring.drop start).take n)) := by
  unfold State.readSamples
  dsimp only
  rw [begins]

end Carry

/-- Settles O12: the table of R70 says where the sets carried begin. -/
theorem readSamplesCarriesItsSets : Obligations.ReadSamplesCarriesItsSets := by
  intro s g first n reads
  have admits := State.admitsReads.admits reads (.inl rfl)
  have small : (BitVec.ofNat 8 g.val).toNat = g.val := by
    rw [BitVec.toNat_ofNat]
    have := g.isLt
    omega
  have groupField : index? 2 (fieldNat (BitVec.ofNat 8 g.val :: bytesOf 4 first.toNat ++ [n]) 0 1) = some g := by
    rw [List.cons_append, fieldNat_cons_zero]
    exact index?_byte g (by decide)
  have firstField : BitVec.ofNat 32 (fieldNat (BitVec.ofNat 8 g.val :: bytesOf 4 first.toNat ++ [n]) 1 4) = first := by
    rw [List.cons_append, fieldNat_cons_succ, fieldNat_append_left (by simp)]
    exact (congrArg (BitVec.ofNat 32) (fieldNat_word4 first)).trans (by simp)
  have countField : fieldNat (BitVec.ofNat 8 g.val :: bytesOf 4 first.toNat ++ [n]) 5 1 = n.toNat := by
    rw [List.cons_append, fieldNat_cons_succ, fieldNat_append_right (by simp), length_bytesOf]
    rfl
  have ofLength : (BitVec.ofNat 8 g.val :: bytesOf 4 first.toNat ++ [n]).length = 6 := by simp
  dsimp only
  generalize BitVec.ofNat 8 g.val :: bytesOf 4 first.toNat ++ [n] = p at groupField firstField countField ofLength ⊢
  have length : p.length ∈ [6] := by rw [ofLength]; decide
  have fits : p.length ≤ 64 := by omega
  have section_ (t : State) : (t.ranged (index? 2 (fieldNat p 0 1)) fun g =>
      if within 1 8 (fieldNat p 5 1) then t.readSamples g (BitVec.ofNat 32 (fieldNat p 1 4)) (fieldNat p 5 1)
      else t.refuse .range) =
        if within 1 8 n.toNat then t.readSamples g first n.toNat else t.refuse .range := by
    rw [groupField, firstField, countField]
    rfl
  refine ⟨fun ⟨low, high⟩ => ?_, fun bad => ?_⟩
  · have good : within 1 8 n.toNat = true := by simp [within, low, high]
    have none_ (nothing : samplesFrom s.groups[g].ring first = none) :
        s.replies (.readSamples p) 0x04 p (success (samplesReply s.groups[g] false [])) := by
      refine State.replies_of_admits admits length fits rfl ((section_ _).trans ?_)
      exact (if_pos good).trans (State.readSamples_of_none (t := s.received 0x04 p) nothing _)
    refine ⟨fun empty => none_ (by rw [empty]; rfl), fun oldest rest ring numbered short => ?_⟩
    have table := samplesFrom_eq ring numbered short first
    have carries {start : Nat} {gap : Bool} (begins : samplesFrom s.groups[g].ring first = some (start, gap)) :
        ∃ t, exec (.readSamples p) s = .next t
          ∧ t.svp = s.answered 0x04 p (success (samplesReply s.groups[g] gap ((s.groups[g].ring.drop start).take n.toNat)))
          ∧ t.groups[g] = { s.groups[g] with
              overrunMark := false
              ring := s.groups[g].ring.take start
                ++ ((s.groups[g].ring.drop start).take n.toNat).map (fun r => { r with unread := false })
                ++ s.groups[g].ring.drop (start + n.toNat) }
          ∧ sameElsewhere g s.groups t.groups ∧ s.onlyChanges t [.svp, .groups] := by
      have answer : (s.received 0x04 p).readSamples g first n.toNat =
          ((s.received 0x04 p).putGroup g { s.groups[g] with
              ring := markRead start n.toNat s.groups[g].ring, overrunMark := false },
            success (samplesReply s.groups[g] gap ((s.groups[g].ring.drop start).take n.toNat))) :=
         State.readSamples_of_some (t := s.received 0x04 p) begins _
      refine ⟨_, rfl, ?_⟩
      rw [State.request_of_admits admits length fits, section_, if_pos good, answer]
      refine ⟨rfl, ?_, fun j other => ?_, State.onlyChanges_answered (code := 0x04) (p := p)
        (by simp [State.onlyChanges, Part.all, Part.same]) _⟩
      · exact (State.putGroup_get _ g g _).trans (if_pos rfl)
      · exact (State.putGroup_get _ g j _).trans (if_neg other)
    refine ⟨fun inside => carries ?_, fun behind => ?_, fun outside ahead => none_ ?_⟩
    · rw [table, if_pos inside]
    · have carried := carries (start := 0) (gap := true) (by rw [table, if_neg (by omega), if_pos behind])
      simpa using carried
    · rw [table, if_neg (by omega), if_neg (by omega)]
  · refine State.replies_of_admits admits length fits rfl ((section_ _).trans (if_neg ?_))
    simp only [within, Bool.and_eq_true, decide_eq_true_eq]
    omega

end Sys2Proof.Machine
end

section
/-! PROOFS. The service receiver's own events (R195, R196, R198, R200). -/

namespace Sys2Proof.Machine

theorem State.onlyChanges_putSvp (s : State) (x : Svp) : s.onlyChanges (s.putSvp x) [.svp] := by
  simp [State.onlyChanges, Part.all, Part.same]

theorem State.not_replying {s : State} (free : s.svp.reply = none) : s.replying = false := by
  rw [State.replying, free]
  rfl

/-- A port that is not replying listens unless its receiver is in DISCARD. -/
theorem Svp.listening_of {p : Svp} (free : p.reply = none) : p.listening = (p.receiver != .discard) := by
  rw [Svp.listening, free]
  exact Bool.and_true _

/-- The service port after a character in error (R196, R200). -/
def Svp.inError (p : Svp) (stopBit : Bool) (count : Count) : Svp :=
  if stopBit then p.brokenCharacter count else p.character count

theorem Svp.brokenCharacter_fields (p : Svp) (count : Count) :
    (p.brokenCharacter count).reply = p.reply ∧ (p.brokenCharacter count).receiver = p.receiver
      ∧ (p.brokenCharacter count).errors = p.errors := by
  unfold Svp.brokenCharacter
  split <;> exact ⟨rfl, rfl, rfl⟩

theorem Svp.inError_fields (p : Svp) (stopBit : Bool) (count : Count) :
    (p.inError stopBit count).reply = p.reply ∧ (p.inError stopBit count).receiver = p.receiver
      ∧ (p.inError stopBit count).errors = p.errors := by
  unfold Svp.inError
  split
  · exact p.brokenCharacter_fields count
  · exact ⟨rfl, rfl, rfl⟩

theorem Svp.stillLow_iff (p : Svp) (count : Count) :
    p.stillLow count = true ↔ ∃ restart, p.idle = .after restart ∧ (count - restart).toNat ≤ 1528 := by
  unfold Svp.stillLow
  split
  · rename_i idle
    simp [idle]
  · rename_i restart idle
    refine decide_eq_true_iff.trans ⟨fun recent => ⟨restart, idle, recent⟩, ?_⟩
    rintro ⟨other, same, recent⟩
    obtain rfl : restart = other := IdleMeasure.after.inj (idle.symm.trans same)
    exact recent

theorem Svp.breakFrom_of_idle (p : Svp) (count : Count) : p.brokenCharacter count =
    { p with
      idle := .after count
      breakArmed := p.breakArmed || !p.stillLow count
      breakFrom := if p.stillLow count = true ∨ (count - p.breakFrom).toNat ≤ 1528 then p.breakFrom else count - 1528 } := by
  unfold Svp.brokenCharacter
  cases low : p.stillLow count with
  | true => simp
  | false =>
    simp only [Bool.false_eq_true, if_false, false_or, Bool.not_false, Bool.or_true]
    rfl

/-- What a character in error does to the receiver, in each of its states. -/
theorem exec_serviceCharacterError {s : State} (free : s.svp.reply = none) (stopBit : Bool) :
    exec (.serviceCharacterError stopBit) s = .next (s.putSvp
      (match s.svp.receiver with
        | .hunt => { s.svp.inError stopBit s.count with errors := s.svp.errors + 1 }
        | .request => (s.svp.inError stopBit s.count).refuse
        | .discard => s.svp.inError stopBit s.count)) := by
  obtain ⟨reply, receiver, errors⟩ := s.svp.inError_fields stopBit s.count
  have listens := Svp.listening_of (reply.trans free)
  rw [receiver] at listens
  generalize taken : s.svp.inError stopBit s.count = p at reply receiver errors listens
  show Host.Outcome.next (s.putSvp (if !(s.svp.inError stopBit s.count).listening then (s.svp.inError stopBit s.count).dropped
    else if (s.svp.inError stopBit s.count).receiver = .hunt then
      { s.svp.inError stopBit s.count with errors := (s.svp.inError stopBit s.count).errors + 1 }
    else (s.svp.inError stopBit s.count).refuse)) = _
  rw [taken, listens, receiver, errors, Svp.dropped, receiver]
  cases s.svp.receiver <;> rfl

theorem Svp.afterGap_eq (p : Svp) : p.afterGap =
    { p with
      receiver := .hunt
      errors := if p.receiver = .request then p.errors + 1 else p.errors
      buffer := if p.receiver = .request then [] else p.buffer } := by
  obtain ⟨station, cause, result, receiver⟩ := p
  cases receiver <;> rfl

/-- Settles O8: each event by the receiver's state. -/
theorem serviceReceiverEvents : Obligations.ServiceReceiverEvents := by
  intro s stopBit length long now shown stillLow broken inError
  have only (x : Svp) := s.onlyChanges_putSvp x
  have lowIff : s.svp.stillLow now = decide stillLow := by
    rw [Bool.eq_iff_iff, decide_eq_true_eq]
    exact s.svp.stillLow_iff now
  have error : s.svp.inError stopBit s.count = inError := by
    unfold Svp.inError
    cases stopBit with
    | false => rfl
    | true =>
      refine (s.svp.breakFrom_of_idle now).trans ?_
      simp only [lowIff, decide_eq_true_eq]
      simp [inError, broken]
  refine ⟨fun free => ⟨fun hunt => ⟨⟨_, rfl, ?_⟩, ?_⟩, fun request => ⟨⟨_, rfl, ?_⟩, ?_⟩, fun discard => ?_⟩,
    fun start known idle => ⟨fun late => ⟨_, rfl, ?_⟩, fun early => ?_⟩,
    fun r replies => ⟨fun listens => ⟨_, rfl, ?_⟩, fun discard => ⟨_, rfl, ?_⟩, ⟨_, rfl, ?_⟩⟩⟩
  · have listens : (s.svp.character s.count).listening = true := by
      rw [Svp.listening_of (p := s.svp.character s.count) free]
      exact (congrArg (· != ServiceState.discard) hunt)
    have inHunt : (s.svp.character s.count).receiver = .hunt := hunt
    simp only [listens, inHunt]
    exact ⟨only _, rfl⟩
  · refine ⟨_, exec_serviceCharacterError free stopBit, ?_⟩
    rw [hunt, error]
    exact ⟨only _, rfl⟩
  · have listens : (s.svp.character s.count).listening = true := by
      rw [Svp.listening_of (p := s.svp.character s.count) free]
      exact (congrArg (· != ServiceState.discard) request)
    rw [if_neg (Nat.not_le.mpr long), if_pos listens]
    exact ⟨only _, rfl⟩
  · refine ⟨_, exec_serviceCharacterError free stopBit, ?_⟩
    rw [request, error]
    have errors : inError.errors = s.svp.errors := by
      rw [← error]
      exact (s.svp.inError_fields stopBit s.count).2.2
    refine ⟨only _, ?_⟩
    rw [← errors]
    rfl
  · refine ⟨_, exec_serviceCharacterError free stopBit, ?_⟩
    rw [discard, error]
    exact ⟨only _, rfl⟩
  · have reaches : s.svp.idle.reaches s.count Params.serviceGapPeriods = true := by
      rw [idle]
      cases known <;> exact decide_eq_true late
    rw [if_pos reaches]
    refine ⟨only _, ?_⟩
    have started : s.svp.idle.startAt s.count Params.serviceGapPeriods = if known then start else now - 160000 := by
      rw [idle]
      cases known <;> rfl
    rw [started, State.putSvp_svp, Svp.afterGap_eq]
    rfl
  · have notYet : s.svp.idle.reaches s.count Params.serviceGapPeriods = false := by
      rw [idle]
      cases known <;> exact decide_eq_false (Nat.not_le.mpr early)
    rw [exec, execServiceGap, notYet]
    rfl
  all_goals
    have busy : s.replying = true := by rw [State.replying, replies]; rfl
    rw [if_pos busy]
    refine ⟨only _, ?_⟩
  · rw [State.putSvp_svp, Svp.dropped, if_neg listens]
    rfl
  · rw [State.putSvp_svp, Svp.dropped, if_pos discard]
    rfl
  · rfl

end Sys2Proof.Machine
end

section
/-! PROOFS. Characters: the bits of a byte's character, and what any eleven sampled bits give (R1, R5). -/

namespace Sys2Proof.Machine

/-- The byte whose data bits are these. -/
def byteOfBits (f : Nat → Bool) : Byte := BitVec.ofNat 8 ((List.range 8).map fun i => if f i then 2 ^ i else 0).sum

/-- The even parity of eight data bits. -/
def parityOf (f : Nat → Bool) : Bool := (List.range 8).foldl (fun p i => p != f i) false

theorem characterOf_eq (sampled : List Bool) :
    characterOf sampled =
      if sampled.getD 9 false = parityBit (byteOfBits fun i => sampled.getD (i + 1) false) && sampled.getD 10 false then
        some (byteOfBits fun i => sampled.getD (i + 1) false)
      else none := rfl

theorem sum_bits_lt (f : Nat → Bool) (n : Nat) : ((List.range n).map fun i => if f i then 2 ^ i else 0).sum < 2 ^ n := by
  induction n with
  | zero => exact Nat.one_pos
  | succ n ih =>
    rw [List.range_succ, List.map_append, List.sum_append, Nat.pow_succ]
    simp only [List.map_cons, List.map_nil, List.sum_cons, List.sum_nil]
    split <;> omega

theorem testBit_sum_bits (f : Nat → Bool) (n j : Nat) (inside : j < n) :
    ((List.range n).map fun i => if f i then 2 ^ i else 0).sum.testBit j = f j := by
  induction n with
  | zero => cases inside
  | succ n ih =>
    have small := sum_bits_lt f n
    have split_ : ((List.range (n + 1)).map fun i => if f i then 2 ^ i else 0).sum =
        2 ^ n * (f n).toNat + ((List.range n).map fun i => if f i then 2 ^ i else 0).sum := by
      rw [List.range_succ, List.map_append, List.sum_append, Nat.add_comm]
      cases h : f n <;> simp [h]
    rw [split_, Nat.testBit_two_pow_mul_add _ small]
    split
    · rename_i low
      exact ih low
    · obtain rfl : j = n := by omega
      rw [Nat.sub_self]
      cases f j <;> rfl

theorem getLsbD_byteOfBits (f : Nat → Bool) {i : Nat} (inside : i < 8) : (byteOfBits f).getLsbD i = f i := by
  rw [byteOfBits, BitVec.getLsbD_ofNat, decide_eq_true inside, Bool.true_and, testBit_sum_bits f 8 i inside]

theorem parityOf_congr {f g : Nat → Bool} (same : ∀ i, i < 8 → f i = g i) : parityOf f = parityOf g := by
  simp only [parityOf, List.range_eq_range', List.range', List.foldl_cons, List.foldl_nil]
  rw [same 0 (by decide), same 1 (by decide), same 2 (by decide), same 3 (by decide), same 4 (by decide), same 5 (by decide),
    same 6 (by decide), same 7 (by decide)]

theorem parityBit_byteOfBits (f : Nat → Bool) : parityBit (byteOfBits f) = parityOf f :=
  parityOf_congr fun _ inside => getLsbD_byteOfBits f inside

theorem byteOfBits_getLsbD {f : Nat → Bool} {b : Byte} (bits : ∀ i, i < 8 → f i = b.getLsbD i) : byteOfBits f = b := by
  refine BitVec.eq_of_getLsbD_eq fun i inside => ?_
  rw [getLsbD_byteOfBits f inside, bits i inside]

/-- One data bit turned over turns the parity over. -/
theorem parityOf_flip {f g : Nat → Bool} {k : Nat} (inside : k < 8) (flipped : g k = !f k) (same : ∀ i, i ≠ k → g i = f i) :
    parityOf g = !parityOf f := by
  have eq (i : Nat) : g i = (f i != decide (i = k)) := by
    by_cases here : i = k
    · subst here
      simp [flipped]
    · simp [here, same i here]
  rw [parityOf_congr fun i _ => eq i]
  simp only [parityOf, List.range_eq_range', List.range', List.foldl_cons, List.foldl_nil]
  interval_cases k <;> simp

/-! A byte's character. -/

section OfByte

variable (b : Byte)

theorem characterBits_data {i : Nat} (inside : i < 8) : (characterBits b)[i + 1]? = some (b.getLsbD i) := by
  interval_cases i <;> rfl

theorem characterBits_parity : (characterBits b)[9]? = some (parityOf b.getLsbD) := rfl

theorem characterBits_stop : (characterBits b)[10]? = some true := rfl

/-- The data bits and the parity bit hold an even number of ones. -/
theorem characterBits_even : ((characterBits b).drop 1 |>.take 9).count true % 2 = 0 := by
  have bits : ((characterBits b).drop 1).take 9 =
      [b.getLsbD 0, b.getLsbD 1, b.getLsbD 2, b.getLsbD 3, b.getLsbD 4, b.getLsbD 5, b.getLsbD 6, b.getLsbD 7,
        parityOf b.getLsbD] := rfl
  rw [bits]
  simp only [parityOf, List.range_eq_range', List.range', List.foldl_cons, List.foldl_nil]
  generalize b.getLsbD 0 = b0, b.getLsbD 1 = b1, b.getLsbD 2 = b2, b.getLsbD 3 = b3, b.getLsbD 4 = b4, b.getLsbD 5 = b5,
    b.getLsbD 6 = b6, b.getLsbD 7 = b7
  revert b0 b1 b2 b3 b4 b5 b6 b7
  decide

theorem characterOf_characterBits : characterOf (characterBits b) = some b := by
  have data : byteOfBits (fun i => (characterBits b).getD (i + 1) false) = b :=
    byteOfBits_getLsbD fun i inside => by rw [List.getD_eq_getElem?_getD, characterBits_data b inside]; rfl
  rw [characterOf_eq, data]
  exact if_pos (by simp [List.getD_eq_getElem?_getD, characterBits_parity, characterBits_stop, parityBit, parityOf])

/-- A character with one bit but the start bit sampled wrong is in error (R5). -/
theorem characterOf_wrong {i : Nat} (first : 1 ≤ i) (last : i ≤ 10) : characterOf ((characterBits b).modify i (!·)) = none := by
  have sampled (j : Nat) {x : Bool} (bit : (characterBits b)[j]? = some x) :
      ((characterBits b).modify i (!·)).getD j false = if i = j then !x else x := by
    rw [List.getD_eq_getElem?_getD, List.getElem?_modify, bit]
    split <;> simp
  have parity := sampled 9 (characterBits_parity b)
  have stop := sampled 10 (characterBits_stop b)
  have data (j : Nat) (inside : j < 8) := sampled (j + 1) (characterBits_data b inside)
  rw [characterOf_eq, parityBit_byteOfBits, parity, stop]
  refine if_neg ?_
  rcases Nat.lt_or_ge i 9 with low | high
  · have turned : parityOf (fun j => if j = i - 1 then !b.getLsbD j else b.getLsbD j) = !parityOf b.getLsbD :=
      parityOf_flip (k := i - 1) (by omega) (if_pos rfl) fun j other => if_neg other
    have same : parityOf (fun j => ((characterBits b).modify i (!·)).getD (j + 1) false) = !parityOf b.getLsbD := by
      rw [← turned]
      refine parityOf_congr fun j inside => (data j inside).trans ?_
      by_cases here : i = j + 1
      · rw [if_pos here, if_pos (by omega)]
      · rw [if_neg here, if_neg (by omega)]
    rw [same, if_neg (by omega)]
    simp
  · have same : parityOf (fun j => ((characterBits b).modify i (!·)).getD (j + 1) false) = parityOf b.getLsbD :=
      parityOf_congr fun j inside => (data j inside).trans (if_neg (by omega))
    rw [same]
    rcases Nat.lt_or_ge i 10 with nine | ten
    · rw [if_pos (by omega)]
      simp
    · rw [if_pos (c := i = 10) (by omega)]
      simp

end OfByte

end Sys2Proof.Machine
end

section
/-! PROOFS. What a notice heard leaves of the line interface and the peer rows, and what stays pending (R9 to R12). -/

namespace Sys2Proof.Machine

/-! The line interface but for its queue. -/

/-- The line interface but for its transmit queue. -/
def State.receiver (s : State) : Lif := { s.lif with queue := [] }

theorem State.receiver_fields {s t : State} (same : t.receiver = s.receiver) :
    t.lif.rx = s.lif.rx ∧ t.lif.inFlight = s.lif.inFlight ∧ t.lif.counters = s.lif.counters :=
  ⟨(congrArg Lif.rx same : t.receiver.rx = s.receiver.rx), (congrArg Lif.inFlight same : t.receiver.inFlight = _),
    (congrArg Lif.counters same : t.receiver.counters = _)⟩

section Receiver

variable {s t : State}

theorem PlanMove.receiver (move : PlanMove s t) : t.receiver = s.receiver := by
  cases move with
  | expire => simp [State.receiver]
  | _ => rfl

theorem Plans.receiver (plans : Plans s t) : t.receiver = s.receiver :=
  keeps_of_moves (P := fun t => t.receiver = s.receiver) (fun _ _ move h => move.receiver.trans h) plans rfl

theorem Onsets.receiver (onsets : Onsets s t) : t.receiver = s.receiver := by
  refine keeps_of_moves (P := fun t => t.receiver = s.receiver) (fun _ _ move h => ?_) onsets rfl
  cases move with
  | plan move => exact move.receiver.trans h
  | _ => exact h

theorem Holds.receiver (holds : Holds s t) : t.receiver = s.receiver := by
  refine keeps_of_moves (P := fun t => t.receiver = s.receiver) (fun _ _ move h => ?_) holds rfl
  cases move with
  | plan move => exact move.receiver.trans h
  | hold => exact h

end Receiver

section Operations

variable (s : State)

theorem State.receiver_congr {s t : State} (same : t.lif = s.lif) : t.receiver = s.receiver := by
  rw [State.receiver, State.receiver, same]

theorem State.evaluateView_receiver (e : ViewEvent) (order : List Dependant) :
    (s.evaluateView e order).receiver = s.receiver := by
  unfold State.evaluateView
  split
  · rfl
  · split
    · rw [State.tripOnset_eq,
        foldl_keeps _ State.receiver fun s d => Onsets.receiver (State.deliverOnset_onsets s _ _ d)]
      unfold State.onsetTaken
      dsimp only
      split <;> rfl
    · rw [State.tripRelease, foldl_keeps State.clearTripFlag State.receiver fun _ _ => rfl]
      rw [State.tripHoldRelease]
      exact (Plans.receiver (State.replan_plans _)).trans rfl

theorem State.deliverSteps_receiver (e : StepEvent) (order : List Dependant) : (s.deliverSteps e order).receiver = s.receiver := by
  refine foldl_keeps (State.deliverStep e) State.receiver (fun s d => ?_) _ _
  cases d with
  | group g => exact State.receiver_congr (s.groupStep_frame g e).2.2.2.2.1
  | scalingWatch => exact State.receiver_congr (s.intervalStep_frame e).2.2.2.2.2.1
  | planner => exact Plans.receiver s.plannerStep_plans
  | unit n => exact Plans.receiver (s.unitStep_plans n e)

theorem State.writeRow_receiver (n : StationNo) (x : PeerRow) : (s.writeRow n x).receiver = s.receiver := by
  unfold State.writeRow
  dsimp only
  split
  · exact (Holds.receiver (State.evaluateScalingHold_holds _)).trans rfl
  · rfl

theorem State.advanceBy_receiver (d : LineTime) (distance : Nat) : (s.advanceBy d distance).receiver = s.receiver :=
  State.receiver_congr (s.advanceBy_frame d distance).2.2.2.2.1

theorem State.timeHeard_receiver (n : StationNo) (senderTime syncTime : LineTime) (joined : Bool) (order : List Dependant) :
    (s.timeHeard n senderTime syncTime joined order).receiver = s.receiver := by
  unfold State.timeHeard
  dsimp only
  split
  · rfl
  · split
    · unfold State.joinBy
      dsimp only
      split
      · exact s.advanceBy_receiver _ _
      · exact (State.deliverSteps_receiver _ _ _).trans (s.advanceBy_receiver _ _)
    · split
      · exact (State.deliverSteps_receiver _ _ _).trans (s.advanceBy_receiver _ _)
      · exact State.receiver_congr (State.stray_frame ..).2.2.2.2.1

theorem State.timeHeld_receiver (n : StationNo) (p : List Byte) (order : List Dependant) :
    (s.timeHeld n p order).receiver = s.receiver := by
  have viewed : (s.timeViewed n p order).receiver = s.receiver := by
    unfold State.timeViewed
    split
    · exact (State.evaluateView_receiver ..).trans (s.writeRow_receiver n _)
    · exact s.writeRow_receiver n _
  unfold State.timeHeld
  split
  · exact (Holds.receiver (State.evaluateScalingHold_holds _)).trans viewed
  · exact viewed

/-- A notice heard leaves the line interface but for its queue. -/
theorem State.hear_receiver (kind : Nat) {n : StationNo} (foreign : n ≠ s.stationNo) (p : List Byte) (order : List Dependant) :
    (s.hear kind n p order).receiver = s.receiver := by
  have row (x : PeerRow) := s.writeRow_receiver n x
  unfold State.hear
  split
  · exact (State.timeHeard_receiver _ _ _ _ _ _).trans (s.timeHeld_receiver n p order)
  · refine (Plans.receiver (State.claimHeard_plans _ ?_)).trans (row _)
    rw [(State.writeRow_frame ..).2.1]
    exact foreign
  · refine (Plans.receiver (State.releaseHeard_plans _ ?_ _)).trans (row _)
    rw [(State.writeRow_frame ..).2.1]
    exact foreign
  · exact (State.evaluateView_receiver ..).trans (row _)
  · exact (State.evaluateView_receiver ..).trans (row _)
  · exact row _
  · exact (Holds.receiver (State.evaluateScalingHold_holds _)).trans (row _)
  · rfl

/-! The peer rows. -/

theorem State.writeRow_peers (n : StationNo) (x : PeerRow) : (s.writeRow n x).peers = s.peers.set n x := by
  unfold State.writeRow
  dsimp only
  split
  · exact (State.evaluateScalingHold_frame _).2.2.2.2.2.1
  · rfl

theorem State.evaluateView_peers (e : ViewEvent) (order : List Dependant) : (s.evaluateView e order).peers = s.peers :=
  (s.evaluateView_frame e order).2.2.2.2.1

theorem State.evaluateScalingHold_peers : s.evaluateScalingHold.peers = s.peers := s.evaluateScalingHold_frame.2.2.2.2.2.1

theorem State.timeHeld_peers (n : StationNo) (p : List Byte) (order : List Dependant) :
    (s.timeHeld n p order).peers = s.peers.set n (timeRow (s.heardRow n) p) := by
  have viewed : (s.timeViewed n p order).peers = s.peers.set n (timeRow (s.heardRow n) p) := by
    unfold State.timeViewed
    split
    · exact (State.evaluateView_peers ..).trans (s.writeRow_peers n _)
    · exact s.writeRow_peers n _
  unfold State.timeHeld
  split
  · exact (State.evaluateScalingHold_peers _).trans viewed
  · exact viewed

/-- The stray count of a sender's row once its time has been heard (R40). -/
def State.strayAfter (s : State) (n : StationNo) (senderTime syncTime : LineTime) (joined : Bool) : Counter16 :=
  if joined && s.tmu.joined && timeDifference senderTime syncTime < 1
      && exceedsMs (timeDifference senderTime syncTime).natAbs s.config.strayMs then s.peers[n].strayCount + 1
  else s.peers[n].strayCount

/-- A time heard changes no more of the rows than the sender's stray count (R40). -/
theorem State.timeHeard_peers (n m : StationNo) (senderTime syncTime : LineTime) (joined : Bool) (order : List Dependant) :
    (s.timeHeard n senderTime syncTime joined order).peers[m] =
      if m = n then { s.peers[m] with strayCount := s.strayAfter n senderTime syncTime joined } else s.peers[m] := by
  have same (t : State) (peers : t.peers = s.peers) (count : s.strayAfter n senderTime syncTime joined = s.peers[n].strayCount) :
      t.peers[m] = if m = n then { s.peers[m] with strayCount := s.strayAfter n senderTime syncTime joined } else s.peers[m] := by
    rw [peers, count]
    split
    · rename_i here
      rw [here]
    · rfl
  unfold State.timeHeard
  dsimp only
  split
  · rename_i unjoined
    exact same s rfl (by rw [State.strayAfter, if_neg (by simp_all)])
  · split
    · rename_i alone
      exact same _ (State.joinBy_frame ..).2.2.2.2.1 (by rw [State.strayAfter, if_neg (by simp_all)])
    · split
      · rename_i ahead
        exact same _ (State.stepBy_frame ..).2.2.2.2.1 (by rw [State.strayAfter, if_neg (by simp; omega)])
      · rename_i joinedSender joinedSelf behind
        have counts : s.strayAfter n senderTime syncTime joined =
            if exceedsMs (timeDifference senderTime syncTime).natAbs s.config.strayMs then s.peers[n].strayCount + 1
            else s.peers[n].strayCount := by
          rw [State.strayAfter]
          simp only [Bool.not_eq_true', Bool.not_eq_false] at joinedSender joinedSelf
          simp [joinedSender, joinedSelf, show timeDifference senderTime syncTime < 1 by omega]
        unfold State.stray
        split
        · rename_i far
          rw [if_pos far] at counts
          refine (State.putPeer_get s n m _).trans ?_
          rw [counts]
          split
          · rename_i here
            rw [here]
          · rfl
        · rename_i near
          rw [if_neg near] at counts
          exact same s rfl counts

/-- The sender's row once a notice of a kind has been heard, but for its stray count (R12, R14, R17 to R20). -/
def State.rowAfter (s : State) (kind : Nat) (n : StationNo) (p : List Byte) : PeerRow :=
  match kind with
  | 1 => timeRow (s.heardRow n) p
  | 4 => { s.heardRow n with tripLatched := true }
  | 5 => { s.heardRow n with tripLatched := false }
  | 6 => heatRow (s.heardRow n) p
  | 7 => scaleRow (s.heardRow n) p
  | _ => s.heardRow n

theorem State.rowAfter_heard (kind : Nat) (n : StationNo) (p : List Byte) :
    (s.rowAfter kind n p).heard = true ∧ (s.rowAfter kind n p).lastHeard = s.tmu.lineTime
      ∧ (s.rowAfter kind n p).silence = .running s.tmu.localCount ∧ (s.rowAfter kind n p).silent = false
      ∧ (s.rowAfter kind n p).strayCount = s.peers[n].strayCount := by
  unfold State.rowAfter
  split <;> exact ⟨rfl, rfl, rfl, rfl, rfl⟩

/-- A notice heard other than TIME writes the sender's row and no other. -/
theorem State.hear_peers {kind : Nat} (defined : kindLength? kind ≠ none) (notTime : kind ≠ 1) (n : StationNo) (p : List Byte)
    (order : List Dependant) : (s.hear kind n p order).peers = s.peers.set n (s.rowAfter kind n p) := by
  have row (x : PeerRow) := s.writeRow_peers n x
  unfold State.hear
  split
  · contradiction
  · exact (State.claimHeard_frame ..).2.2.2.2.1.trans (row _)
  · exact (State.releaseHeard_frame ..).2.2.2.2.2.1.trans (row _)
  · exact (State.evaluateView_peers ..).trans (row _)
  · exact (State.evaluateView_peers ..).trans (row _)
  · exact row _
  · exact (State.evaluateScalingHold_peers _).trans (row _)
  · rename_i k _ _ _ _ _ _ _
    exact absurd (by unfold kindLength?; split <;> first | contradiction | rfl) defined

theorem State.hear_time_peers (n m : StationNo) (p : List Byte) (order : List Dependant) :
    (s.hear 1 n p order).peers[m] =
      if m = n then
        { timeRow (s.heardRow n) p with
          strayCount := (s.timeHeld n p order).strayAfter n (BitVec.ofNat 32 (fieldNat p 0 4)) s.lif.syncTime
            (timeRow (s.heardRow n) p).joined }
      else s.peers[m] := by
  refine ((s.timeHeld n p order).timeHeard_peers n m _ _ _ order).trans ?_
  have held : (s.timeHeld n p order).peers[m] = if m = n then timeRow (s.heardRow n) p else s.peers[m] := by
    rw [State.timeHeld_peers]
    exact s.putPeer_get n m _
  rw [held]
  split <;> rfl

end Operations

end Sys2Proof.Machine
end

section
/-! PROOFS. The checks of a frame, and the notice that it hears (R9, R10, R12); what a heard TIME does to line time (2.6). -/

namespace Sys2Proof.Machine

/-! Pending causes that a time step leaves pending. -/

/-- Every cause that is pending in s is pending in t. -/
def State.keepsPending (s t : State) : Prop := ∀ cause, s.isPending cause = true → t.isPending cause = true

theorem State.keepsPending_trans {s t u : State} (h : s.keepsPending t) (g : t.keepsPending u) : s.keepsPending u :=
  fun cause pending => g cause (h cause pending)

theorem State.keepsPending_of_attention {s t : State} (same : t.attention = s.attention) : s.keepsPending t := by
  intro cause pending
  rw [State.isPending, same]
  exact pending

theorem State.keepsPending_raiseIn (s : State) (cause : Cause) (reason : Option ClaimFailure) (t : LineTime) :
    s.keepsPending { s with attention := raiseIn cause reason t s.attention } := by
  intro other pending
  refine (any_raiseIn (fun c => decide (c = other)) cause reason t s.attention).trans ?_
  rw [show (s.attention.any fun p => decide (p.cause = other)) = true from pending, Bool.true_or]

section KeepsPending

variable {s t : State}

theorem PlanMove.keepsPending (move : PlanMove s t) : s.keepsPending t := by
  cases move with
  | note cause why _ => exact s.keepsPending_raiseIn cause why _
  | expire => exact State.keepsPending_of_attention (by simp)
  | _ => exact State.keepsPending_of_attention rfl

theorem Plans.keepsPending (plans : Plans s t) : s.keepsPending t :=
  keeps_of_moves (P := fun t => s.keepsPending t) (fun _ _ move h => State.keepsPending_trans h move.keepsPending) plans
    fun _ pending => pending

theorem State.closeSet_keepsPending (s : State) (g : GroupNo) (o : OpenSet) (endTime : LineTime) (short : Bool) :
    s.keepsPending (s.closeSet g o endTime short) := by
  have noted (u : State) (loss : Bool) : u.keepsPending (u.lossNoted g loss) := by
    unfold State.lossNoted
    split
    · exact u.keepsPending_raiseIn _ _ _
    · exact fun _ pending => pending
  have marked (u : State) : u.keepsPending (u.countMark g) := by
    unfold State.countMark
    dsimp only
    split
    · exact fun _ pending => pending
    · split
      · exact (u.putGroup g _).keepsPending_raiseIn _ _ _
      · exact fun _ pending => pending
  have latest (u : State) (r : Reading) : (u.takeLatest r).attention = u.attention := by simp
  unfold State.closeSet
  dsimp only
  rw [State.enterRing_eq]
  generalize Group.reportsLoss _ = loss
  generalize Group.ringEntered _ _ = entered
  have ring := State.keepsPending_trans (noted s loss) (marked ((s.lossNoted g loss).putGroup g entered))
  refine State.keepsPending_trans ring ?_
  refine State.keepsPending_of_attention ?_
  rw [(State.setToWatch_frame ..).2.2.2.2.1, foldl_keeps State.takeLatest State.attention latest]

theorem State.deliverSteps_keepsPending (s : State) (e : StepEvent) (order : List Dependant) :
    s.keepsPending (s.deliverSteps e order) := by
  refine foldl_holds (State.deliverStep e) (fun t => s.keepsPending t) (fun t d h => State.keepsPending_trans h ?_) _ _
    fun _ pending => pending
  cases d with
  | group g =>
    show t.keepsPending (t.groupStep g e)
    unfold State.groupStep
    split
    · exact fun _ pending => pending
    · split
      · exact t.closeSet_keepsPending g _ _ _
      · exact fun _ pending => pending
  | scalingWatch => exact State.keepsPending_of_attention (t.intervalStep_frame e).2.2.2.2.1
  | planner => exact Plans.keepsPending t.plannerStep_plans
  | unit n => exact Plans.keepsPending (t.unitStep_plans n e)

end KeepsPending

/-! The checks of a complete frame (R9, R10). -/

section Frame

variable {s : State}

/-- The check byte of a whole frame is taken, and the frame is judged. -/
theorem exec_frameReceived (enabled : s.lineEnabled = true) (whole : s.lif.expectsCheck = true) (check : Byte)
    (order : List Dependant) :
    exec (.frameReceived check order) s =
      .next ((s.putLif (s.frameTaken check)).frameComplete s.lif.buffer (s.endsOwnFrame check) check order) := by
  rw [exec, execFrameReceived, enabled, whole]
  rfl

theorem State.frameComplete_of_bad {u : State} {body : List Byte} {check : Byte} (bad : check ≠ checkByte body) (own : Bool)
    (order : List Dependant) :
    u.frameComplete body own check order = u.putCounters { u.lif.counters with checkError := u.lif.counters.checkError + 1 } :=
  if_pos (by simpa using bad.symm)

theorem State.frameComplete_of_own {u : State} {body : List Byte} {check : Byte} (good : check = checkByte body)
    (order : List Dependant) : u.frameComplete body true check order = u := by
  subst good
  simp [State.frameComplete]

theorem State.frameComplete_of_foreign {u : State} {head length check : Byte} {p : List Byte}
    (good : check = checkByte (head :: length :: p)) (order : List Dependant) :
    u.frameComplete (head :: length :: p) false check order =
      u.validate (head.toNat / 16) (indexMod 16 head.toNat) p order := by
  subst good
  simp [State.frameComplete]

theorem State.endsOwnFrame_iff (check : Byte) :
    s.endsOwnFrame check = true ↔ ∃ f, s.lif.inFlight = some f ∧ f.collided = false
      ∧ (lineFrame f.notice.kind s.stationNo f.payload)[f.readBack]? = some check
      ∧ f.readBack + 1 = (lineFrame f.notice.kind s.stationNo f.payload).length := by
  simp only [State.endsOwnFrame, Option.any_eq_true, Bool.and_eq_true, Bool.not_eq_true', State.flightFrame, and_assoc]
  exact exists_congr fun f => and_congr_right fun _ => and_congr_right fun _ => and_congr decide_eq_true_iff decide_eq_true_iff

theorem kindLength?_isSome (kind : Nat) : kindLength? kind ≠ none ↔ 1 ≤ kind ∧ kind ≤ 7 := by
  constructor
  · intro defined
    by_contra outside
    apply defined
    unfold kindLength?
    split <;> first | omega | rfl
  · rintro ⟨low, high⟩
    interval_cases kind <;> nofun

/-- A station's nibble of a frame's head byte. -/
theorem indexMod_eq {head : Byte} {sender : StationNo} (nibble : head.toNat % 16 = sender.val) :
    indexMod 16 head.toNat = sender :=
  Fin.ext nibble

theorem State.validate_of_unknown {u : State} {kind : Nat} (unknown : kindLength? kind = none) (sender : StationNo)
    (p : List Byte) (order : List Dependant) : u.validate kind sender p order =
      u.putCounters { u.lif.counters with unknownKind := u.lif.counters.unknownKind + 1 } := by
  rw [State.validate, unknown]

theorem State.validate_of_duplicate {u : State} {kind : Nat} (defined : kindLength? kind ≠ none) {sender : StationNo}
    (own : sender = u.stationNo) (p : List Byte) (order : List Dependant) : u.validate kind sender p order =
      (u.putCounters { u.lif.counters with validFrame := u.lif.counters.validFrame + 1 }).raise .duplicateStation := by
  obtain ⟨length, is⟩ := Option.ne_none_iff_exists'.mp defined
  rw [State.validate, is]
  exact if_pos own

theorem State.validate_of_badLength {u : State} {kind : Nat} (defined : kindLength? kind ≠ none) {sender : StationNo}
    (foreign : sender ≠ u.stationNo) {p : List Byte} (bad : kindLength? kind ≠ some p.length) (order : List Dependant) :
    u.validate kind sender p order =
      u.putCounters { u.lif.counters with badLength := u.lif.counters.badLength + 1 } := by
  obtain ⟨length, is⟩ := Option.ne_none_iff_exists'.mp defined
  rw [is] at bad
  rw [State.validate, is]
  exact (if_neg foreign).trans (if_pos (by simpa using Ne.symm fun same => bad (congrArg some same)))

/-- The state in which a valid frame of another station reaches its owner. -/
def State.asValid (u : State) : State :=
  u.putCounters { u.lif.counters with validFrame := u.lif.counters.validFrame + 1 }

theorem State.validate_of_heard {u : State} {kind : Nat} {sender : StationNo} (foreign : sender ≠ u.stationNo) {p : List Byte}
    (good : kindLength? kind = some p.length) (order : List Dependant) :
    u.validate kind sender p order = u.asValid.hear kind sender p order := by
  rw [State.validate, good]
  exact (if_neg foreign).trans (if_neg (by simp))

/-- A frame that is judged by its kind leaves the count of check errors. -/
theorem State.validate_checkError {u : State} (kind : Nat) (sender : StationNo) (p : List Byte) (order : List Dependant) :
    (u.validate kind sender p order).lif.counters.checkError = u.lif.counters.checkError := by
  by_cases defined : kindLength? kind = none
  · rw [State.validate_of_unknown defined]
    rfl
  by_cases own : sender = u.stationNo
  · rw [State.validate_of_duplicate defined own]
    rfl
  by_cases good : kindLength? kind = some p.length
  · rw [State.validate_of_heard own good]
    obtain ⟨-, -, counters⟩ := State.receiver_fields (State.hear_receiver u.asValid kind own p order)
    rw [counters]
    rfl
  · rw [State.validate_of_badLength defined own good]
    rfl

end Frame

/-- Settles O16: the branches of the frame's judgement. -/
theorem frameReceivedIsChecked : Obligations.FrameReceivedIsChecked := by
  intro s check head length p order enabled frame buffer whole good kind own counted c
  have complete : s.lif.expectsCheck = true := by
    rw [Lif.expectsCheck, frame, buffer]
    exact decide_eq_true whole
  have run := exec_frameReceived enabled complete check order
  have only (x : Lif) : s.onlyChanges (s.putLif x) [.lif] := by simp [State.onlyChanges, Part.all, Part.same]
  refine ⟨fun bad => ?_, fun right isOwn => ?_, fun right notOwn => ?_⟩
  · rw [State.frameComplete_of_bad bad] at run
    exact ⟨_, run, only _, rfl⟩
  · rw [(State.endsOwnFrame_iff check).mpr isOwn, State.frameComplete_of_own right] at run
    exact ⟨_, run, only _, rfl⟩
  have foreign : s.endsOwnFrame check = false := Bool.eq_false_iff.mpr fun ends => notOwn ((State.endsOwnFrame_iff check).mp ends)
  have right' : check = checkByte (head :: length :: p) := by rw [right, ← buffer]
  rw [foreign, buffer, State.frameComplete_of_foreign right'] at run
  have definedIff := kindLength?_isSome kind
  refine ⟨fun outside => ?_, fun low high => ?_⟩
  · have unknown : kindLength? kind = none := by
      by_contra defined
      have := definedIff.mp defined
      omega
    rw [State.validate_of_unknown unknown] at run
    exact ⟨_, run, only _, rfl⟩
  have defined := definedIff.mpr ⟨low, high⟩
  refine ⟨fun ownNumber => ?_, fun sender nibble other => ⟨fun bad => ?_, fun fits => ?_⟩⟩
  · rw [indexMod_eq ownNumber, State.validate_of_duplicate (u := s.putLif (s.frameTaken check))
      (sender := s.stationNo) defined rfl] at run
    refine ⟨_, run, ?_, rfl, State.isPending_raise _ _⟩
    simp [State.onlyChanges, Part.all, Part.same, State.raise]
  · rw [indexMod_eq nibble, State.validate_of_badLength (u := s.putLif (s.frameTaken check)) defined other bad] at run
    exact ⟨_, run, only _, rfl⟩
  · rw [indexMod_eq nibble, State.validate_of_heard (u := s.putLif (s.frameTaken check)) other fits] at run
    obtain ⟨rx, flight, counters⟩ :=
      State.receiver_fields (State.hear_receiver (s.putLif (s.frameTaken check)).asValid kind other p order)
    have row := State.rowAfter_heard (s.putLif (s.frameTaken check)).asValid kind sender p
    refine ⟨_, run, counters, rx, flight, ?_⟩
    by_cases isTime : kind = 1
    · rw [isTime] at row ⊢
      simp only [State.hear_time_peers, if_true]
      refine ⟨row.1, row.2.1, row.2.2.1, row.2.2.2.1, fun m elsewhere => ?_⟩
      exact (State.hear_time_peers ..).trans (if_neg elsewhere)
    · rw [State.hear_peers _ defined isTime]
      have rows (m : StationNo) := State.putPeer_get (s.putLif (s.frameTaken check)).asValid sender m
        ((s.putLif (s.frameTaken check)).asValid.rowAfter kind sender p)
      have written := (rows sender).trans (if_pos rfl)
      refine ⟨?_, ?_, ?_, ?_, fun m elsewhere => (rows m).trans (if_neg elsewhere)⟩
      · exact (congrArg PeerRow.heard written).trans row.1
      · exact (congrArg PeerRow.lastHeard written).trans row.2.1
      · exact (congrArg PeerRow.silence written).trans row.2.2.1
      · exact (congrArg PeerRow.silent written).trans row.2.2.2.1

end Sys2Proof.Machine
end

section
/-! PROOFS. The check byte of every frame (R2), and what a heard TIME does to line time (R37 to R40). -/

namespace Sys2Proof.Machine

/-! The check byte (R2). -/

theorem checkByte_iff (bytes : List Byte) (check : Byte) :
    check.toNat = (0x5C + (255 - (bytes.map (·.toNat)).sum % 256)) % 256 ↔ check = checkByte bytes := by
  rw [BitVec.toNat_eq, checkByte, checkByteOf, BitVec.toNat_ofNat]
  exact Iff.rfl

theorem requestBytes_eq (code : Byte) (p : List Byte) : requestBytes code.toNat p = code :: BitVec.ofNat 8 p.length :: p := by
  simp [requestBytes]

/-- A frame that is judged counts a check error exactly when its check byte is not the right one (R9). -/
theorem State.frameComplete_checkError (u : State) (body : List Byte) (own : Bool) (check : Byte) (order : List Dependant) :
    (u.frameComplete body own check order).lif.counters.checkError = u.lif.counters.checkError + 1 ↔ check ≠ checkByte body := by
  by_cases good : check = checkByte body
  · have same : (u.frameComplete body own check order).lif.counters.checkError = u.lif.counters.checkError := by
      subst good
      unfold State.frameComplete
      simp only [bne_self_eq_false, Bool.false_eq_true, if_false]
      split
      · rfl
      · exact State.validate_checkError _ _ _ _
    rw [same]
    simp [good]
  · rw [State.frameComplete_of_bad good]
    simp [good]

/-- Settles O9: the character by its bits, and the check byte by the sum of the bytes before it. -/
theorem checkByteEndsEveryFrame : Obligations.CheckByteEndsEveryFrame := by
  refine ⟨fun b => ⟨rfl, rfl, characterBits_stop b, characterBits_even b, fun i inside => characterBits_data b inside,
    characterOf_characterBits b, fun i first last => characterOf_wrong b first last⟩, fun bytes check sums => ?_⟩
  obtain rfl := (checkByte_iff bytes check).mp sums
  refine ⟨?_, ?_, ?_, ?_⟩
  · rintro kind sender p rfl
    rfl
  · rintro r rfl
    rfl
  · rintro s t taken order enabled whole rfl run
    rw [exec_frameReceived enabled whole] at run
    obtain rfl : _ = t := by injection run
    exact State.frameComplete_checkError (s.putLif (s.frameTaken taken)) _ _ _ _
  · rintro s code taken p takes fits rfl
    have judged : exec (.requestBadCheck code p taken) s =
        .next (if checkByte (code :: BitVec.ofNat 8 p.length :: p) = taken then s
          else s.arrive code.toNat p fun s => s.refuse .badCheck) := by
      rw [exec, execRequestBadCheck, requestBytes_eq]
    refine ⟨fun right => judged.trans (by rw [if_pos right.symm]), fun wrong => ?_⟩
    exact State.replies_of_unchanged takes fits (judged.trans (by rw [if_neg wrong.symm])) rfl

/-! A notice heard (R12). -/

/-- The state in which a whole frame's notice reaches its owner. -/
def State.asHeard (s : State) (kind : Nat) (n : StationNo) (p : List Byte) : State :=
  (s.putLif (s.frameTaken (frameCheck kind n p))).asValid

section Hears

variable {s : State} {kind : Nat} {n : StationNo} {p : List Byte} (h : s.hears kind n p)

include h

theorem State.hears.defined : 1 ≤ kind ∧ kind ≤ 7 :=
  (kindLength?_isSome kind).mp (by rw [h.length]; nofun)

theorem State.hears.short : p.length ≤ 14 := by
  obtain ⟨low, high⟩ := h.defined
  have length := h.length
  interval_cases kind <;> (injection length; omega)

/-- A whole frame of another station that waits for its check byte is heard when it comes. -/
theorem State.hears.run (order : List Dependant) :
    exec (.frameReceived (frameCheck kind n p) order) s = .next ((s.asHeard kind n p).hear kind n p order) := by
  obtain ⟨low, high⟩ := h.defined
  have short := h.short
  have size : (BitVec.ofNat 8 p.length).toNat = p.length := by rw [BitVec.toNat_ofNat]; omega
  have head : (BitVec.ofNat 8 (16 * kind + n.val)).toNat = 16 * kind + n.val := by
    rw [BitVec.toNat_ofNat]
    have := n.isLt
    omega
  have whole : s.lif.expectsCheck = true := by
    rw [Lif.expectsCheck, h.frame, h.buffer]
    exact decide_eq_true size.le
  have kindIs : (16 * kind + n.val) / 16 = kind := by have := n.isLt; omega
  have senderIs : indexMod 16 (16 * kind + n.val) = n := Fin.ext (by
    have := n.isLt
    show (16 * kind + n.val) % 16 = n.val
    omega)
  rw [exec_frameReceived h.enabled whole, h.foreign, h.buffer, lineBody, State.frameComplete_of_foreign (check := frameCheck kind n p) rfl,
    head, kindIs, senderIs,
    State.validate_of_heard (u := s.putLif (s.frameTaken _)) h.other h.length]
  rfl

end Hears

/-! A heard TIME at the time unit (2.6). -/

theorem exceedsMs_iff (distance limitMs : Nat) : exceedsMs distance limitMs = true ↔ 1000 * limitMs < distance := by
  rw [exceedsMs, decide_eq_true_iff, Nat.mul_comm]

section TimeHeard

variable (s : State) (n : StationNo) (senderTime syncTime : LineTime) (order : List Dependant)

theorem State.timeHeard_of_unjoined : s.timeHeard n senderTime syncTime false order = s := rfl

theorem State.timeHeard_tmu_join (alone : s.tmu.joined = false) :
    (s.timeHeard n senderTime syncTime true order).tmu =
      { s.tmu with lineTime := s.tmu.lineTime + (senderTime - syncTime), joined := true, joinTimer := none } := by
  have advanced (d : LineTime) (distance : Nat) :
      (s.advanceBy d distance).tmu = { s.tmu with lineTime := s.tmu.lineTime + d, joined := true } := by
    unfold State.advanceBy
    dsimp only
    split <;> rfl
  simp only [State.timeHeard, alone, Bool.not_true, Bool.not_false, Bool.false_eq_true, if_false, if_true, State.joinBy]
  split
  · rw [State.putTmu_tmu, advanced]
  · rw [(State.deliverSteps_frame ..).2.2.2.2.2.2.1, State.putTmu_tmu, advanced]

theorem State.timeHeard_tmu_step (joined : s.tmu.joined = true) (ahead : 1 ≤ (senderTime - syncTime).toInt) :
    (s.timeHeard n senderTime syncTime true order).tmu =
      { s.tmu with lineTime := s.tmu.lineTime + (senderTime - syncTime) } := by
  have advanced (d : LineTime) (distance : Nat) :
      (s.advanceBy d distance).tmu = { s.tmu with lineTime := s.tmu.lineTime + d } := by
    unfold State.advanceBy
    dsimp only
    split <;> simp [joined]
  simp only [State.timeHeard, timeDifference, joined, ahead, Bool.not_true, Bool.false_eq_true, if_false, if_true, State.stepBy]
  rw [(State.deliverSteps_frame ..).2.2.2.2.2.2.1, advanced]
  simp [joined]

theorem State.timeHeard_of_behind (joined : s.tmu.joined = true) (behind : (senderTime - syncTime).toInt ≤ 0) :
    s.timeHeard n senderTime syncTime true order = s.stray n (senderTime - syncTime).toInt.natAbs := by
  simp only [State.timeHeard, timeDifference, joined, Bool.not_true, Bool.false_eq_true, if_false,
    show ¬1 ≤ (senderTime - syncTime).toInt by omega]

/-- A large step is raised and stays pending through the time step (R38, R39). -/
theorem State.timeHeard_largeStep (adopted : s.tmu.joined = false ∨ 1 ≤ (senderTime - syncTime).toInt)
    (large : 1000 * s.config.largeStepMs < (senderTime - syncTime).toInt.natAbs) :
    (s.timeHeard n senderTime syncTime true order).isPending .largeStep = true := by
  have raised (d : LineTime) : (s.advanceBy d (senderTime - syncTime).toInt.natAbs).isPending .largeStep = true := by
    unfold State.advanceBy
    dsimp only
    rw [if_pos ((exceedsMs_iff _ _).mpr large)]
    exact State.isPending_raise _ _
  unfold State.timeHeard
  dsimp only
  rw [if_neg (by decide)]
  split
  · unfold State.joinBy
    dsimp only
    split
    · exact raised _
    · exact State.deliverSteps_keepsPending _ _ _ _ (raised _)
  · rename_i joined
    have ahead : 1 ≤ timeDifference senderTime syncTime := adopted.resolve_left fun alone => joined (by simp [alone])
    rw [if_pos ahead]
    exact State.deliverSteps_keepsPending _ _ _ _ (raised _)

end TimeHeard

section TimeHeld

variable (s : State) (n : StationNo) (p : List Byte) (order : List Dependant)

theorem State.timeHeld_tmu : (s.timeHeld n p order).tmu = s.tmu ∧ (s.timeHeld n p order).config = s.config := by
  have viewed : (s.timeViewed n p order).tmu = s.tmu ∧ (s.timeViewed n p order).config = s.config := by
    unfold State.timeViewed
    split <;> simp
  unfold State.timeHeld
  split
  · simpa using viewed
  · exact viewed

end TimeHeld

/-- Settles O22: the row is written first, and the time unit then judges the two readings. -/
theorem heardTimeIsAdopted : Obligations.HeardTimeIsAdopted := by
  intro s n p order hears advance d senderJoined
  obtain ⟨tmu, config⟩ := (s.asHeard 1 n p).timeHeld_tmu n p order
  have row : (timeRow ((s.asHeard 1 n p).heardRow n) p).joined = senderJoined := bit_eq_testBit _ _
  have heard : (s.asHeard 1 n p).hear 1 n p order =
      ((s.asHeard 1 n p).timeHeld n p order).timeHeard n (BitVec.ofNat 32 (fieldNat p 0 4)) s.lif.syncTime senderJoined order := by
    rw [← row]
    rfl
  have count := ((s.asHeard 1 n p).timeHeld n p order).timeHeard_peers n n (BitVec.ofNat 32 (fieldNat p 0 4)) s.lif.syncTime
    senderJoined order
  rw [if_pos rfl] at count
  have counted := congrArg PeerRow.strayCount count
  have before : ((s.asHeard 1 n p).timeHeld n p order).peers[n].strayCount = s.peers[n].strayCount := by
    rw [State.timeHeld_peers]
    exact (congrArg PeerRow.strayCount (((s.asHeard 1 n p).putPeer_get n n _).trans (if_pos rfl))).trans rfl
  simp only [State.strayAfter, before, tmu, config] at counted
  refine ⟨_, hears.run order, ?_⟩
  rw [heard, counted]
  refine ⟨fun unjoined => ?_, fun joins alone => ⟨?_, fun large => ?_⟩, fun joins joined ahead => ⟨?_, fun large => ?_⟩,
    fun joins joined behind => ⟨?_, fun far => ⟨?_, ?_⟩, fun near => ?_⟩⟩
  · rw [unjoined, State.timeHeard_of_unjoined]
    exact ⟨tmu, if_neg (by simp)⟩
  · rw [joins, State.timeHeard_tmu_join _ _ _ _ _ (by rw [tmu]; exact alone), tmu]
    rfl
  · rw [joins]
    exact State.timeHeard_largeStep _ _ _ _ _ (.inl (by rw [tmu]; exact alone)) (by rw [config]; exact large)
  · rw [joins, State.timeHeard_tmu_step _ _ _ _ _ (by rw [tmu]; exact joined) ahead, tmu]
    rfl
  · rw [joins]
    exact State.timeHeard_largeStep _ _ _ _ _ (.inr ahead) (by rw [config]; exact large)
  · rw [joins, State.timeHeard_of_behind _ _ _ _ _ (by rw [tmu]; exact joined) behind, (State.stray_frame ..).2.2.2.2.2.2.1, tmu]
    rfl
  · refine if_pos ?_
    have notAhead : timeDifference (BitVec.ofNat 32 (fieldNat p 0 4)) s.lif.syncTime ≤ 0 := behind
    have small : timeDifference (BitVec.ofNat 32 (fieldNat p 0 4)) s.lif.syncTime < 1 := by omega
    have exceeds : exceedsMs (timeDifference (BitVec.ofNat 32 (fieldNat p 0 4)) s.lif.syncTime).natAbs s.config.strayMs = true :=
      (exceedsMs_iff _ _).mpr far
    have joinedHeard : (s.asHeard 1 n p).tmu.joined = true := joined
    have configHeard : (s.asHeard 1 n p).config = s.config := rfl
    rw [configHeard, exceeds, joins, joinedHeard]
    simp [small]
  · rw [joins, State.timeHeard_of_behind _ _ _ _ _ (by rw [tmu]; exact joined) behind, State.stray, config]
    have exceeds : exceedsMs (BitVec.ofNat 32 (fieldNat p 0 4) - s.lif.syncTime).toInt.natAbs
        (s.asHeard 1 n p).config.strayMs = true := (exceedsMs_iff _ _).mpr far
    rw [if_pos exceeds]
    exact State.isPending_raise _ _
  · refine if_neg ?_
    have notFar : exceedsMs (timeDifference (BitVec.ofNat 32 (fieldNat p 0 4)) s.lif.syncTime).natAbs s.config.strayMs = false :=
      Bool.eq_false_iff.mpr fun far => absurd ((exceedsMs_iff _ _).mp far) (Nat.not_lt.mpr near)
    have configHeard : (s.asHeard 1 n p).config = s.config := rfl
    rw [configHeard, notFar, Bool.and_false]
    nofun

end Sys2Proof.Machine
end

section
/-! PROOFS. The line receiver's events, the start of a notice, and the timers of the line (R4 to R8, R22 to R25, R36, R42). -/

namespace Sys2Proof.Machine

theorem State.onlyChanges_putLif (s : State) (x : Lif) : s.onlyChanges (s.putLif x) [.lif] := by
  simp [State.onlyChanges, Part.all, Part.same]

theorem State.onlyChanges_putTmu (s : State) (x : Tmu) : s.onlyChanges (s.putTmu x) [.tmu] := by
  simp [State.onlyChanges, Part.all, Part.same]

/-! The read-back (R24, R25). -/

theorem State.flightAfter_eq (s : State) (character : Option Byte) :
    s.flightAfter character = s.lif.inFlight.map fun f =>
      if f.collided = true ∨ (lineFrame f.notice.kind s.stationNo f.payload).length ≤ f.readBack then f
      else if ∃ b, character = some b ∧ (lineFrame f.notice.kind s.stationNo f.payload)[f.readBack]? = some b then
        { f with readBack := f.readBack + 1 }
      else { f with collided := true } := by
  rw [State.flightAfter]
  congr 1
  funext f
  rw [State.flightFrame, InFlight.readsBack]
  by_cases done : f.collided = true ∨ (lineFrame f.notice.kind s.stationNo f.payload).length ≤ f.readBack
  · rw [if_pos done, if_pos (by simpa using done)]
  · rw [if_neg done, if_neg (by simpa using done)]
    obtain ⟨byte, next⟩ : ∃ b, (lineFrame f.notice.kind s.stationNo f.payload)[f.readBack]? = some b :=
      ⟨_, List.getElem?_eq_getElem (by omega)⟩
    rw [next]
    by_cases same : character = some byte
    · rw [if_pos same, if_pos ⟨byte, same, rfl⟩]
    · rw [if_neg same, if_neg]
      rintro ⟨b, is, eq⟩
      exact same (is.trans eq.symm)

theorem Lif.expectsCheck_of_rx {l : Lif} (rx : l.rx ≠ .frame) : l.expectsCheck = false := by
  unfold Lif.expectsCheck
  split
  · contradiction
  · rfl

theorem Lif.expectsLength_of_rx {l : Lif} (rx : l.rx ≠ .frame) : l.expectsLength = false := by
  simp [Lif.expectsLength, rx]

/-- A character without error that is neither a LENGTH above 24 nor a check byte, by the receiver's state. -/
theorem exec_syncTaken {s : State} {byte : Byte} (enabled : s.lineEnabled = true) (notCheck : s.lif.expectsCheck = false)
    (fits : s.lif.expectsLength = true → byte.toNat ≤ 24) (edge : LineTime) :
    exec (.syncTaken byte edge) s = .next (match s.lif.rx with
      | .waitGap => s.putLif (s.heard byte)
      | .hunt => s.putLif (if byte = 0xB5 then (s.heard byte).takeSync edge else s.heard byte)
      | .frame => s.putLif { s.heard byte with buffer := s.lif.buffer ++ [byte] }) := by
  rw [exec, execSyncTaken, if_neg]
  · rfl
  · have notLong : (s.lif.expectsLength && decide (Params.greatestLineLength < byte.toNat)) = false := by
      cases length : s.lif.expectsLength with
      | false => rfl
      | true =>
        rw [Bool.true_and, decide_eq_false_iff_not]
        exact Nat.not_lt.mpr (fits length)
    rw [enabled, notCheck, notLong]
    decide

theorem exec_characterError {s : State} (enabled : s.lineEnabled = true) (stopBit : Bool) :
    exec (.characterError stopBit) s = .next (s.putLif { s.lif with
      rx := if s.lif.rx = .frame then .waitGap else s.lif.rx
      buffer := if s.lif.rx = .frame then [] else s.lif.buffer
      idle := if stopBit then .after s.count else .since s.count
      quiet := none
      inFlight := s.flightAfter none
      counters := { s.lif.counters with characterError := s.lif.counters.characterError + 1 } }) := by
  rw [exec, execCharacterError, if_pos enabled]
  by_cases frame : s.lif.rx = .frame
  · simp [frame, Lif.dropTo]
  · simp [frame]

/-- The receiver after a gap that comes when it is due (R7, R8). -/
theorem exec_gap {s : State} (enabled : s.lineEnabled = true) (due : s.lif.idle.reaches s.count 1409 = true) :
    exec .gap s = .next (s.putLif { s.lif with
      rx := .hunt
      idle := .since (s.lif.idle.startAt s.count 1409)
      buffer := if s.lif.rx = .hunt then s.lif.buffer else []
      counters := { s.lif.counters with
        gapAbort := if s.lif.rx = .frame then s.lif.counters.gapAbort + 1 else s.lif.counters.gapAbort } }) := by
  have both : (s.lineEnabled && s.lif.idle.reaches s.count (Params.gapPeriods + 1)) = true := by
    rw [enabled]
    exact due
  rw [exec, execGap, if_pos both]
  obtain ⟨rx⟩ := s.lif
  cases rx <;> rfl

/-- Settles O15: each event by the receiver's state and by the idle measure. -/
theorem lineReceiverEvents : Obligations.LineReceiverEvents := by
  intro s byte stopBit edge enabled now readBack heard
  have only (x : Lif) := s.onlyChanges_putLif x
  have back (character : Option Byte) : s.flightAfter character = readBack character := s.flightAfter_eq character
  have heardIs : s.heard byte = heard := by
    rw [State.heard, back]
    rfl
  refine ⟨fun hunt => ?_, fun waiting => ?_, fun frame notCheck fits => ?_, fun frame second long => ?_, ?_, ?_⟩
  · have notFrame : s.lif.rx ≠ .frame := by rw [hunt]; nofun
    refine ⟨_, exec_syncTaken enabled (Lif.expectsCheck_of_rx notFrame)
      (fun length => by rw [Lif.expectsLength_of_rx notFrame] at length; cases length) edge, ?_⟩
    rw [hunt, heardIs]
    refine ⟨only _, ?_⟩
    show (if byte = 0xB5 then heard.takeSync edge else heard) = _
    rfl
  · have notFrame : s.lif.rx ≠ .frame := by rw [waiting]; nofun
    refine ⟨_, exec_syncTaken enabled (Lif.expectsCheck_of_rx notFrame)
      (fun length => by rw [Lif.expectsLength_of_rx notFrame] at length; cases length) edge, ?_⟩
    rw [waiting, heardIs]
    exact ⟨only _, rfl⟩
  · have run := exec_syncTaken enabled notCheck (fun length => fits (by simpa [Lif.expectsLength, frame] using length)) edge
    rw [frame] at run
    refine ⟨_, run, only _, ?_⟩
    rw [State.putLif_lif, heardIs]
  · have isLong : (s.lineEnabled && s.lif.expectsLength && decide (Params.greatestLineLength < byte.toNat)) = true := by
      rw [enabled, Lif.expectsLength, frame, second]
      exact decide_eq_true long
    refine ⟨_, congrArg Host.Outcome.next (if_pos isLong), only _, ?_⟩
    rw [State.putLif_lif, heardIs]
    rfl
  · refine ⟨_, exec_characterError enabled stopBit, only _, rfl, rfl, rfl, rfl, rfl, rfl, back none⟩
  · intro start known idle
    have earliest : s.lif.idle.earliest = start := by rw [idle]; cases known <;> rfl
    have startAt (periods : Nat) :
        s.lif.idle.startAt s.count periods = if known then start else now - BitVec.ofNat 32 periods := by
      rw [idle]
      cases known <;> rfl
    have reachesIff (periods : Nat) : s.lif.idle.reaches s.count periods = decide (periods ≤ (now - start).toNat) := by
      rw [IdleMeasure.reaches, earliest]
      rfl
    refine ⟨fun late => ?_, fun early => ?_, fun unquiet late => ?_, fun early => ?_⟩
    · refine ⟨_, exec_gap enabled ?_, only _, ?_⟩
      · rw [reachesIff]
        exact decide_eq_true late
      · rw [startAt]
        rfl
    · rw [exec, execGap, enabled, reachesIff, if_neg]
      have notYet : decide (Params.gapPeriods + 1 ≤ (now - start).toNat) = false :=
        decide_eq_false (Nat.not_le.mpr (Nat.lt_succ_of_le early))
      rw [notYet, Bool.and_false]
      nofun
    · have due : (s.lineEnabled && s.lif.quiet.isNone && s.lif.idle.reaches s.count Params.quietPeriods) = true := by
        rw [enabled, unquiet, reachesIff]
        exact decide_eq_true late
      refine ⟨_, congrArg Host.Outcome.next (if_pos due), only _, ?_⟩
      rw [startAt]
      rfl
    · rw [exec, execQuietMoment, enabled, reachesIff, if_neg]
      have notYet : decide (Params.quietPeriods ≤ (now - start).toNat) = false :=
        decide_eq_false (Nat.not_le.mpr early)
      rw [notYet, Bool.and_false]
      nofun

end Sys2Proof.Machine
end

section
/-! PROOFS. The start of a notice (R13, R23), its end (R24, R25, R29), and the timers of the line (R22, R36, R42). -/

namespace Sys2Proof.Machine

/-! The start of the head notice (R23). -/

theorem flagNat_eq (b : Bool) : flagNat b = b.toNat := by cases b <;> rfl

theorem Roles.code_eq (r : Roles) : r.code = r.well.toNat + 2 * r.turbine.toNat + 4 * r.exchange.toNat := by
  simp only [Roles.code, flagNat_eq]

theorem State.accessWait_eq (s : State) (e : QueueEntry) : s.accessWait e = 704 *
    (if 0 < e.collisions then 17 + s.stationNo.val
      else match e.notice with
        | .trip .. | .clear _ => 0
        | _ => 1 + s.stationNo.val) := by
  have perClass : (if e.notice.classZero then 0 else 1 + s.stationNo.val) =
      match e.notice with
      | .trip .. | .clear _ => 0
      | _ => 1 + s.stationNo.val := by
    cases e.notice <;> rfl
  rw [State.accessWait, perClass, Nat.mul_comm]
  rfl

/-- The payload of a TIME, byte by byte (R13). -/
theorem State.timePayload_eq (s : State) : s.noticePayload .time =
    bytesOf 4 s.tmu.lineTime.toNat ++
      [BitVec.ofNat 8 (s.config.roles.well.toNat + 2 * s.config.roles.turbine.toNat
        + 4 * s.config.roles.exchange.toNat + 128 * s.tmu.joined.toNat),
       BitVec.ofNat 8 (s.tsv.latch.toNat + 2 * (match s.scw.state with | .clear => 0 | .watch => 1 | .alarm => 2)
        + 8 * s.scw.acknowledged.toNat + 16 * (s.units.toList.filter (·.state ≠ .idle)).length),
       BitVec.ofNat 8 s.config.beaconCode] := by
  have state : s.scw.state.code = match s.scw.state with | .clear => 0 | .watch => 1 | .alarm => 2 := by
    cases s.scw.state <;> rfl
  have active : s.activeUnits = (s.units.toList.filter (·.state ≠ .idle)).length := by
    rw [State.activeUnits]
    exact congrArg List.length (List.filter_congr fun u _ => by rw [SwUnit.active]; cases u.state <;> rfl)
  rw [State.noticePayload, State.timePayload, Roles.code_eq, state, active]
  simp only [flagNat_eq]
  rfl

/-- Settles O18: the access wait decides, and the payload is filled from the state then. -/
theorem noticeStartFollowsItsWait : Obligations.NoticeStartFollowsItsWait := by
  intro s e rest quiet queue quietIs run none slots
  have wait : s.accessWait e = 704 * slots := s.accessWait_eq e
  have may : s.mayStart e = decide (704 * slots ≤ (s.tmu.localCount - quiet).toNat) := by
    rw [State.mayStart, State.inRun, run, none, quietIs, Option.any_some, wait]
    rfl
  refine ⟨fun late => ?_, fun early => ?_⟩
  · refine ⟨_, ?_, s.onlyChanges_putLif _, rfl, fun isTime => ?_⟩
    · rw [exec, execNoticeStart, queue]
      exact congrArg Host.Outcome.next (if_pos (may.trans (decide_eq_true late)))
    · rw [isTime]
      exact s.timePayload_eq
  · rw [exec, execNoticeStart, queue]
    exact congrArg Host.Outcome.next (if_neg (by rw [may, decide_eq_false (Nat.not_le.mpr early)]; nofun))

/-! The timers (R22, R36, R42). -/

section TimeQueued

/-- A queued TIME stays queued when another notice is queued. -/
theorem mem_time_queueIn {q : List QueueEntry} (mem : ∃ e ∈ q, e.notice = .time) (n : Notice) :
    ∃ e ∈ queueIn n q, e.notice = .time := by
  obtain ⟨e, mem, isTime⟩ := mem
  unfold queueIn
  split
  · refine ⟨e, ?_, isTime⟩
    unfold placeLast
    split
    · have late : e.notice.classZero = false := by rw [isTime]; rfl
      exact List.mem_append_right _ (List.mem_cons_of_mem _ (List.mem_filter.mpr ⟨mem, by simp [late]⟩))
    · exact List.mem_append_left _ mem
  · split
    · rename_i both
      refine ⟨e, List.mem_filter.mpr ⟨mem, decide_eq_true ?_⟩, isTime⟩
      rw [isTime]
      cases n with
      | release => nofun
      | _ => cases both
    · refine ⟨_, List.mem_map_of_mem mem, ?_⟩
      split
      · rename_i same
        rw [isTime] at same
        cases n with
        | time => rfl
        | _ => cases same
      · exact isTime

theorem mem_time_queueIn_self (q : List QueueEntry) : ∃ e ∈ queueIn .time q, e.notice = .time := by
  unfold queueIn
  split
  · refine ⟨{ notice := .time, collisions := 0 }, ?_, rfl⟩
    exact List.mem_append_right _ (List.mem_singleton_self _)
  · rename_i e found
    rw [if_neg (by nofun)]
    have same : e.notice.group = Notice.time.group := by simpa using List.find?_some found
    exact ⟨_, List.mem_map_of_mem (List.mem_of_find?_eq_some found), by rw [if_pos same]⟩

theorem Plans.timeQueued {s t : State} (plans : Plans s t) (queued : ∃ e ∈ s.lif.queue, e.notice = .time) :
    ∃ e ∈ t.lif.queue, e.notice = .time := by
  refine keeps_of_moves (P := fun s => ∃ e ∈ s.lif.queue, e.notice = .time) (fun s t move h => ?_) plans queued
  cases move with
  | queue n _ => exact mem_time_queueIn h n
  | expire => simpa using h
  | _ => exact h

theorem Holds.keepsPending {s t : State} (holds : Holds s t) : s.keepsPending t := by
  refine keeps_of_moves (P := fun t => s.keepsPending t) (fun u v move h => ?_) holds fun _ pending => pending
  cases move with
  | plan move => exact State.keepsPending_trans h move.keepsPending
  | hold => exact h

end TimeQueued

theorem State.beaconPeriods_eq (s : State) : s.beaconPeriods = 800000 * s.config.beaconCode := by
  rw [State.beaconPeriods, Nat.mul_assoc, Nat.mul_comm]
  rfl

/-- Settles O21: each timer's expiry by its due test. -/
theorem lineTimersExpire : Obligations.LineTimersExpire := by
  intro s period
  have periods : s.beaconPeriods = period := s.beaconPeriods_eq
  refine ⟨fun n start enabled other timer => ⟨fun heard spoke late => ?_, fun early => ?_, fun silent late => ?_⟩,
    fun run => ⟨fun start timer late => ?_, fun start timer alone late => ?_⟩⟩
  · have due : s.silenceIsDue n = true := by
      have reached : Params.silenceBeacons * s.beaconPeriods ≤ s.peers[n].silence.elapsedAt s.count := by
        rw [periods, timer]
        exact late
      simp [-Fin.getElem_fin, State.silenceIsDue, State.isPeer, enabled, other, heard, spoke, timer]
      rwa [timer] at reached
    obtain ⟨t, run, only⟩ := execPeerSilence_only s n
    have silenced : t = s.fallSilent n := by
      rw [execPeerSilence, if_pos due] at run
      injection run with run
      exact run.symm
    subst silenced
    have peers (m : StationNo) : (s.fallSilent n).peers[m] = if m = n then { s.peers[n] with silent := true } else s.peers[m] := by
      rw [State.fallSilent, State.evaluateScalingHold_peers]
      exact s.putPeer_get n m _
    refine ⟨_, run, (peers n).trans (if_pos rfl), fun m elsewhere => (peers m).trans (if_neg elsewhere), ?_, only⟩
    exact Holds.keepsPending (State.evaluateScalingHold_holds _) _ (State.isPending_raise _ _)
  · rw [exec, execPeerSilence, if_neg]
    have notYet : ¬Params.silenceBeacons * s.beaconPeriods ≤ s.peers[n].silence.elapsedAt s.count := by
      rw [periods, timer]
      exact Nat.not_le.mpr early
    rw [State.silenceIsDue, decide_eq_false notYet, Bool.and_false]
    nofun
  · have due : s.silenceStopIsDue n = true := by
      simp only [State.silenceStopIsDue, timer, State.isPeer, enabled, silent, bne_iff_ne.mpr other, Bool.true_and]
      exact decide_eq_true late
    refine ⟨_, congrArg Host.Outcome.next (if_pos due), ?_, fun m elsewhere => ?_, by simp [State.onlyChanges, Part.all, Part.same]⟩
    · exact (s.putPeer_get n n _).trans (if_pos rfl)
    · exact (s.putPeer_get n m _).trans (if_neg elsewhere)
  · have due : s.beaconIsDue = true := by
      rw [State.beaconIsDue, State.inRun, run, timer, Option.any_some, periods]
      exact decide_eq_true late
    obtain ⟨t, ran, only⟩ := execBeacon_only s
    rw [execBeacon, if_pos due] at ran
    injection ran with result
    subst result
    refine ⟨_, congrArg Host.Outcome.next (if_pos due), only, ?_, ?_⟩
    · have tmu : (s.queueNotice .time).replan.tmu = s.tmu := by simp
      rw [State.putTmu_tmu, tmu, timer, periods]
      rfl
    · have queued := Plans.timeQueued (State.replan_plans (s.queueNotice .time)) (mem_time_queueIn_self s.lif.queue)
      exact queued
  · have due : s.joinIsDue = true := by
      rw [State.joinIsDue, State.inRun, run, alone, timer, Option.any_some, periods]
      exact decide_eq_true late
    exact ⟨_, congrArg Host.Outcome.next (if_pos due), s.onlyChanges_putTmu _, rfl⟩

end Sys2Proof.Machine
end

section
/-! PROOFS. Laws of the start planner: what a plan does to its slot, and what it leaves of the others (8.5). -/

namespace Sys2Proof.Machine

/-- The entries of the claim table that a slot holds. -/
def State.ownEntries (s : State) (k : SlotNo) : List Claim := s.spl.claims.filter (s.isOwnEntry k)

/-- A slot and its entries are the same in two states of one station. -/
structure State.sameSlot (s t : State) (k : SlotNo) : Prop where
  stationNo : t.stationNo = s.stationNo
  slot : t.spl.slots[k] = s.spl.slots[k]
  entries : t.ownEntries k = s.ownEntries k

section SameSlot

variable {s t u : State} {k : SlotNo}

theorem State.sameSlot.refl (s : State) (k : SlotNo) : s.sameSlot s k := ⟨rfl, rfl, rfl⟩

theorem State.sameSlot.trans (h : s.sameSlot t k) (g : t.sameSlot u k) : s.sameSlot u k :=
  ⟨g.stationNo.trans h.stationNo, g.slot.trans h.slot, g.entries.trans h.entries⟩

theorem State.sameSlot.state (h : s.sameSlot t k) : t.slotState k = s.slotState k := by
  rw [State.slotState, State.slotState, h.slot]

theorem State.isOwnEntry_congr (h : t.stationNo = s.stationNo) (k : SlotNo) : t.isOwnEntry k = s.isOwnEntry k := by
  funext c
  rw [State.isOwnEntry, State.isOwnEntry, h]

/-- A state with the same planner and number has the same slots. -/
theorem State.sameSlot.of_spl (stationNo : t.stationNo = s.stationNo) (spl : t.spl = s.spl) : s.sameSlot t k := by
  refine ⟨stationNo, by rw [spl], ?_⟩
  rw [State.ownEntries, State.ownEntries, spl, State.isOwnEntry_congr stationNo]

theorem State.sameSlot.putSlot (s : State) {j : SlotNo} (other : k ≠ j) (x : Slot) : s.sameSlot (s.putSlot j x) k :=
  ⟨rfl, (s.putSlot_get j k x).trans (if_neg other), rfl⟩

end SameSlot

/-! A plan (R155, R156). -/

section Plan

variable (s : State) (k : SlotNo)

/-- A slot that does not wait is not planned. -/
theorem State.planSlot_of_settled (settled : (s.slotState k).isWaiting = false) : s.planSlot k = s := by
  rw [State.planSlot]
  exact if_neg (by rw [← State.slotState, settled]; nofun)

/-- A slot as a plan finds it: an earliest time that has been reached is gone (R155). -/
def State.openSlot : Slot := { s.spl.slots[k] with earliest := s.openEarliest s.spl.slots[k].earliest }

/-- The window length that a slot's unit claims. -/
def State.planLength : Nat := s.units[s.spl.slots[k].unit].config.windowLength

/-- Where the search of a slot's plan finds a free window, if anywhere (R155, R156). -/
def State.planned? : Option LineTime :=
  s.findStart (s.planLength k) Params.candidateCount (s.searchStart (s.openSlot k).earliest)

/-- The reason with which a slot waits once it has been planned, if it does (R156, R166, R167). -/
def State.planWait? : Option WaitReason :=
  if s.spl.tripHold then some .tripHold
  else if s.spl.scalingHold && s.units[s.spl.slots[k].unit].config.scalingBound then some .scalingHold
  else if s.planned? k = none then some .noWindow
  else none

theorem State.findStart_congr {s t : State} (claims : t.spl.claims = s.spl.claims) (windows : t.spl.windows = s.spl.windows)
    (length n : Nat) (start : LineTime) : t.findStart length n start = s.findStart length n start := by
  induction n generalizing start with
  | zero => rfl
  | succ n ih => rw [State.findStart, State.findStart, ih, State.candidateFree, State.candidateFree, claims, windows]

theorem State.putSlot_twice (x y : Slot) : (s.putSlot k x).putSlot k y = s.putSlot k y := by
  simp [State.putSlot, State.putSpl]

/-- A waiting slot's plan: it waits for a reason, or is announced. -/
theorem State.planSlot_of_waiting (waits : (s.slotState k).isWaiting = true) :
    s.planSlot k =
      match s.planWait? k, s.planned? k with
      | some reason, _ => s.putSlot k { s.openSlot k with state := .waiting reason }
      | none, some start => (s.putSlot k (s.openSlot k)).announce k s.spl.slots[k].unit start (s.planLength k)
      | none, none => s := by
  have got : (s.putSlot k (s.openSlot k)).spl.slots[k] = s.openSlot k := (s.putSlot_get k k _).trans (if_pos rfl)
  have to_ (reason : WaitReason) : (s.putSlot k (s.openSlot k)).slotTo k (.waiting reason) =
      s.putSlot k { s.openSlot k with state := .waiting reason } := by
    rw [State.slotTo, got, State.putSlot_twice]
  have found : (s.putSlot k (s.openSlot k)).findStart (s.planLength k) Params.candidateCount
      ((s.putSlot k (s.openSlot k)).searchStart (s.openSlot k).earliest) = s.planned? k := by
    have start : (s.putSlot k (s.openSlot k)).searchStart (s.openSlot k).earliest = s.searchStart (s.openSlot k).earliest := rfl
    rw [start, State.planned?]
    generalize Params.candidateCount = n
    exact State.findStart_congr (s := s) (t := s.putSlot k (s.openSlot k)) rfl rfl _ _ _
  rw [State.planSlot, State.planWait?]
  refine (if_pos waits).trans ?_
  show (if s.spl.tripHold then (s.putSlot k (s.openSlot k)).slotTo k (.waiting .tripHold)
    else if s.spl.scalingHold && s.units[s.spl.slots[k].unit].config.scalingBound then
      (s.putSlot k (s.openSlot k)).slotTo k (.waiting .scalingHold)
    else match (s.putSlot k (s.openSlot k)).findStart (s.planLength k) Params.candidateCount
        ((s.putSlot k (s.openSlot k)).searchStart (s.openSlot k).earliest) with
      | some start => (s.putSlot k (s.openSlot k)).announce k s.spl.slots[k].unit start (s.planLength k)
      | none => (s.putSlot k (s.openSlot k)).slotTo k (.waiting .noWindow)) = _
  rw [found, to_, to_, to_]
  generalize s.planned? k = result
  split
  · rfl
  · split
    · rfl
    · cases result <;> rfl

/-- The own entries of another slot do not see a claim enter the table. -/
theorem State.ownEntries_insert {j : SlotNo} (other : j ≠ k) (start : LineTime) (length : Nat) :
    (insertClaim (s.ownClaim k start length) s.spl.claims).filter (s.isOwnEntry j) = s.ownEntries j := by
  have foreign : s.isOwnEntry j (s.ownClaim k start length) = false := by
    rw [State.isOwnEntry_ownClaim, decide_eq_false other]
  rw [State.ownEntries]
  generalize s.ownClaim k start length = c at foreign
  induction s.spl.claims with
  | nil => rw [insertClaim, List.filter_cons_of_neg (by simp [foreign])]
  | cons d ds ih =>
    rw [insertClaim]
    split
    · rw [List.filter_cons_of_neg (by simp [foreign])]
    · rw [List.filter_cons, List.filter_cons, ih]

theorem State.announce_spl (unit : UnitNo) (start : LineTime) (length : Nat) :
    (s.announce k unit start length).spl =
      { s.spl with
        claims := insertClaim
          { station := s.stationNo, slot := SlotNo.inTag k, unit := unit, start := start, length := length, firm := false }
          s.spl.claims
        slots := s.spl.slots.set k { s.spl.slots[k] with state := .announced } } := rfl

/-- A plan leaves the other slots and their entries. -/
theorem State.planSlot_other {j : SlotNo} (other : j ≠ k) : s.sameSlot (s.planSlot k) j := by
  cases waits : (s.slotState k).isWaiting with
  | false =>
    rw [s.planSlot_of_settled k waits]
    exact .refl s j
  | true =>
    rw [s.planSlot_of_waiting k waits]
    split
    · exact .putSlot s other _
    · rename_i start _ _
      have opened : s.sameSlot (s.putSlot k (s.openSlot k)) j := .putSlot s other _
      refine opened.trans ⟨rfl, ?_, ?_⟩
      · exact ((State.putSlot_get (s.putSlot k (s.openSlot k)) k j _).trans (if_neg other))
      · have entries := (s.putSlot k (s.openSlot k)).ownEntries_insert k other start (s.planLength k)
        have unit : (s.putSlot k (s.openSlot k)).spl.slots[k].unit = s.spl.slots[k].unit :=
          (congrArg Slot.unit ((s.putSlot_get k k _).trans (if_pos rfl))).trans rfl
        rw [State.ownClaim, unit] at entries
        exact entries
    · exact .refl s j

/-- The new plans leave a slot that does not wait. -/
theorem State.replan_settled (settled : (s.slotState k).isWaiting = false) : s.sameSlot s.replan k := by
  rw [State.replan]
  match k with
  | 0 =>
    rw [s.planSlot_of_settled 0 settled]
    exact s.planSlot_other 1 (by decide)
  | 1 =>
    have first := s.planSlot_other (k := 0) (j := 1) (by decide)
    rw [State.planSlot_of_settled _ 1 (by rw [first.state]; exact settled)]
    exact first

theorem State.replanIf_settled (removed : Bool) (settled : (s.slotState k).isWaiting = false) :
    s.sameSlot (s.replanIf removed) k := by
  unfold State.replanIf
  split
  · exact s.replan_settled k settled
  · exact .refl s k

theorem State.ownEntries_removeOwn : (s.removeOwn k).ownEntries k = [] := by
  show (s.spl.claims.filter (!s.isOwnEntry k ·)).filter (s.isOwnEntry k) = []
  rw [List.filter_filter, List.filter_eq_nil_iff]
  intro c _
  cases s.isOwnEntry k c <;> simp

end Plan

end Sys2Proof.Machine
end

section
/-! PROOFS. The end of the notice in flight: sent whole, returned after a collision, or jammed (R24, R25, R29, R158, R159). -/

namespace Sys2Proof.Machine

/-! A notice that returns to the queue (R29). -/

theorem sameGroup?_of_filter {n : Notice} {q : List QueueEntry} :
    sameGroup? n q = (q.filter fun e => decide (e.notice.group = n.group)).head? :=
  (List.head?_filter ..).symm

theorem dropGroup_eq (n : Notice) (q : List QueueEntry) :
    dropGroup n q = q.filter fun e => decide (e.notice.group ≠ n.group) := rfl

/-- A notice without an entry of its group returns as the first of its class (R29). -/
theorem returnIn_of_none {n : Notice} {q : List QueueEntry} (alone : (q.filter fun e => decide (e.notice.group = n.group)) = [])
    (collisions : Nat) : returnIn n collisions q = placeFirst { notice := n, collisions := collisions } (dropGroup n q) := by
  have others : dropGroup n q = q := dropGroup_of_other fun e mem same =>
    List.filter_eq_nil_iff.mp alone e mem (decide_eq_true same)
  rw [returnIn, sameGroup?_of_filter, alone, others]
  rfl

theorem returnIn_of_one {n : Notice} {q : List QueueEntry} {e : QueueEntry}
    (one : (q.filter fun e => decide (e.notice.group = n.group)) = [e]) (collisions : Nat) :
    returnIn n collisions q =
      if n.isClaim && e.notice.isRelease then dropGroup n q
      else placeFirst { e with collisions := collisions } (dropGroup n q) := by
  rw [returnIn, sameGroup?_of_filter, one]
  rfl

/-! What the planner is told (R158, R159). -/

section Told

variable (s : State) (k : SlotNo) (start : LineTime) (length : Nat)

/-- A slot's announced claim is the one that a CLAIM in flight names (R158). -/
def State.announces : Prop := s.slotState k = .announced ∧ ∃ own, s.ownEntry? k = some own ∧ own.start = start ∧ own.length = length

theorem State.claimSentWhole_of_announced (h : s.announces k start length) :
    s.claimSentWhole k start length = s.slotTo k (.settling s.count) := by
  obtain ⟨announced, own, entry, rfl, rfl⟩ := h
  rw [State.claimSentWhole, announced, entry]
  exact if_pos (by simp)

theorem State.claimSentWhole_of_other (h : s.slotState k ≠ .announced) : s.claimSentWhole k start length = s := by
  unfold State.claimSentWhole
  split
  · contradiction
  · rfl

theorem State.claimDiscarded_of_announced (h : s.announces k start length) :
    s.claimDiscarded k start length = (((s.removeOwn k).freeSlot k).raiseClaimFailed k .jammed).replan := by
  obtain ⟨announced, own, entry, rfl, rfl⟩ := h
  rw [State.claimDiscarded, announced, entry]
  exact if_pos (by simp)

theorem State.isPending_raiseClaimFailed (why : ClaimFailure) : (s.raiseClaimFailed k why).isPending (.claimFailed k) = true := by
  obtain ⟨p, mem, eq⟩ := raiseIn_mem (.claimFailed k) (some why) s.tmu.lineTime s.attention
  exact List.any_eq_true.mpr ⟨p, mem, decide_eq_true eq⟩

/-- A jammed CLAIM leaves its slot FREE, without an entry, and pending as failed (R159). -/
theorem State.claimDiscarded_frees (h : s.announces k start length) :
    (s.claimDiscarded k start length).slotState k = .free
      ∧ (s.claimDiscarded k start length).isPending (.claimFailed k) = true
      ∧ (s.claimDiscarded k start length).ownEntries k = [] := by
  rw [s.claimDiscarded_of_announced k start length h]
  have free : (((s.removeOwn k).freeSlot k).raiseClaimFailed k .jammed).slotState k = .free := by
    refine (State.slotState_putSlot (s.removeOwn k) k k {}).trans (if_pos rfl)
  have kept := State.replan_settled _ k (by rw [free]; rfl)
  refine ⟨kept.state.trans free, ?_, ?_⟩
  · exact Plans.keepsPending (State.replan_plans _) _ (State.isPending_raiseClaimFailed _ k .jammed)
  · exact kept.entries.trans (s.ownEntries_removeOwn k)

end Told

theorem tellSent_of_other (s : State) {n : Notice} (other : n.isClaim = false) : s.tellSent n = s := by
  cases n with
  | claim => cases other
  | _ => rfl

theorem tellDiscarded_of_other (s : State) {n : Notice} (other : n.isClaim = false) : s.tellDiscarded n = s := by
  cases n with
  | claim => cases other
  | _ => rfl

/-! The two commands. -/

section Flight

variable {s : State} {f : InFlight} (flight : s.lif.inFlight = some f) (run : s.svp.station = .run)

include flight run

theorem State.sentWhole_eq : s.sentWhole = (!f.collided && decide ((s.flightFrame f).length ≤ f.readBack)) := by
  rw [State.sentWhole, State.inRun, run, flight, Option.any_some]
  rfl

theorem State.flightCollided_eq : s.flightCollided = f.collided := by
  rw [State.flightCollided, State.inRun, run, flight, Option.any_some]
  rfl

/-- The state in which a notice that has been sent whole is told of (R24). -/
def State.sentAll (s : State) : State :=
  { s.putLif { s.lif with
      inFlight := none, counters := { s.lif.counters with frameSent := s.lif.counters.frameSent + 1 } } with
    own := { s.own with lastHeard := s.tmu.lineTime } }

/-- The state in which a collision has been counted (R25). -/
def State.collided (s : State) : State :=
  s.putLif { s.lif with inFlight := none, counters := { s.lif.counters with collision := s.lif.counters.collision + 1 } }

theorem exec_noticeSentWhole (good : f.collided = false) (all : (s.flightFrame f).length ≤ f.readBack) :
    exec .noticeSentWhole s = .next (s.sentAll.tellSent f.notice) := by
  rw [exec, execNoticeSentWhole, flight]
  exact congrArg Host.Outcome.next (if_pos (by rw [State.sentWhole_eq flight run, good, decide_eq_true all]; rfl))

theorem exec_collision (bad : f.collided = true) :
    exec .collision s = .next (if 8 ≤ f.collisions + 1 then s.collided.jam f.notice
      else s.collided.putLif { s.collided.lif with queue := returnIn f.notice (f.collisions + 1) s.lif.queue }) := by
  rw [exec, execCollision, flight]
  exact congrArg Host.Outcome.next (if_pos (by rw [State.flightCollided_eq flight run, bad]))

end Flight

/-- Settles O19: the read-back settles which of the two commands has an effect, and the collision count which effect. -/
theorem noticeInFlightEnds : Obligations.NoticeInFlightEnds := by
  intro s f flight run c sameGroup others first length
  have only (x : Lif) : s.onlyChanges (s.putLif x) [.lif] := s.onlyChanges_putLif x
  refine ⟨fun unsettled => ?_, fun good => ?_, fun good all => ?_, fun bad few one => ?_, fun bad many => ?_⟩
  · rw [exec, execNoticeSentWhole, flight]
    refine congrArg Host.Outcome.next (if_neg ?_)
    rw [State.sentWhole_eq flight run]
    rcases unsettled with bad | short
    · rw [bad]
      nofun
    · have notYet : decide ((s.flightFrame f).length ≤ f.readBack) = false := decide_eq_false (Nat.not_le.mpr short)
      rw [notYet, Bool.and_false]
      nofun
  · rw [exec, execCollision, flight]
    exact congrArg Host.Outcome.next (if_neg (by rw [State.flightCollided_eq flight run, good]; nofun))
  · refine ⟨_, exec_noticeSentWhole flight run good all, ?_⟩
    have base : s.onlyChanges s.sentAll [.lif, .own] := by simp [State.onlyChanges, Part.all, Part.same, State.sentAll]
    by_cases claim : f.notice.isClaim
    · obtain ⟨slot, unit, start, len, firm, isClaim⟩ : ∃ k u t l b, f.notice = .claim k u t l b := by
        cases notice : f.notice with
        | claim k u t l b => exact ⟨k, u, t, l, b, rfl⟩
        | _ => rw [notice] at claim; cases claim
      rw [isClaim]
      have frame := s.sentAll.claimSentWhole_frame slot start len
      obtain ⟨pending, stationNo, config, svp, attention, lif, peers, own, tmu, await, pulses, channels, groups, captures, tsv, hmt,
        scw, units, outputs, freeNext⟩ := frame
      refine ⟨lif, own, nofun, fun slot' unit' start' len' firm' same => ?_⟩
      injection same with sameSlot _ sameStart sameLength _
      subst sameSlot sameStart sameLength
      refine ⟨?_, fun announced entry => ?_, fun other => ?_⟩
      · refine State.onlyChanges_trans (State.onlyChanges_mono base (by simp)) ?_
        simp [State.onlyChanges, Part.all, Part.same, State.tellSent]
      · have told : s.sentAll.tellSent (.claim slot unit start len firm) = s.sentAll.slotTo slot (.settling s.tmu.localCount) :=
          State.claimSentWhole_of_announced s.sentAll slot start len ⟨announced, entry⟩
        rw [told]
        refine ⟨(State.slotState_putSlot s.sentAll slot slot _).trans (if_pos rfl), rfl, fun j elsewhere => ?_⟩
        exact (State.putSlot_get s.sentAll slot j _).trans (if_neg elsewhere)
      · exact (congrArg State.spl (State.claimSentWhole_of_other s.sentAll slot start len other)).trans rfl
    · rw [tellSent_of_other _ (Bool.eq_false_iff.mpr claim)]
      refine ⟨rfl, rfl, fun _ => base, fun slot unit start len firm isClaim => ?_⟩
      rw [isClaim] at claim
      exact absurd rfl claim
  · have ran := exec_collision flight run bad
    rw [if_neg (Nat.not_le.mpr few)] at ran
    refine ⟨_, ran, by simp [State.onlyChanges, Part.all, Part.same, State.collided], rfl, rfl, fun none => ?_, fun e is => ?_⟩
    · exact returnIn_of_none none _
    · exact returnIn_of_one is _
  · have ran := exec_collision flight run bad
    rw [if_pos many] at ran
    obtain ⟨t, ran', only'⟩ := execCollision_only s
    obtain rfl : s.collided.jam f.notice = t := by
      have both := ran.symm.trans ran'
      injection both
    refine ⟨_, ran, only', ?_⟩
    have raised := State.isPending_raise (s.collided.putCounters
      { s.collided.lif.counters with jammed := s.collided.lif.counters.jammed + 1 }) .lineJammed
    by_cases claim : f.notice.isClaim
    · obtain ⟨slot, unit, start, len, firm, isClaim⟩ : ∃ k u t l b, f.notice = .claim k u t l b := by
        cases notice : f.notice with
        | claim k u t l b => exact ⟨k, u, t, l, b, rfl⟩
        | _ => rw [notice] at claim; cases claim
      rw [isClaim, State.jam]
      have plans := State.claimDiscarded_plans ((s.collided.putCounters
        { s.collided.lif.counters with jammed := s.collided.lif.counters.jammed + 1 }).raise .lineJammed) slot start len
      obtain ⟨-, ended, counters⟩ := State.receiver_fields plans.receiver
      refine ⟨ended, plans.keepsPending _ raised, counters, nofun, fun slot' unit' start' len' firm' same announced entry => ?_⟩
      injection same with sameSlot _ sameStart sameLength _
      subst sameSlot sameStart sameLength
      obtain ⟨free, failed, entries⟩ := State.claimDiscarded_frees ((s.collided.putCounters
        { s.collided.lif.counters with jammed := s.collided.lif.counters.jammed + 1 }).raise .lineJammed) slot start len
        ⟨announced, entry⟩
      refine ⟨free, failed, ?_⟩
      rw [State.ownEntries, State.isOwnEntry_congr (State.claimDiscarded_frame ..).2.1] at entries
      exact entries
    · rw [State.jam, tellDiscarded_of_other _ (Bool.eq_false_iff.mpr claim)]
      refine ⟨rfl, raised, rfl, fun _ => ⟨rfl, rfl⟩, fun slot unit start len firm isClaim => ?_⟩
      rw [isClaim] at claim
      exact absurd rfl claim

end Sys2Proof.Machine
end

section
/-! PROOFS. The sinc filters: the length, the sum and the bounds of their coefficients (R48, R52). -/

namespace Sys2Proof.Machine

theorem length_polyAdd (p q : List Nat) : (polyMul.polyAdd p q).length = max p.length q.length := by
  induction p generalizing q with
  | nil => simp [polyMul.polyAdd]
  | cons a p ih =>
    cases q with
    | nil => simp [polyMul.polyAdd]
    | cons b q => simp [polyMul.polyAdd, ih]

theorem sum_polyAdd (p q : List Nat) : (polyMul.polyAdd p q).sum = p.sum + q.sum := by
  induction p generalizing q with
  | nil => simp [polyMul.polyAdd]
  | cons a p ih =>
    cases q with
    | nil => simp [polyMul.polyAdd]
    | cons b q =>
      simp only [polyMul.polyAdd, List.sum_cons, ih]
      omega

theorem sum_map_mul (a : Nat) (q : List Nat) : (q.map (a * ·)).sum = a * q.sum := by
  induction q with
  | nil => rfl
  | cons b q ih => rw [List.map_cons, List.sum_cons, ih, List.sum_cons, Nat.mul_add]

theorem length_polyMul {p q : List Nat} (hp : 0 < p.length) (hq : 0 < q.length) :
    (polyMul p q).length = p.length + q.length - 1 := by
  induction p with
  | nil => cases hp
  | cons a p ih =>
    cases p with
    | nil => simp [polyMul]
    | cons b p =>
      rw [polyMul, length_polyAdd, List.length_map, List.length_cons, ih (Nat.zero_lt_succ _)]
      simp only [List.length_cons]
      omega

theorem sum_polyMul (p q : List Nat) : (polyMul p q).sum = p.sum * q.sum := by
  induction p with
  | nil => simp [polyMul]
  | cons a p ih =>
    cases p with
    | nil => simp [polyMul, sum_map_mul]
    | cons b p =>
      rw [polyMul, sum_polyAdd, sum_map_mul, List.sum_cons, ih, Nat.zero_add, List.sum_cons (a := a), Nat.add_mul]

theorem length_sincCoefficients (n : Nat) {D : Nat} (some_ : 1 ≤ D) : (sincCoefficients n D).length = n * (D - 1) + 1 := by
  induction n with
  | zero => simp [sincCoefficients]
  | succ n ih =>
    rw [sincCoefficients, length_polyMul (by rw [List.length_replicate]; exact some_) (by omega), ih, List.length_replicate, Nat.succ_mul]
    omega

theorem sum_sincCoefficients (n D : Nat) : (sincCoefficients n D).sum = D ^ n := by
  induction n with
  | zero => rfl
  | succ n ih => rw [sincCoefficients, sum_polyMul, ih, List.sum_replicate_nat, Nat.mul_one, Nat.pow_succ, Nat.mul_comm]

/-- A weighted sum of inputs lies within the sum of the weights. -/
theorem weightedSum_bound (cs : List Nat) (inputs : List Bool) : (weightedSum cs inputs).natAbs ≤ cs.sum := by
  induction cs generalizing inputs with
  | nil => exact Nat.zero_le _
  | cons c cs ih =>
    cases inputs with
    | nil => exact Nat.zero_le _
    | cons b bs =>
      rw [weightedSum, List.sum_cons]
      have rest := ih bs
      cases b with
      | true => simp only [inputOf, if_true]; omega
      | false => simp only [inputOf, Bool.false_eq_true, if_false]; omega

/-- Equal inputs reach the bound. -/
theorem weightedSum_replicate (cs : List Nat) (b : Bool) :
    weightedSum cs (List.replicate cs.length b) = inputOf b * (cs.sum : Nat) := by
  induction cs with
  | nil => simp [weightedSum]
  | cons c cs ih =>
    rw [List.length_cons, List.replicate_succ, weightedSum, ih, List.sum_cons]
    push_cast
    ring

/-- Settles O24: the length and the sum of a product of polynomials. -/
theorem sincFilterBounds : Obligations.SincFilterBounds := by
  intro n D some_
  have length := length_sincCoefficients n some_
  have sum := sum_sincCoefficients n D
  have equal (b : Bool) := weightedSum_replicate (sincCoefficients n D) b
  rw [length, sum] at equal
  refine ⟨length, sum, fun inputs => sum ▸ weightedSum_bound _ inputs, ?_, ?_⟩
  · rw [equal true]
    simp [inputOf]
  · rw [equal false]
    simp [inputOf]

end Sys2Proof.Machine
end

section
/-! PROOFS. Configuration requests: reading the fields of a payload (11.3), and Set Station, Set Group and Set Channel. -/

namespace Sys2Proof.Machine

/-! Fields of a payload written out piece by piece. -/

section Field

variable (b : Byte) (bs ys : List Byte) (k n offset size : Nat)

@[simp] theorem field_cons_zero : field (b :: bs) 0 1 = [b] := rfl

@[simp] theorem field_cons_succ : field (b :: bs) (offset + 1) size = field bs offset size := rfl

@[simp] theorem field_bytesOf : field (bytesOf k n) 0 k = bytesOf k n := by
  rw [field, List.drop_zero, List.take_of_length_le (length_bytesOf k n).le]

@[simp] theorem field_bytesOf_append : field (bytesOf k n ++ ys) 0 k = bytesOf k n := by
  rw [field, List.drop_zero, List.take_append_of_le_length (length_bytesOf k n).ge,
    List.take_of_length_le (length_bytesOf k n).le]

@[simp] theorem field_bytesOf_skip (behind : k ≤ offset) : field (bytesOf k n ++ ys) offset size = field ys (offset - k) size := by
  rw [field, field, List.drop_append, length_bytesOf, List.drop_eq_nil_of_le (by rw [length_bytesOf]; exact behind), List.nil_append]

@[simp] theorem numberOf_singleton : numberOf [b] = b.toNat := by simp [numberOf]

end Field

@[simp] theorem numberOf_bytesOf_16 (x : BitVec 16) : numberOf (bytesOf 2 x.toNat) = x.toNat := by
  rw [numberOf_bytesOf]
  exact Nat.mod_eq_of_lt x.isLt

@[simp] theorem numberOf_bytesOf_32 (x : BitVec 32) : numberOf (bytesOf 4 x.toNat) = x.toNat := by
  rw [numberOf_bytesOf]
  exact Nat.mod_eq_of_lt x.isLt

@[simp] theorem signedOf_bytesOf_16 (x : BitVec 16) : signedOf (bytesOf 2 x.toNat) = x.toInt := by
  simp only [signedOf, numberOf_bytesOf_16, length_bytesOf, BitVec.toInt_eq_toNat_cond]
  norm_num

@[simp] theorem signedOf_bytesOf_32 (x : BitVec 32) : signedOf (bytesOf 4 x.toNat) = x.toInt := by
  simp only [signedOf, numberOf_bytesOf_32, length_bytesOf, BitVec.toInt_eq_toNat_cond]
  norm_num

theorem within_iff {lo hi n : Nat} : within lo hi n = true ↔ lo ≤ n ∧ n ≤ hi := by simp [within]

theorem bit_toNat {w : Nat} (x : BitVec w) (k : Nat) : bit x.toNat k = x.getLsbD k := by rw [bit_eq_testBit]; rfl

theorem rolesOf_toNat (b : Byte) :
    rolesOf b.toNat = { well := b.getLsbD 0, turbine := b.getLsbD 1, exchange := b.getLsbD 2 } := by
  simp only [rolesOf, bit_toNat]

/-! A configuration request (11.3, R216). -/

section Configures

variable {s : State} (admits : s.admitsConfiguration) {c : Instr} {code : Nat} {p : List Byte} {lengths : List Nat}
  (length : p.length ∈ lengths) (fits : p.length ≤ 64) {act : State → Answer}
  (run : exec c s = .next (s.request code .configuration lengths p act))

include admits length fits run

/-- A request that its section takes. -/
theorem State.takes_of_answer {u : State} {r : Reply} (answer : act (s.received code p) = (u, r))
    (port : u.svp = (s.received code p).svp) {parts : List Part} (only : (s.received code p).onlyChanges u parts) :
    ∃ t, exec c s = .next t ∧ t = u.putReply r ∧ t.svp = s.answered code p r ∧ s.onlyChanges t (.svp :: parts) := by
  refine ⟨_, run, ?_⟩
  rw [State.request_of_admits (State.admitsConfiguration.admits admits) length fits, answer]
  refine ⟨rfl, ?_, State.onlyChanges_answered only r⟩
  rw [State.putReply_svp, port]
  rfl

/-- A section that refuses what is out of range, and takes the rest. -/
theorem State.configures_of {good : Prop} {parts : List Part} {taken : State → Prop}
    (refuses : ¬good → act (s.received code p) = (s.received code p, refused .range))
    (takes : good → ∃ u, act (s.received code p) = (u, success []) ∧ u.svp = (s.received code p).svp
      ∧ (s.received code p).onlyChanges u parts ∧ taken (u.putReply (success []))) :
    s.configures c code p good parts taken := by
  refine ⟨fun bad => ?_, fun ok => ?_⟩
  · exact State.replies_of_admits (State.admitsConfiguration.admits admits) length fits run (refuses bad)
  · obtain ⟨u, answer, port, only, is⟩ := takes ok
    obtain ⟨t, ran, rfl, svp, parts⟩ := State.takes_of_answer admits length fits run answer port only
    exact ⟨_, ran, svp, parts, is⟩

end Configures

/-- A section that takes decoded fields. -/
theorem State.ranged_none {α : Type} {s : State} {fields : Option α} (none_ : fields = none) (act : α → Answer) :
    s.ranged fields act = (s, refused .range) := by
  rw [none_]
  rfl

theorem State.ranged_some {α : Type} {s : State} {fields : Option α} {x : α} (some_ : fields = some x) (act : α → Answer) :
    s.ranged fields act = act x := by
  rw [some_]
  rfl

/-! Set Group and Set Channel (R59, R60). -/

theorem groupOf_eq (g mark : Byte) (period : BitVec 16) :
    groupOf (g :: bytesOf 2 period.toNat ++ [mark]) =
      (index? 2 g.toNat).bind fun group =>
        if (1 ≤ period.toNat ∧ period.toNat ≤ 1000) ∧ mark.toNat ≤ 64 then some (group, period.toNat, mark.toNat) else none := by
  simp [groupOf, fieldNat, within]

section Station

variable (roles beacon : Byte) (large stray settle : BitVec 16) (mask : BitVec 32)

theorem stationOf_eq :
    stationOf (roles :: beacon :: bytesOf 2 large.toNat ++ bytesOf 2 stray.toNat ++ bytesOf 2 settle.toNat
        ++ bytesOf 4 mask.toNat) =
      if roles.toNat < 8 ∧ 1 ≤ beacon.toNat ∧ beacon.toNat ≤ 10 ∧ 1 ≤ large.toNat ∧ large.toNat ≤ 10000 ∧ 1 ≤ stray.toNat
          ∧ stray.toNat ≤ 10000 ∧ 5 ≤ settle.toNat ∧ settle.toNat ≤ 500 ∧ mask.toNat < 2 ^ 21 then
        some
          { roles := { well := roles.getLsbD 0, turbine := roles.getLsbD 1, exchange := roles.getLsbD 2 }
            beaconCode := beacon.toNat, largeStepMs := large.toNat, strayMs := stray.toNat, settleMs := settle.toNat
            enableMask := mask }
      else none := by
  simp [stationOf, fieldNat, within, rolesOf_toNat, and_assoc]

end Station

/-! The codes of Set Channel's flags (11.3). -/

theorem index?_eq_some_iff {n x : Nat} {i : Fin n} : index? n x = some i ↔ x = i.val := by
  unfold index?
  split
  · rw [Option.some.injEq, Fin.ext_iff]
  · rename_i outside
    refine ⟨nofun, fun same => absurd (same ▸ i.isLt) outside⟩

theorem groupField?_of_le {g : Nat} (small : g ≤ 2) :
    groupField? g = some (if g = 0 then none else if g = 1 then some 0 else some 1) := by
  interval_cases g <;> rfl

theorem groupField?_isSome {g : Nat} {x : Option GroupNo} (some_ : groupField? g = some x) : g ≤ 2 := by
  match g with
  | 0 | 1 | 2 => decide
  | g + 3 => cases some_

theorem boundField?_of_le {n : Nat} (small : n ≤ 4) :
    boundField? n = some (if h : 1 ≤ n ∧ n ≤ 4 then some ⟨n - 1, by omega⟩ else none) := by
  interval_cases n <;> rfl

theorem boundField?_isSome {n : Nat} {x : Option UnitNo} (some_ : boundField? n = some x) : n ≤ 4 := by
  unfold boundField? at some_
  split at some_
  · omega
  · obtain ⟨i, at_, -⟩ := Option.map_eq_some_iff.mp some_
    have := index?_eq_some_iff.mp at_
    omega

section Channel

variable (channel flags k j window count : Byte) (offset span : BitVec 32) (low high : BitVec 16)

/-- The parameters that Set Channel's fields carry, with the codes of its flags. -/
def channelConfigOf (group : Option GroupNo) (bound : Option UnitNo) : ChannelConfig :=
  { enabled := flags.getLsbD 0, k := k.toNat, j := j.toNat, offset := offset.toInt, span := span.toInt
    lowLimit := low.toInt, highLimit := high.toInt, window := window.toNat, count := count.toNat
    group := group, bound := bound }

theorem channelOf_eq :
    channelOf ([channel, flags, k, j] ++ bytesOf 4 offset.toNat ++ bytesOf 4 span.toNat ++ bytesOf 2 low.toNat
        ++ bytesOf 2 high.toNat ++ [window, count]) =
      (index? 8 channel.toNat).bind fun n => (groupField? (flags.toNat / 2 % 4)).bind fun group =>
        (boundField? (flags.toNat / 8 % 8)).bind fun bound =>
          if flags.toNat < 64 ∧ (5 ≤ k.toNat ∧ k.toNat ≤ 8) ∧ (3 ≤ j.toNat ∧ j.toNat ≤ 5) ∧ low.toInt ≤ high.toInt
              ∧ (1 ≤ window.toNat ∧ window.toNat ≤ 8) ∧ 1 ≤ count.toNat ∧ count.toNat ≤ 8 then
            some (n, channelConfigOf flags k j window count offset span low high group bound)
          else none := by
  simp [channelOf, fieldNat, fieldInt, within, bits, bit_toNat, channelConfigOf, and_assoc]

end Channel

end Sys2Proof.Machine
end

section
/-! PROOFS. Set Station, Set Group and Set Channel (R22, R59, R60, R204). -/

namespace Sys2Proof.Machine

/-! The silence comparison of a station at rest (R22). -/

section AtRest

variable {s : State}

theorem State.planSlot_at_rest (free : ∀ k : SlotNo, s.slotState k = .free) (k : SlotNo) : s.planSlot k = s :=
  s.planSlot_of_settled k (by rw [free k]; rfl)

/-- With no slot in use, the scaling hold is all that its evaluation sets (R166, R168). -/
theorem State.evaluateScalingHold_at_rest (free : ∀ k : SlotNo, s.slotState k = .free) :
    s.evaluateScalingHold = s.putSpl { s.spl with scalingHold := s.scalingAlarm } := by
  have freeAfter (hold : Bool) (k : SlotNo) : (s.putSpl { s.spl with scalingHold := hold }).slotState k = .free := free k
  have untouched (hold : Bool) (k : SlotNo) : (s.putSpl { s.spl with scalingHold := hold }).scalingHoldSlot k =
      (s.putSpl { s.spl with scalingHold := hold }, false) := by
    rw [State.scalingHoldSlot, freeAfter]
    rfl
  unfold State.evaluateScalingHold
  split
  · rename_i same
    rw [same]
    rfl
  · split
    · rename_i alarm
      simp only [untouched, alarm]
      rfl
    · rename_i quiet
      rw [State.replan, State.planSlot_at_rest (freeAfter false) 0, State.planSlot_at_rest (freeAfter false) 1,
        Bool.eq_false_iff.mpr quiet]

/-- A row falls silent in a station at rest. -/
theorem State.fallSilent_at_rest (free : ∀ k : SlotNo, s.slotState k = .free) (n : StationNo) :
    ∃ hold, s.fallSilent n = (((s.putPeer n { s.peers[n] with silent := true }).raise (.peerSilent n)).putSpl
      { s.spl with scalingHold := hold }) :=
  ⟨_, State.evaluateScalingHold_at_rest free⟩

end AtRest

/-- What a run of silence comparisons over some rows has made of a state at rest. -/
structure State.silenced (s t : State) (rows : List StationNo) : Prop where
  only : s.onlyChanges t [.peers, .attention, .spl]
  peers : ∀ n : StationNo, t.peers[n] = { s.peers[n] with
    silent := s.peers[n].silent || (decide (n ∈ rows) && s.silenceIsDue n) }
  pending : s.keepsPending t
  raised : ∀ n ∈ rows, s.silenceIsDue n = true → t.isPending (.peerSilent n) = true
  quiet : (∀ n ∈ rows, s.silenceIsDue n = false) → t.attention = s.attention ∧ t.spl = s.spl
  spl : t.spl = { s.spl with scalingHold := t.spl.scalingHold }

section Silence

variable {s t : State} {rows : List StationNo} {n : StationNo}

/-- The comparison of one more row. -/
theorem State.silenced.next (h : s.silenced t rows) (new : n ∉ rows) (free : ∀ k : SlotNo, s.slotState k = .free) :
    s.silenced (t.silenceCheck n) (rows ++ [n]) := by
  have stationNo : t.stationNo = s.stationNo := h.only.2 .stationNo (by decide)
  have config : t.config = s.config := h.only.2 .config (by decide)
  have svp : t.svp = s.svp := h.only.2 .svp (by decide)
  have tmu : t.tmu = s.tmu := h.only.2 .tmu (by decide)
  have row : t.peers[n] = s.peers[n] := by
    rw [h.peers n]
    simp [new]
  have due : t.silenceIsDue n = s.silenceIsDue n := by
    unfold State.silenceIsDue State.lineEnabled State.isPeer State.beaconPeriods State.count
    rw [row, stationNo, config, svp, tmu]
  have freeNow (k : SlotNo) : t.slotState k = .free := by
    rw [State.slotState, h.spl]
    exact free k
  have inNext (m : StationNo) : decide (m ∈ rows ++ [n]) = (decide (m ∈ rows) || decide (m = n)) := by
    simp [List.mem_append]
  unfold State.silenceCheck
  rw [due]
  cases isDue : s.silenceIsDue n with
  | false =>
    rw [if_neg Bool.false_ne_true]
    refine ⟨h.only, fun m => ?_, h.pending, fun m mem dueM => ?_, fun none_ => h.quiet fun m mem => none_ m (by simp [mem]), h.spl⟩
    · rw [h.peers m, inNext]
      by_cases same : m = n
      · subst same
        simp [isDue]
      · simp [same]
    · rcases List.mem_append.mp mem with old | last
      · exact h.raised m old dueM
      · rw [List.mem_singleton.mp last, isDue] at dueM
        cases dueM
  | true =>
    rw [if_pos rfl]
    obtain ⟨hold, silent⟩ := State.fallSilent_at_rest freeNow n
    rw [silent]
    have raised := State.keepsPending_raiseIn (t.putPeer n { t.peers[n] with silent := true }) (.peerSilent n) none
      t.tmu.lineTime
    refine ⟨State.onlyChanges_trans h.only (by simp [State.onlyChanges, Part.all, Part.same]), fun m => ?_, ?_, fun m mem dueM => ?_,
      fun none_ => ?_, ?_⟩
    · refine (t.putPeer_get n m _).trans ?_
      rw [inNext]
      split
      · rename_i same
        subst same
        rw [row]
        simp [isDue]
      · rename_i other
        rw [h.peers m]
        simp [other]
    · exact State.keepsPending_trans h.pending raised
    · rcases List.mem_append.mp mem with old | last
      · exact raised _ (h.raised m old dueM)
      · rw [List.mem_singleton.mp last]
        exact State.isPending_raise _ _
    · have := none_ n (by simp)
      rw [isDue] at this
      cases this
    · rw [State.putSpl_spl, h.spl]

theorem State.silenced.foldl {left : List StationNo} (h : s.silenced t rows) (distinct : (rows ++ left).Nodup)
    (free : ∀ k : SlotNo, s.slotState k = .free) : s.silenced (left.foldl State.silenceCheck t) (rows ++ left) := by
  induction left generalizing t rows with
  | nil => simpa using h
  | cons n left ih =>
    have new : n ∉ rows := fun mem => (List.nodup_append.mp distinct).2.2 n mem n (by simp) rfl
    have step := ih (h.next new free) (by simpa using distinct)
    simpa using step

end Silence

/-- What the silence comparisons of Set Station make of the rows. -/
theorem State.setStation_silenced {s : State} (free : ∀ k : SlotNo, s.slotState k = .free) (c : StationConfig) :
    { s with config := c }.silenced (s.setStation c) s.peerNumbers := by
  have start : { s with config := c }.silenced { s with config := c } [] :=
    ⟨State.onlyChanges_refl _ _, fun n => by simp, fun _ pending => pending, nofun, fun _ => ⟨rfl, rfl⟩, rfl⟩
  have distinct : s.peerNumbers.Nodup := (List.nodup_finRange 16).filter _
  exact start.foldl (left := s.peerNumbers) (by simpa using distinct) free

theorem State.silenceIsDue_peer {s : State} {n : StationNo} (due : s.silenceIsDue n = true) : n ∈ s.peerNumbers := by
  refine List.mem_filter.mpr ⟨List.mem_finRange n, ?_⟩
  cases peer : s.isPeer n with
  | true => rfl
  | false =>
    rw [State.silenceIsDue, peer] at due
    simp at due

/-- The request itself does not move the silence comparison. -/
theorem State.silenceIsDue_received (s : State) (code : Nat) (p : List Byte) (c : StationConfig) (n : StationNo) :
    State.silenceIsDue { s.received code p with config := c } n = State.silenceIsDue { s with config := c } n := by
  unfold State.silenceIsDue
  congr 1

/-- Settles O48: the three requests take their decoded fields, and the silence comparison follows Set Station's. -/
theorem stationGroupAndChannelAreSet : Obligations.StationGroupAndChannelAreSet := by
  intro s admits rest
  have notRun : s.svp.station ≠ .run := by rw [admits.2]; nofun
  have free (k : SlotNo) : s.slotState k = .free := rest.slots notRun k
  refine ⟨fun roles beacon large stray settle mask => ?_, fun g mark period => ?_,
    fun channel flags k j window count offset span low high => ?_⟩
  · intro p c due
    have fields : stationOf p = _ := stationOf_eq roles beacon large stray settle mask
    have length : p.length = 12 := by simp [p]
    clear_value p
    refine State.configures_of admits (lengths := [12]) (by simp [length]) (by omega) rfl (fun bad => ?_) fun good => ?_
    · exact State.ranged_none (fields.trans (if_neg bad)) _
    · have silenced := State.setStation_silenced (s := s.received 0x40 p) free c
      have dueIs (n : StationNo) : State.silenceIsDue { s.received 0x40 p with config := c } n = due n :=
        State.silenceIsDue_received s 0x40 p c n
      refine ⟨_, State.ranged_some (fields.trans (if_pos good)) _, silenced.only.2 .svp (by decide), ?_, ?_⟩
      · refine State.onlyChanges_trans (t := { s.received 0x40 p with config := c }) ?_
          (State.onlyChanges_mono silenced.only (by simp))
        simp [State.onlyChanges, Part.all, Part.same]
      · refine ⟨silenced.only.2 .config (by decide), fun n => ⟨(silenced.peers n).trans ?_, fun isDue => ?_⟩, fun none_ => ?_,
          silenced.spl⟩
        · have listed : (decide (n ∈ (s.received 0x40 p).peerNumbers) && due n) = due n := by
            cases isDue : due n with
            | false => exact Bool.and_false _
            | true =>
              have mem := State.silenceIsDue_peer ((dueIs n).trans isDue)
              exact (Bool.and_true _).trans (decide_eq_true mem)
          rw [dueIs, listed]
          rfl
        · have isDueNow := (dueIs n).trans isDue
          have mem := State.silenceIsDue_peer isDueNow
          exact silenced.raised n mem isDueNow
        · exact silenced.quiet fun n _ => (dueIs n).trans (none_ n)
  · intro p
    have fields : groupOf p = _ := groupOf_eq g mark period
    have length : p.length = 4 := by simp [p]
    clear_value p
    refine State.configures_of admits (lengths := [4]) (by simp [length]) (by omega) rfl (fun bad => ?_) fun good => ?_
    · refine State.ranged_none (fields.trans ?_) _
      rw [Option.bind_eq_none_iff]
      intro n at_
      exact if_neg fun good => bad ⟨by rw [index?_eq_some_iff.mp at_]; exact n.isLt, good.1.1, good.1.2, good.2⟩
    · obtain ⟨inside, low, high, mark⟩ := good
      rw [index?_of_lt inside, Option.bind_some, if_pos ⟨⟨low, high⟩, mark⟩] at fields
      refine ⟨_, State.ranged_some fields _, rfl, by simp [State.onlyChanges, Part.all, Part.same], fun n => ?_⟩
      refine (State.putGroup_get (s.received 0x42 p) _ n _).trans ?_
      by_cases same : n = ⟨g.toNat, inside⟩
      · subst same
        rw [if_pos rfl, if_pos rfl]
        rfl
      · rw [if_neg same, if_neg fun eq => same (Fin.ext eq)]
        rfl
  · intro p group bound
    have fields : channelOf p = _ := channelOf_eq channel flags k j window count offset span low high
    have length : p.length = 18 := by simp [p]
    clear_value p
    refine State.configures_of admits (lengths := [18]) (by simp [length]) (by omega) rfl (fun bad => ?_) fun good => ?_
    · refine State.ranged_none (fields.trans ?_) _
      simp only [Option.bind_eq_none_iff]
      intro n at_ x isGroup y isBound
      refine if_neg fun ⟨small, lowK, lowJ, limits, lowW, lowC⟩ => bad ?_
      have inside : channel.toNat < 8 := by rw [index?_eq_some_iff.mp at_]; exact n.isLt
      have groupSmall := groupField?_isSome isGroup
      have boundSmall := boundField?_isSome isBound
      exact ⟨inside, small, groupSmall, by omega, lowK.1, lowK.2, lowJ.1, lowJ.2, limits, lowW.1, lowW.2, lowC.1, lowC.2⟩
    · obtain ⟨inside, small, groupSmall, boundSmall, k5, k8, j3, j5, limits, w1, w8, c1, c8⟩ := good
      have whole : flags.toNat / 8 % 8 = bound := by omega
      rw [index?_of_lt inside, Option.bind_some, groupField?_of_le groupSmall, Option.bind_some, whole,
        boundField?_of_le boundSmall, Option.bind_some, if_pos ⟨small, ⟨k5, k8⟩, ⟨j3, j5⟩, limits, ⟨w1, w8⟩, c1, c8⟩] at fields
      refine ⟨_, State.ranged_some fields _, rfl, by simp [State.onlyChanges, Part.all, Part.same], fun n => ?_⟩
      refine (State.putChannel_get (s.received 0x41 p) _ n _).trans ?_
      by_cases same : n = ⟨channel.toNat, inside⟩
      · subst same
        rw [if_pos rfl, if_pos rfl]
        rfl
      · rw [if_neg same, if_neg fun eq => same (Fin.ext eq)]
        rfl

end Sys2Proof.Machine
end

section
/-! PROOFS. Set Capture, Set Turbine, Set Heat and Set Scaling (R86, R87, R106, R120, R142). -/

namespace Sys2Proof.Machine

/-! Set Capture (R86, R87). -/

theorem index?_eq_none_iff {n x : Nat} : index? n x = none ↔ n ≤ x := by
  unfold index?
  split
  · rename_i inside
    exact ⟨nofun, fun outside => absurd inside (by omega)⟩
  · rename_i outside
    exact ⟨fun _ => by omega, fun _ => rfl⟩

theorem modeOf_eq (b : Byte) : modeOf b.toNat = if b.toNat < 4 then some (modeNamed b) else none := by
  unfold modeNamed
  generalize b.toNat = n
  split
  · interval_cases n <;> rfl
  · match n with
    | 0 | 1 | 2 | 3 => omega
    | n + 4 => rfl

theorem modeNamed_single {b : Byte} (small : b.toNat < 4) :
    (modeNamed b).single = true ↔ b.toNat = 1 ∨ b.toNat = 2 := by
  unfold modeNamed
  generalize b.toNat = n at small
  interval_cases n <;> decide

theorem modeNamed_totaliser {b : Byte} (small : b.toNat < 4) : modeNamed b = .totaliser ↔ b.toNat = 2 := by
  unfold modeNamed
  generalize b.toNat = n at small
  interval_cases n <;> decide

theorem sourceOf_eq (b : Byte) : sourceOf b.toNat = if b.toNat < 16 then some (sourceNamed b) else none := by
  unfold sourceOf sourceNamed indexMod
  rw [bit_toNat]
  simp [bits, Fin.ofNat]

theorem sourceNamed_inj {a b : Byte} (smallA : a.toNat < 16) (smallB : b.toNat < 16) (same : sourceNamed a = sourceNamed b) :
    a = b := by
  unfold sourceNamed at same
  rw [PulseSource.mk.injEq] at same
  obtain ⟨input, falling⟩ := same
  rw [Fin.mk.injEq] at input
  rw [← bit_toNat, ← bit_toNat] at falling
  refine BitVec.eq_of_toNat_eq ?_
  simp only [bit, bits] at falling
  have := decide_eq_decide.mp falling
  omega

/-- The slave source that a byte names, 0xFF naming none (R216). -/
def slaveNamed (b : Byte) : Option PulseSource := if b.toNat = 0xFF then none else some (sourceNamed b)

section Capture

variable (unit mode master slave lead record poll : Byte)

/-- The parameters that Set Capture's fields carry. -/
def captureConfigOf : CaptureConfig :=
  { mode := modeNamed mode, master := sourceNamed master, slave := slaveNamed slave
    lead := lead.toNat, poll := decide (record.toNat = 1), pollMs := poll.toNat }

theorem slaveField_eq : (if slave.toNat = 0xFF then some none else (sourceOf slave.toNat).map some) =
    if slave.toNat < 16 ∨ slave.toNat = 0xFF then some (slaveNamed slave) else none := by
  unfold slaveNamed
  by_cases none_ : slave.toNat = 0xFF
  · rw [if_pos none_, if_pos none_, if_pos (Or.inr none_)]
  · rw [if_neg none_, if_neg none_, sourceOf_eq]
    by_cases small : slave.toNat < 16
    · rw [if_pos small, if_pos (Or.inl small)]
      rfl
    · rw [if_neg small, if_neg (fun any => any.elim small none_)]
      rfl

/-- The fields of Set Capture are each in range, and may stand together in one unit (R86, R87). -/
def captureFits : Prop :=
  unit.toNat < 4 ∧ mode.toNat < 4 ∧ master.toNat < 16 ∧ (slave.toNat < 16 ∨ slave.toNat = 0xFF) ∧ lead.toNat < 16
    ∧ record.toNat < 2 ∧ 1 ≤ poll.toNat ∧ (mode.toNat = 2 → slave.toNat = 0xFF)
    ∧ (mode.toNat = 1 ∨ mode.toNat = 2 → record.toNat = 0) ∧ slave ≠ master

/-- How Set Capture's payload is decoded, field by field. -/
theorem captureOf_eq : captureOf [unit, mode, master, slave, lead, record, poll] =
    (index? 4 unit.toNat).bind fun n => (modeOf mode.toNat).bind fun m => (sourceOf master.toNat).bind fun source =>
      (if slave.toNat = 0xFF then some none else (sourceOf slave.toNat).map some).bind fun second =>
        if lead.toNat < 16 && record.toNat < 2 && within 1 255 poll.toNat && !(m = .totaliser && second.isSome)
            && !(m.single && record.toNat = 1) && second != some source then
          some (n, { mode := m, master := source, slave := second, lead := lead.toNat, poll := record.toNat = 1, pollMs := poll.toNat })
        else none := by
  by_cases none_ : slave.toNat = 0xFF
  · simp [captureOf, fieldNat, none_]
  · simp [captureOf, fieldNat, none_]

/-- Set Capture's last checks, which compare its fields with each other. -/
theorem captureChecks_iff (smallMode : mode.toNat < 4) (smallMaster : master.toNat < 16)
    (isSlave : slave.toNat < 16 ∨ slave.toNat = 0xFF) :
    (lead.toNat < 16 && record.toNat < 2 && within 1 255 poll.toNat && !(modeNamed mode = .totaliser && (slaveNamed slave).isSome)
      && !((modeNamed mode).single && record.toNat = 1) && slaveNamed slave != some (sourceNamed master)) = true ↔
    lead.toNat < 16 ∧ record.toNat < 2 ∧ 1 ≤ poll.toNat ∧ (mode.toNat = 2 → slave.toNat = 0xFF)
      ∧ (mode.toNat = 1 ∨ mode.toNat = 2 → record.toNat = 0) ∧ slave ≠ master := by
  have hasSlave : (slaveNamed slave).isSome = true ↔ slave.toNat ≠ 0xFF := by
    unfold slaveNamed
    split <;> simp [*]
  have other : slaveNamed slave ≠ some (sourceNamed master) ↔ slave ≠ master := by
    unfold slaveNamed
    split
    · rename_i none_
      refine ⟨fun _ same => ?_, fun _ => nofun⟩
      rw [same] at none_
      omega
    · rename_i some_
      have small := isSlave.resolve_right some_
      refine not_congr ⟨fun same => sourceNamed_inj small smallMaster (Option.some.inj same), fun same => by rw [same]⟩
  have pollSmall := poll.isLt
  simp only [Bool.and_eq_true, Bool.not_eq_true', decide_eq_true_eq, within_iff, bne_iff_ne,
    ← Bool.not_eq_true, modeNamed_totaliser smallMode, modeNamed_single smallMode, hasSlave, other]
  constructor
  · rintro ⟨⟨⟨⟨⟨lead, record⟩, low, -⟩, totaliser⟩, single⟩, differ⟩
    exact ⟨lead, record, low, by omega, by omega, differ⟩
  · rintro ⟨lead, record, low, totaliser, single, differ⟩
    exact ⟨⟨⟨⟨⟨lead, record⟩, low, by omega⟩, by omega⟩, by omega⟩, differ⟩

variable {unit mode master slave lead record poll}

theorem captureOf_of_fits (fits : captureFits unit mode master slave lead record poll) :
    captureOf [unit, mode, master, slave, lead, record, poll] =
      some (⟨unit.toNat, fits.1⟩, captureConfigOf mode master slave lead record poll) := by
  obtain ⟨unitSmall, modeSmall, masterSmall, isSlave, checks⟩ := fits
  rw [captureOf_eq, index?_of_lt unitSmall, modeOf_eq, if_pos modeSmall, sourceOf_eq, if_pos masterSmall, slaveField_eq,
    if_pos isSlave]
  simp only [Option.bind_some]
  rw [if_pos ((captureChecks_iff mode master slave lead record poll modeSmall masterSmall isSlave).mpr checks)]
  rfl

theorem captureFits_of_isSome {x : CaptureNo × CaptureConfig}
    (some_ : captureOf [unit, mode, master, slave, lead, record, poll] = some x) :
    captureFits unit mode master slave lead record poll := by
  rw [captureOf_eq, modeOf_eq, sourceOf_eq, slaveField_eq] at some_
  simp only [Option.bind_eq_some_iff, Option.ite_none_right_eq_some, Option.some.injEq] at some_
  obtain ⟨n, at_, m, ⟨modeSmall, rfl⟩, source, ⟨masterSmall, rfl⟩, second, ⟨isSlave, rfl⟩, checks, -⟩ := some_
  have unitSmall : unit.toNat < 4 := by rw [index?_eq_some_iff.mp at_]; exact n.isLt
  exact ⟨unitSmall, modeSmall, masterSmall, isSlave,
    (captureChecks_iff mode master slave lead record poll modeSmall masterSmall isSlave).mp checks⟩

end Capture

theorem State.modeTaken_iff {s : State} {u : CaptureNo} {mode : CaptureMode} :
    s.modeTaken u mode = true ↔ mode.single = true ∧ ∃ v : CaptureNo, v ≠ u ∧ s.captures[v].config.mode = mode := by
  unfold State.modeTaken captureNumbers
  rw [Bool.and_eq_true, List.any_eq_true]
  refine and_congr_right fun _ => ⟨fun ⟨v, _, is⟩ => ⟨v, ?_⟩, fun ⟨v, differ, same⟩ => ⟨v, List.mem_finRange v, ?_⟩⟩
  · rw [Bool.and_eq_true, bne_iff_ne, decide_eq_true_eq] at is
    exact is
  · rw [Bool.and_eq_true, bne_iff_ne, decide_eq_true_eq]
    exact ⟨differ, same⟩

/-! Set Turbine (R106). -/

theorem turbineOf_eq (teeth overWindow overCount wheelWindow wheelCount stall : Byte) (trip reset : BitVec 16) :
    turbineOf (teeth :: bytesOf 2 trip.toNat ++ bytesOf 2 reset.toNat ++ [overWindow, overCount, wheelWindow, wheelCount, stall]) =
      if 1 ≤ trip.toNat ∧ 1 ≤ reset.toNat ∧ reset.toNat ≤ trip.toNat
          ∧ (∀ b ∈ [overWindow, overCount, wheelWindow, wheelCount], 1 ≤ b.toNat ∧ b.toNat ≤ 8)
          ∧ 5 ≤ stall.toNat ∧ stall.toNat ≤ 100 then
        some
          { teeth := teeth.toNat, tripLimit := trip.toNat, resetLimit := reset.toNat, overWindow := overWindow.toNat
            overCount := overCount.toNat, wheelWindow := wheelWindow.toNat, wheelCount := wheelCount.toNat
            stallSteps := stall.toNat }
      else none := by
  simp [turbineOf, fieldNat, within, and_assoc]

/-! Set Heat and Set Scaling: bytes that name channels (R120, R142, R216). -/

theorem channelField?_of_names {b : Byte} (names : namesChannel b) : channelField? b.toNat = some (channelNamed b) := by
  unfold channelField? channelNamed
  rcases names with small | none_
  · rw [if_neg (by omega), index?_of_lt small, dif_pos small]
    rfl
  · rw [if_pos none_, dif_neg (by omega)]

theorem channelField?_of_not {b : Byte} (not_ : ¬namesChannel b) : channelField? b.toNat = none := by
  unfold channelField?
  rw [if_neg fun none_ => not_ (Or.inr none_), index?_eq_none_iff.mpr (Nat.le_of_not_lt fun small => not_ (Or.inl small))]
  rfl

theorem channelNamed_isSome {b : Byte} (names : namesChannel b) : (channelNamed b).isSome = true ↔ b.toNat ≠ 0xFF := by
  unfold channelNamed
  rcases names with small | none_
  · rw [dif_pos small]
    exact ⟨fun _ => by omega, fun _ => rfl⟩
  · rw [dif_neg (by omega)]
    exact ⟨nofun, fun some_ => absurd none_ some_⟩

/-- Of two bytes that name channels, the first one a channel, the same channel is the same byte. -/
theorem channelNamed_inj {a b : Byte} (names : namesChannel a) (some_ : a.toNat ≠ 0xFF) :
    channelNamed a = channelNamed b ↔ a = b := by
  have small := names.resolve_right some_
  refine ⟨fun same => ?_, fun same => by rw [same]⟩
  unfold channelNamed at same
  rw [dif_pos small] at same
  split at same
  · rw [Option.some.injEq, Fin.mk.injEq] at same
    exact BitVec.eq_of_toNat_eq same
  · cases same

/-- Set Scaling's channels, two of which are not the same. -/
theorem channelsDiffer_iff {a b : Byte} (names : namesChannel a) :
    ((channelNamed a).isNone || channelNamed a != channelNamed b) = true ↔ (a.toNat ≠ 0xFF → a ≠ b) := by
  rw [Bool.or_eq_true, bne_iff_ne, Option.isNone_iff_eq_none, ← Option.not_isSome_iff_eq_none, channelNamed_isSome names]
  by_cases none_ : a.toNat = 0xFF
  · simp [none_]
  · simp [none_, channelNamed_inj names none_]

section Heat

variable (volume : BitVec 16) (supply ret : Byte) (table : Vector Nat 16)

/-- Set Heat's payload (11.3). -/
def heatPayload : List Byte := bytesOf 2 volume.toNat ++ [supply, ret] ++ table.toList.flatMap (bytesOf 2)

theorem length_heatPayload : (heatPayload volume supply ret table).length = 36 := by
  unfold heatPayload
  rw [List.flatMap_def, List.length_append, flatten_length (length_bytesOf 2)]
  simp

variable {table}

/-- The entries of the k table stand from byte 4 on, two bytes each. -/
theorem heatEntry_eq (fits : ∀ i : Fin 16, table[i] < 65536) (i : Fin 16) :
    fieldNat (heatPayload volume supply ret table) (4 + 2 * i.val) 2 = table[i] := by
  have at_ : table.toList[i.val]? = some table[i] := by simp
  unfold heatPayload
  rw [List.flatMap_def, fieldNat_append_right (by simp), show 4 + 2 * i.val - _ = 2 * i.val + 0 by simp,
    fieldNat_flatten (length_bytesOf 2) at_ (by omega), fieldNat_bytesOf]
  exact Nat.mod_eq_of_lt (fits i)

theorem heatConfigOf_eq (fits : ∀ i : Fin 16, table[i] < 65536) :
    heatConfigOf (heatPayload volume supply ret table) =
      (channelField? supply.toNat).bind fun a => (channelField? ret.toNat).bind fun b =>
        if 1 ≤ volume.toNat && !(a.isSome && a = b) && table.toList.all (within 3000 4500) then
          some { volume := volume.toNat, supply := a, ret := b, kTable := table }
        else none := by
  have entry := heatEntry_eq volume supply ret fits
  have volumeField : fieldNat (heatPayload volume supply ret table) 0 2 = volume.toNat := by simp [heatPayload, fieldNat]
  have supplyField : fieldNat (heatPayload volume supply ret table) 2 1 = supply.toNat := by simp [heatPayload, fieldNat]
  have retField : fieldNat (heatPayload volume supply ret table) 3 1 = ret.toNat := by simp [heatPayload, fieldNat]
  generalize heatPayload volume supply ret table = p at entry volumeField supplyField retField
  have whole : #v[fieldNat p 4 2, fieldNat p 6 2, fieldNat p 8 2, fieldNat p 10 2, fieldNat p 12 2, fieldNat p 14 2, fieldNat p 16 2,
      fieldNat p 18 2, fieldNat p 20 2, fieldNat p 22 2, fieldNat p 24 2, fieldNat p 26 2, fieldNat p 28 2, fieldNat p 30 2,
      fieldNat p 32 2, fieldNat p 34 2] = table := by
    refine Vector.ext fun i inside => ?_
    rw [← show table[(⟨i, inside⟩ : Fin 16)] = table[i] from rfl, ← entry ⟨i, inside⟩]
    interval_cases i <;> rfl
  unfold heatConfigOf
  rw [volumeField, supplyField, retField]
  simp only [Nat.reduceMul, Nat.reduceAdd, whole]
  rfl

theorem heatConfigOf_of_names (fits : ∀ i : Fin 16, table[i] < 65536) {supply ret : Byte} (isSupply : namesChannel supply)
    (isRet : namesChannel ret) :
    heatConfigOf (heatPayload volume supply ret table) =
      if 1 ≤ volume.toNat ∧ (supply.toNat ≠ 0xFF → supply ≠ ret) ∧ ∀ i : Fin 16, 3000 ≤ table[i] ∧ table[i] ≤ 4500 then
        some { volume := volume.toNat, supply := channelNamed supply, ret := channelNamed ret, kTable := table }
      else none := by
  rw [heatConfigOf_eq _ _ _ fits, channelField?_of_names isSupply, channelField?_of_names isRet, Option.bind_some, Option.bind_some]
  refine if_congr ?_ rfl rfl
  have differ : (!((channelNamed supply).isSome && decide (channelNamed supply = channelNamed ret))) = true ↔
      (supply.toNat ≠ 0xFF → supply ≠ ret) := by
    rw [← channelsDiffer_iff isSupply]
    cases channelNamed supply <;> simp
  have entries : table.toList.all (within 3000 4500) = true ↔ ∀ i : Fin 16, 3000 ≤ table[i] ∧ table[i] ≤ 4500 := by
    rw [List.all_eq_true]
    refine ⟨fun each i => within_iff.mp (each _ ?_), fun each x mem => within_iff.mpr ?_⟩
    · rw [Vector.mem_toList_iff]
      exact Vector.getElem_mem i.isLt
    · rw [Vector.mem_toList_iff] at mem
      obtain ⟨i, inside, rfl⟩ := Vector.getElem_of_mem mem
      exact each ⟨i, inside⟩
  rw [Bool.and_eq_true, Bool.and_eq_true, differ, entries, decide_eq_true_eq, and_assoc]

theorem heatConfigOf_of_not_names (fits : ∀ i : Fin 16, table[i] < 65536) {supply ret : Byte}
    (not_ : ¬(namesChannel supply ∧ namesChannel ret)) : heatConfigOf (heatPayload volume supply ret table) = none := by
  rw [heatConfigOf_eq _ _ _ fits]
  by_cases isSupply : namesChannel supply
  · rw [channelField?_of_not fun isRet => not_ ⟨isSupply, isRet⟩]
    simp
  · rw [channelField?_of_not isSupply]
    rfl

end Heat

section Scaling

variable (length watch alarm : BitVec 16) (hotIn hotOut pressure window watchCount alarmCount : Byte)
  (baseline pressureWatch pressureAlarm : BitVec 32)

/-- Set Scaling's payload (11.3). -/
def scalingPayload : List Byte :=
  bytesOf 2 length.toNat ++ [hotIn, hotOut, pressure] ++ bytesOf 4 baseline.toNat ++ bytesOf 2 watch.toNat
    ++ bytesOf 2 alarm.toNat ++ bytesOf 4 pressureWatch.toNat ++ bytesOf 4 pressureAlarm.toNat
    ++ [window, watchCount, alarmCount]

/-- The parameters that Set Scaling's fields carry. -/
def scalingParameters (a b c : Option ChannelNo) : ScalingConfig :=
  { lengthS := length.toNat, hotIn := a, hotOut := b, pressure := c, baseline := baseline.toNat, watchLimit := watch.toNat
    alarmLimit := alarm.toNat, pressureWatch := pressureWatch.toInt, pressureAlarm := pressureAlarm.toInt
    window := window.toNat, watchCount := watchCount.toNat, alarmCount := alarmCount.toNat }

theorem scalingConfigOf_eq :
    scalingConfigOf (scalingPayload length watch alarm hotIn hotOut pressure window watchCount alarmCount baseline
        pressureWatch pressureAlarm) =
      (channelField? hotIn.toNat).bind fun a => (channelField? hotOut.toNat).bind fun b =>
        (channelField? pressure.toNat).bind fun c =>
          if (10 ≤ length.toNat ∧ length.toNat ≤ 600) ∧ (a.isNone || a != b) = true ∧ (a.isNone || a != c) = true
              ∧ (b.isNone || b != c) = true ∧ (1 ≤ baseline.toNat ∧ baseline.toNat ≤ 2147483647) ∧ watch.toNat ≤ 1000
              ∧ alarm.toNat < watch.toNat ∧ pressureWatch.toInt ≤ pressureAlarm.toInt
              ∧ (1 ≤ window.toNat ∧ window.toNat ≤ 8) ∧ (1 ≤ watchCount.toNat ∧ watchCount.toNat ≤ 8)
              ∧ (1 ≤ alarmCount.toNat ∧ alarmCount.toNat ≤ 8) then
            some (scalingParameters length watch alarm window watchCount alarmCount baseline pressureWatch pressureAlarm a b c)
          else none := by
  simp only [scalingPayload, scalingConfigOf, fieldNat, fieldInt, List.append_assoc, List.cons_append, List.nil_append,
    field_bytesOf_append, field_bytesOf_skip, field_cons_zero, field_cons_succ, Nat.reduceSub, Nat.reduceLeDiff,
    numberOf_singleton, numberOf_bytesOf_16, numberOf_bytesOf_32, signedOf_bytesOf_32, within, Bool.and_eq_true,
    decide_eq_true_eq, and_assoc, scalingParameters, Params.greatestBaseline]
  rfl

variable {hotIn hotOut pressure}

theorem scalingConfigOf_of_names (isIn : namesChannel hotIn) (isOut : namesChannel hotOut) (isPressure : namesChannel pressure) :
    scalingConfigOf (scalingPayload length watch alarm hotIn hotOut pressure window watchCount alarmCount baseline
        pressureWatch pressureAlarm) =
      if 10 ≤ length.toNat ∧ length.toNat ≤ 600 ∧ (hotIn.toNat ≠ 0xFF → hotIn ≠ hotOut ∧ hotIn ≠ pressure)
          ∧ (hotOut.toNat ≠ 0xFF → hotOut ≠ pressure) ∧ 1 ≤ baseline.toNat ∧ baseline.toNat ≤ 2147483647 ∧ watch.toNat ≤ 1000
          ∧ alarm.toNat < watch.toNat ∧ pressureWatch.toInt ≤ pressureAlarm.toInt
          ∧ ∀ b ∈ [window, watchCount, alarmCount], 1 ≤ b.toNat ∧ b.toNat ≤ 8 then
        some (scalingParameters length watch alarm window watchCount alarmCount baseline pressureWatch pressureAlarm
          (channelNamed hotIn) (channelNamed hotOut) (channelNamed pressure))
      else none := by
  rw [scalingConfigOf_eq, channelField?_of_names isIn, channelField?_of_names isOut, channelField?_of_names isPressure]
  simp only [Option.bind_some, channelsDiffer_iff isIn, channelsDiffer_iff isOut]
  refine if_congr ?_ rfl rfl
  have counts : (∀ b ∈ [window, watchCount, alarmCount], 1 ≤ b.toNat ∧ b.toNat ≤ 8) ↔
      (1 ≤ window.toNat ∧ window.toNat ≤ 8) ∧ (1 ≤ watchCount.toNat ∧ watchCount.toNat ≤ 8)
        ∧ (1 ≤ alarmCount.toNat ∧ alarmCount.toNat ≤ 8) := by
    simp
  rw [counts]
  simp only [and_assoc, imp_and]

theorem scalingConfigOf_of_not_names (not_ : ¬(namesChannel hotIn ∧ namesChannel hotOut ∧ namesChannel pressure)) :
    scalingConfigOf (scalingPayload length watch alarm hotIn hotOut pressure window watchCount alarmCount baseline
        pressureWatch pressureAlarm) = none := by
  rw [scalingConfigOf_eq]
  by_cases isIn : namesChannel hotIn
  · by_cases isOut : namesChannel hotOut
    · rw [channelField?_of_not fun isPressure => not_ ⟨isIn, isOut, isPressure⟩]
      simp
    · rw [channelField?_of_not isOut]
      simp
  · rw [channelField?_of_not isIn]
    rfl

end Scaling

/-- Settles O49: the four requests take their decoded fields. -/
theorem measurementBlocksAreSet : Obligations.MeasurementBlocksAreSet := by
  intro s admits
  refine ⟨fun unit mode master slave lead record poll => ?_,
    fun teeth overWindow overCount wheelWindow wheelCount stall trip reset => ?_, fun volume supply ret table small => ?_,
    fun length watch alarm hotIn hotOut pressure window watchCount alarmCount baseline pressureWatch pressureAlarm => ?_⟩
  · intro p single
    have good_iff : ∀ (taken : Prop), (unit.toNat < 4 ∧ mode.toNat < 4 ∧ master.toNat < 16 ∧ (slave.toNat < 16 ∨ slave.toNat = 0xFF)
        ∧ lead.toNat < 16 ∧ record.toNat < 2 ∧ 1 ≤ poll.toNat ∧ (mode.toNat = 2 → slave.toNat = 0xFF)
        ∧ (single → record.toNat = 0) ∧ slave ≠ master ∧ taken) ↔ captureFits unit mode master slave lead record poll ∧ taken := by
      intro taken
      simp only [captureFits, and_assoc, single]
    refine State.configures_of admits (lengths := [7]) (by simp [p]) (by simp [p]) rfl (fun bad => ?_) fun good => ?_
    · rw [good_iff] at bad
      by_cases fits : captureFits unit mode master slave lead record poll
      · refine (State.ranged_some (captureOf_of_fits fits) _).trans ?_
        refine if_pos (State.modeTaken_iff.mpr ?_)
        by_contra free
        refine bad ⟨fits, fun isSingle v other same => free ⟨(modeNamed_single fits.2.1).mpr isSingle, v, ?_, same⟩⟩
        exact fun eq => other (congrArg Fin.val eq)
      · refine State.ranged_none (Option.eq_none_iff_forall_ne_some.mpr fun x some_ => ?_) _
        exact fits (captureFits_of_isSome some_)
    · rw [good_iff] at good
      obtain ⟨fits, free⟩ := good
      have notTaken : (s.received 0x43 p).modeTaken ⟨unit.toNat, fits.1⟩ (modeNamed mode) ≠ true := fun taken => by
        obtain ⟨isSingle, v, other, same⟩ := State.modeTaken_iff.mp taken
        exact free ((modeNamed_single fits.2.1).mp isSingle) v (fun eq => other (Fin.ext eq)) same
      refine ⟨(s.received 0x43 p).putCapture ⟨unit.toNat, fits.1⟩ { s.captures[(⟨unit.toNat, fits.1⟩ : CaptureNo)] with
          config := captureConfigOf mode master slave lead record poll },
        (State.ranged_some (captureOf_of_fits fits) _).trans ?_, rfl, by simp [State.onlyChanges, Part.all, Part.same], fun u => ?_⟩
      · exact if_neg notTaken
      refine (State.putCapture_get (s.received 0x43 p) _ u _).trans ?_
      by_cases same : u = ⟨unit.toNat, fits.1⟩
      · subst same
        rw [if_pos rfl, if_pos rfl]
        rfl
      · rw [if_neg same, if_neg fun eq => same (Fin.ext eq)]
        rfl
  · intro p
    have fields : turbineOf p = _ := turbineOf_eq teeth overWindow overCount wheelWindow wheelCount stall trip reset
    have length : p.length = 10 := by simp [p]
    clear_value p
    refine State.configures_of admits (lengths := [10]) (by simp [length]) (by omega) rfl (fun bad => ?_) fun good => ?_
    · exact State.ranged_none (fields.trans (if_neg bad)) _
    · exact ⟨_, State.ranged_some (fields.trans (if_pos good)) _, rfl, by simp [State.onlyChanges, Part.all, Part.same], rfl⟩
  · intro p
    have named (isSupply : namesChannel supply) (isRet : namesChannel ret) : heatConfigOf p = _ :=
      heatConfigOf_of_names volume small isSupply isRet
    have unnamed : ¬(namesChannel supply ∧ namesChannel ret) → heatConfigOf p = none := heatConfigOf_of_not_names volume small
    have length : p.length = 36 := length_heatPayload volume supply ret table
    clear_value p
    refine State.configures_of admits (lengths := [36]) (by simp [length]) (by omega) rfl (fun bad => ?_) fun good => ?_
    · refine State.ranged_none ?_ _
      by_cases names : namesChannel supply ∧ namesChannel ret
      · refine (named names.1 names.2).trans (if_neg fun ⟨some_, differ, entries⟩ => ?_)
        exact bad ⟨some_, names.1, names.2, differ, entries⟩
      · exact unnamed names
    · obtain ⟨some_, isSupply, isRet, differ, entries⟩ := good
      exact ⟨_, State.ranged_some ((named isSupply isRet).trans (if_pos ⟨some_, differ, entries⟩)) _, rfl,
        by simp [State.onlyChanges, Part.all, Part.same], rfl⟩
  · intro p
    have named (isIn : namesChannel hotIn) (isOut : namesChannel hotOut) (isPressure : namesChannel pressure) : scalingConfigOf p = _ :=
      scalingConfigOf_of_names length watch alarm window watchCount alarmCount baseline pressureWatch pressureAlarm isIn isOut
        isPressure
    have unnamed : ¬(namesChannel hotIn ∧ namesChannel hotOut ∧ namesChannel pressure) → scalingConfigOf p = none :=
      scalingConfigOf_of_not_names length watch alarm window watchCount alarmCount baseline pressureWatch pressureAlarm
    have size : p.length = 24 := by simp [p]
    clear_value p
    have three : (∀ b ∈ [hotIn, hotOut, pressure], namesChannel b) ↔
        namesChannel hotIn ∧ namesChannel hotOut ∧ namesChannel pressure := by
      simp
    rw [three]
    refine State.configures_of admits (lengths := [24]) (by simp [size]) (by omega) rfl (fun bad => ?_) fun good => ?_
    · refine State.ranged_none ?_ _
      by_cases names : namesChannel hotIn ∧ namesChannel hotOut ∧ namesChannel pressure
      · refine (named names.1 names.2.1 names.2.2).trans (if_neg fun ⟨low, high, rest⟩ => ?_)
        exact bad ⟨low, high, names, rest⟩
      · exact unnamed names
    · obtain ⟨low, high, ⟨isIn, isOut, isPressure⟩, rest⟩ := good
      exact ⟨_, State.ranged_some ((named isIn isOut isPressure).trans (if_pos ⟨low, high, rest⟩)) _, rfl,
        by simp [State.onlyChanges, Part.all, Part.same], rfl⟩

end Sys2Proof.Machine
end

section
/-! PROOFS. Set Unit, Set Edge and Set Watch List (R173 to R176, R210). -/

namespace Sys2Proof.Machine

/-! Set Unit (R176). -/

theorem unitOf_eq (unit flags : Byte) (length base step gap : BitVec 16) (catchUp : BitVec 32) :
    unitOf (unit :: flags :: bytesOf 2 length.toNat ++ bytesOf 4 catchUp.toNat ++ bytesOf 2 base.toNat
        ++ bytesOf 2 step.toNat ++ bytesOf 2 gap.toNat) =
      (index? 4 unit.toNat).bind fun n =>
        if flags.toNat < 4 ∧ 1 ≤ length.toNat ∧ catchUp.toNat ≤ 1000000 ∧ base.toNat ≤ 60000 ∧ step.toNat ≤ 60000
            ∧ gap.toNat ≤ 10000 then
          some (n, { windowLength := length.toNat, scalingBound := flags.getLsbD 0, shedEnable := flags.getLsbD 1
                     catchUp := catchUp.toNat, shedBaseMs := base.toNat, shedStepMs := step.toNat, unitGapMs := gap.toNat })
        else none := by
  simp [unitOf, fieldNat, bit_toNat, and_assoc]

/-! Set Edge (R174, R175). -/

/-- The basis that a code names. -/
def basisNamed : Nat → EdgeBasis
  | 0 => .start
  | 1 => .stop
  | j + 2 => .after ⟨j % 6, by omega⟩

theorem basisField?_eq (d : DefNo) (n : Nat) :
    basisField? d n = if n < 2 ∨ n - 2 < d.val then some (basisNamed n) else none := by
  match n with
  | 0 | 1 => rfl
  | j + 2 =>
    have dSmall := d.isLt
    by_cases below : j < d.val
    · have inside : j < 6 := by omega
      rw [if_pos (Or.inr (by omega))]
      simp only [basisField?, index?_of_lt inside, Option.bind_some]
      rw [if_pos (show (⟨j, inside⟩ : DefNo) < d from below)]
      simp [basisNamed, Nat.mod_eq_of_lt inside]
    · rw [if_neg (by omega)]
      unfold basisField?
      rw [Option.bind_eq_none_iff]
      intro i at_
      exact if_neg fun less => below (by rw [index?_eq_some_iff.mp at_]; exact less)

section Edge

variable {unit place flags output basis : Byte} {offset : Nat}

/-- The fields of Set Edge are each in range (R175). -/
def edgeFits (unit place flags output basis : Byte) : Prop :=
  unit.toNat < 4 ∧ place.toNat < 6 ∧ flags.toNat < 4 ∧ output.toNat < 8 ∧ (basis.toNat < 2 ∨ basis.toNat - 2 < place.toNat)

/-- The definition that Set Edge's fields carry. -/
def edgeDefOf (flags basis : Byte) (output : OutputNo) (offset : Nat) : EdgeDef :=
  { enabled := flags.getLsbD 0, output := output, high := flags.getLsbD 1, basis := basisNamed basis.toNat, offset := offset }

theorem edgeOf_eq (small : offset < 2 ^ 24) :
    edgeOf ([unit, place, flags, output, basis] ++ bytesOf 3 offset) =
      (index? 4 unit.toNat).bind fun n => (index? 6 place.toNat).bind fun d => (index? 8 output.toNat).bind fun o =>
        (basisField? d basis.toNat).bind fun b =>
          if flags.toNat < 4 then
            some (n, d, { enabled := flags.getLsbD 0, output := o, high := flags.getLsbD 1, basis := b, offset := offset })
          else none := by
  have whole : numberOf (bytesOf 3 offset) = offset := by
    rw [numberOf_bytesOf]
    exact Nat.mod_eq_of_lt small
  simp [edgeOf, fieldNat, bit_toNat, whole]

theorem edgeOf_of_fits (fits : edgeFits unit place flags output basis) (small : offset < 2 ^ 24) :
    edgeOf ([unit, place, flags, output, basis] ++ bytesOf 3 offset) =
      some (⟨unit.toNat, fits.1⟩, ⟨place.toNat, fits.2.1⟩, edgeDefOf flags basis ⟨output.toNat, fits.2.2.2.1⟩ offset) := by
  obtain ⟨unitSmall, placeSmall, flagsSmall, outputSmall, basisSmall⟩ := fits
  rw [edgeOf_eq small, index?_of_lt unitSmall, index?_of_lt placeSmall, index?_of_lt outputSmall]
  simp only [Option.bind_some]
  rw [basisField?_eq, if_pos basisSmall, Option.bind_some, if_pos flagsSmall]
  rfl

theorem edgeFits_of_isSome (small : offset < 2 ^ 24) {x : UnitNo × DefNo × EdgeDef}
    (some_ : edgeOf ([unit, place, flags, output, basis] ++ bytesOf 3 offset) = some x) :
    edgeFits unit place flags output basis := by
  rw [edgeOf_eq small] at some_
  simp only [basisField?_eq, Option.bind_eq_some_iff, Option.ite_none_right_eq_some, Option.some.injEq] at some_
  obtain ⟨n, atUnit, d, atPlace, o, atOutput, b, ⟨basisSmall, rfl⟩, flagsSmall, -⟩ := some_
  rw [index?_eq_some_iff] at atUnit atPlace atOutput
  refine ⟨?_, ?_, flagsSmall, ?_, ?_⟩
  · rw [atUnit]; exact n.isLt
  · rw [atPlace]; exact d.isLt
  · rw [atOutput]; exact o.isLt
  · rw [atPlace]; exact basisSmall

end Edge

theorem SwUnit.owns_iff {u : SwUnit} {o : OutputNo} :
    u.owns o = true ↔ ∃ d : DefNo, u.defs[d].enabled = true ∧ u.defs[d].output = o := by
  unfold SwUnit.owns defNumbers
  rw [List.any_eq_true]
  refine exists_congr fun d => ?_
  rw [Bool.and_eq_true, decide_eq_true_eq]
  exact and_iff_right (List.mem_finRange d)

theorem State.ownedElsewhere_iff {s : State} {n : UnitNo} {d : EdgeDef} :
    s.ownedElsewhere n d = true ↔ d.enabled = true ∧ ∃ m : UnitNo, m ≠ n ∧ s.units[m].owns d.output = true := by
  unfold State.ownedElsewhere unitNumbers
  rw [Bool.and_eq_true, List.any_eq_true]
  refine and_congr_right fun _ => exists_congr fun m => ?_
  rw [Bool.and_eq_true, bne_iff_ne]
  exact and_iff_right (List.mem_finRange m)

/-! Set Watch List (R210). -/

theorem plainItem?_eq_some_iff {subject : Nat} {x item : WatchItem} :
    plainItem? subject x = some item ↔ subject = 0xFF ∧ x = item := by
  simp [plainItem?]

/-- An item is the one that its kind and subject name (11.3). -/
theorem itemOf_eq_some_iff {kind subject : Nat} {item : WatchItem} :
    itemOf kind subject = some item ↔ kind = item.kind ∧ subject = item.subject := by
  constructor
  · intro some_
    unfold itemOf at some_
    split at some_
    case h_12 | h_13 | h_14 =>
      obtain ⟨i, at_, rfl⟩ := Option.map_eq_some_iff.mp some_
      exact ⟨rfl, index?_eq_some_iff.mp at_⟩
    case h_16 => cases some_
    all_goals
      obtain ⟨none_, rfl⟩ := plainItem?_eq_some_iff.mp some_
      exact ⟨rfl, none_⟩
  · rintro ⟨rfl, rfl⟩
    cases item with
    | latestSetValue c => exact congrArg (Option.map _) (index?_of_lt c.isLt)
    | masterCount c => exact congrArg (Option.map _) (index?_of_lt c.isLt)
    | unitState c => exact congrArg (Option.map _) (index?_of_lt c.isLt)
    | _ => rfl

theorem WatchItem.kind_subject_lt (item : WatchItem) : item.kind < 256 ∧ item.subject < 256 := by
  cases item with
  | latestSetValue c => exact ⟨by simp [WatchItem.kind], by have := c.isLt; simp only [WatchItem.subject]; omega⟩
  | masterCount c => exact ⟨by simp [WatchItem.kind], by have := c.isLt; simp only [WatchItem.subject]; omega⟩
  | unitState c => exact ⟨by simp [WatchItem.kind], by have := c.isLt; simp only [WatchItem.subject]; omega⟩
  | _ => decide

/-- The two bytes that spell an item in a watch list. -/
def WatchItem.spelled (item : WatchItem) : Byte × Byte := (BitVec.ofNat 8 item.kind, BitVec.ofNat 8 item.subject)

theorem itemOf_bytes_iff {b : Byte × Byte} {item : WatchItem} :
    itemOf b.1.toNat b.2.toNat = some item ↔ b = item.spelled := by
  obtain ⟨kindSmall, subjectSmall⟩ := item.kind_subject_lt
  rw [itemOf_eq_some_iff, Prod.ext_iff]
  refine and_congr ?_ ?_ <;> rw [BitVec.toNat_eq] <;>
    simp only [WatchItem.spelled, BitVec.toNat_ofNat, Nat.reducePow, Nat.mod_eq_of_lt, kindSmall, subjectSmall]

/-- A watch list's payload is taken exactly as the list of the items it spells. -/
theorem itemsOf_eq_some_iff {pairs : List (Byte × Byte)} {items : List WatchItem} :
    itemsOf (pairs.flatMap fun b => [b.1, b.2]) = some items ↔ pairs = items.map WatchItem.spelled := by
  induction pairs generalizing items with
  | nil =>
    cases items with
    | nil => exact ⟨fun _ => rfl, fun _ => rfl⟩
    | cons item items => exact ⟨nofun, nofun⟩
  | cons b pairs ih =>
    rw [List.flatMap_cons, List.cons_append, List.cons_append, List.nil_append, itemsOf]
    constructor
    · intro some_
      obtain ⟨item, first, some_⟩ := Option.bind_eq_some_iff.mp some_
      obtain ⟨rest, others, some_⟩ := Option.bind_eq_some_iff.mp some_
      obtain rfl := Option.some.inj some_
      rw [List.map_cons, itemOf_bytes_iff.mp first, ih.mp others]
    · intro same
      cases items with
      | nil => cases same
      | cons item items =>
        obtain ⟨first, others⟩ := List.cons.inj same
        have first := itemOf_bytes_iff.mpr first
        have others := ih.mpr others
        simp [first, others]

/-- Settles O50: the three requests take their decoded fields. -/
theorem unitsEdgesAndWatchListAreSet : Obligations.UnitsEdgesAndWatchListAreSet := by
  intro s admits
  refine ⟨fun unit flags length base step gap catchUp => ?_, fun unit place flags output basis offset small => ?_, fun pairs few => ?_⟩
  · intro p
    have fields : unitOf p = _ := unitOf_eq unit flags length base step gap catchUp
    have size : p.length = 14 := by simp [p]
    clear_value p
    refine State.configures_of admits (lengths := [14]) (by simp [size]) (by omega) rfl (fun bad => ?_) fun good => ?_
    · refine State.ranged_none (fields.trans ?_) _
      rw [Option.bind_eq_none_iff]
      intro n at_
      exact if_neg fun good => bad ⟨by rw [index?_eq_some_iff.mp at_]; exact n.isLt, good⟩
    · obtain ⟨inside, good⟩ := good
      rw [index?_of_lt inside, Option.bind_some, if_pos good] at fields
      refine ⟨_, State.ranged_some fields _, rfl, by simp [State.onlyChanges, Part.all, Part.same], fun n => ?_⟩
      refine (State.putUnit_get (s.received 0x48 p) _ n _).trans ?_
      by_cases same : n = ⟨unit.toNat, inside⟩
      · subst same
        rw [if_pos rfl, if_pos rfl]
        rfl
      · rw [if_neg same, if_neg fun eq => same (Fin.ext eq)]
        rfl
  · intro p taken
    have named (fits : edgeFits unit place flags output basis) : edgeOf p = _ := edgeOf_of_fits fits small
    have fitsOf {x : UnitNo × DefNo × EdgeDef} : edgeOf p = some x → edgeFits unit place flags output basis :=
      edgeFits_of_isSome small
    have size : p.length = 8 := by simp [p]
    clear_value p
    refine State.configures_of admits (lengths := [8]) (by simp [size]) (by omega) rfl (fun bad => ?_) fun good => ?_
    · by_cases fits : edgeFits unit place flags output basis
      · refine (State.ranged_some (named fits) _).trans ?_
        refine if_pos (State.ownedElsewhere_iff.mpr ?_)
        by_contra free
        obtain ⟨unitSmall, placeSmall, flagsSmall, outputSmall, basisSmall⟩ := fits
        refine bad ⟨unitSmall, placeSmall, flagsSmall, outputSmall, basisSmall, fun enabled m other d isEnabled same => free ⟨enabled, m, ?_, ?_⟩⟩
        · exact fun eq => other (congrArg Fin.val eq)
        · exact SwUnit.owns_iff.mpr ⟨d, isEnabled, Fin.ext same⟩
      · refine State.ranged_none (Option.eq_none_iff_forall_ne_some.mpr fun x some_ => ?_) _
        exact fits (fitsOf some_)
    · obtain ⟨unitSmall, placeSmall, flagsSmall, outputSmall, basisSmall, free⟩ := good
      have fits : edgeFits unit place flags output basis := ⟨unitSmall, placeSmall, flagsSmall, outputSmall, basisSmall⟩
      have notOwned : (s.received 0x49 p).ownedElsewhere ⟨unit.toNat, unitSmall⟩
          (edgeDefOf flags basis ⟨output.toNat, outputSmall⟩ offset) ≠ true := fun owned => by
        obtain ⟨enabled, m, other, owns⟩ := State.ownedElsewhere_iff.mp owned
        obtain ⟨d, isEnabled, same⟩ := SwUnit.owns_iff.mp owns
        exact free enabled m (fun eq => other (Fin.ext eq)) d isEnabled (congrArg Fin.val same)
      let n : UnitNo := ⟨unit.toNat, unitSmall⟩
      refine ⟨(s.received 0x49 p).putUnit n { s.units[n] with
          defs := s.units[n].defs.set place.toNat (edgeDefOf flags basis ⟨output.toNat, outputSmall⟩ offset) },
        (State.ranged_some (named fits) _).trans ?_, rfl, by simp [State.onlyChanges, Part.all, Part.same], fun m => ?_⟩
      · exact if_neg notOwned
      have unitIs := State.putUnit_get (s.received 0x49 p) n m { s.units[n] with
          defs := s.units[n].defs.set place.toNat (edgeDefOf flags basis ⟨output.toNat, outputSmall⟩ offset) }
      refine ⟨fun other => unitIs.trans ?_, fun same => ?_⟩
      · rw [if_neg fun eq => other (congrArg Fin.val eq)]
        rfl
      · obtain rfl : m = n := Fin.ext same
        have unitIs := unitIs.trans (if_pos rfl)
        refine ⟨?_, fun d => ⟨fun other => ?_, fun same o isOutput => ?_⟩⟩
        · exact unitIs.trans (congrArg (fun defs => { s.units[n] with defs := defs }) (congrArg SwUnit.defs unitIs).symm)
        · refine (congrArg (fun u : SwUnit => u.defs[d]) unitIs).trans ?_
          exact Vector.getElem_set_ne placeSmall d.isLt fun eq => other eq.symm
        · obtain rfl : o = ⟨output.toNat, outputSmall⟩ := Fin.ext isOutput
          refine (congrArg (fun u : SwUnit => u.defs[d]) unitIs).trans ?_
          obtain rfl : d = ⟨place.toNat, placeSmall⟩ := Fin.ext same
          exact Vector.getElem_set_self _
  · intro p spelled
    have taken (items : List WatchItem) : itemsOf p = some items ↔ pairs = items.map WatchItem.spelled := itemsOf_eq_some_iff
    have size : p.length = 2 * pairs.length := by
      simp [p, List.length_flatMap, Nat.mul_comm]
    have listed : p.length ∈ watchListLengths := List.mem_map.mpr ⟨pairs.length, List.mem_range.mpr (by omega), size.symm⟩
    clear_value p
    refine ⟨fun bad => ?_, fun items same => ?_⟩
    · refine State.replies_of_admits (State.admitsConfiguration.admits admits) listed (by omega) rfl ?_
      refine State.ranged_none (Option.eq_none_iff_forall_ne_some.mpr fun items some_ => ?_) _
      exact bad ⟨items, (taken items).mp some_⟩
    · have taken := (taken items).mpr same
      refine ⟨_, rfl, ?_⟩
      rw [State.request_of_admits (State.admitsConfiguration.admits admits) listed (by omega), State.ranged_some taken]
      refine ⟨rfl, State.onlyChanges_mono (State.onlyChanges_answered (code := 0x4A) (p := p) (parts := [.svp]) ?_ _) (by simp)⟩
      exact State.onlyChanges_putSvp _ _

end Sys2Proof.Machine
end

section
/-! PROOFS. Set Window (R146). -/

namespace Sys2Proof.Machine

/-! What the other put operations change. -/

theorem State.onlyChanges_putSpl (s : State) (x : Spl) : s.onlyChanges (s.putSpl x) [.spl] := by
  simp [State.onlyChanges, Part.all, Part.same]

theorem State.onlyChanges_putTsv (s : State) (x : Tsv) : s.onlyChanges (s.putTsv x) [.tsv] := by
  simp [State.onlyChanges, Part.all, Part.same]

theorem State.onlyChanges_putHmt (s : State) (x : Hmt) : s.onlyChanges (s.putHmt x) [.hmt] := by
  simp [State.onlyChanges, Part.all, Part.same]

theorem State.onlyChanges_putScw (s : State) (x : Scw) : s.onlyChanges (s.putScw x) [.scw] := by
  simp [State.onlyChanges, Part.all, Part.same]

theorem State.onlyChanges_putUnit (s : State) (n : UnitNo) (x : SwUnit) : s.onlyChanges (s.putUnit n x) [.units] := by
  simp [State.onlyChanges, Part.all, Part.same]

theorem State.onlyChanges_putChannel (s : State) (n : ChannelNo) (x : Channel) : s.onlyChanges (s.putChannel n x) [.channels] := by
  simp [State.onlyChanges, Part.all, Part.same]

theorem State.onlyChanges_putGroup (s : State) (n : GroupNo) (x : Group) : s.onlyChanges (s.putGroup n x) [.groups] := by
  simp [State.onlyChanges, Part.all, Part.same]

theorem State.onlyChanges_putCapture (s : State) (n : CaptureNo) (x : Capture) : s.onlyChanges (s.putCapture n x) [.captures] := by
  simp [State.onlyChanges, Part.all, Part.same]

theorem State.onlyChanges_putPeer (s : State) (n : StationNo) (x : PeerRow) : s.onlyChanges (s.putPeer n x) [.peers] := by
  simp [State.onlyChanges, Part.all, Part.same]

theorem State.onlyChanges_putOutput (s : State) (n : OutputNo) (x : Bool) : s.onlyChanges (s.putOutput n x) [.outputs] := by
  simp [State.onlyChanges, Part.all, Part.same]

section Refusal

variable {s : State} {w : FixedWindow}

/-- Of two windows with granules, that they clash says that they share one. -/
theorem FixedWindow.clashes_iff {v : FixedWindow} (some_ : 0 < w.length) (others : 0 < v.length) :
    w.clashes v = true ↔ v.exponent = w.exponent
      ∧ ∃ g, w.offset ≤ g ∧ g < w.offset + w.length ∧ v.offset ≤ g ∧ g < v.offset + v.length := by
  simp only [FixedWindow.clashes, Bool.and_eq_true, decide_eq_true_eq]
  constructor
  · rintro ⟨⟨same, before⟩, after⟩
    exact ⟨same.symm, max w.offset v.offset, by omega, by omega, by omega, by omega⟩
  · rintro ⟨same, g, _, _, _, _⟩
    exact ⟨⟨same.symm, by omega⟩, by omega⟩

/-- The checks of Set Window in the order of their list, each with its code (R146). -/
theorem State.windowRefusal?_eq (s : State) (w : FixedWindow) :
    s.windowRefusal? w =
      if ¬(20 ≤ w.exponent ∧ w.exponent ≤ 31) then some .periodRange
      else if w.length = 0 then some .lengthZero
      else if ¬(w.offset + w.length ≤ 2 ^ (w.exponent - 10)) then some .exceedsPeriod
      else if ∃ v ∈ s.spl.windows, w.clashes v = true then some .overlap
      else if 8 ≤ s.spl.windows.length then some .noFreeWindow
      else none := by
  unfold State.windowRefusal? FixedWindow.periodGranules Config.fixedWindowPlaces
  simp only [Bool.not_eq_true', ← Bool.not_eq_true, within_iff, List.any_eq_true, Nat.not_le]

end Refusal

/-- The fields of Set Window's add form (11.3). -/
theorem windowOf_eq (e : Byte) {offset length : Nat} (offsetSmall : offset < 2 ^ 24) (lengthSmall : length < 2 ^ 24) :
    windowOf (e :: bytesOf 3 offset ++ bytesOf 3 length) = { exponent := e.toNat, offset := offset, length := length } := by
  have whole (n : Nat) (small : n < 2 ^ 24) : numberOf (bytesOf 3 n) = n := by
    rw [numberOf_bytesOf]
    exact Nat.mod_eq_of_lt small
  simp [windowOf, fieldNat, whole offset offsetSmall, whole length lengthSmall]

/-- Settles O43: the ladder of checks, and the two forms that succeed. -/
theorem setWindowChecksInOrder : Obligations.SetWindowChecksInOrder := by
  intro s e offset length admits table offsetSmall lengthSmall p ws refused inRange fits clash
  have fields : windowOf p = { exponent := e.toNat, offset := offset, length := length } :=
    windowOf_eq e offsetSmall lengthSmall
  have size : p.length = 7 := by simp [p]
  have some_ : p.isEmpty = false := rfl
  have checks := State.windowRefusal?_eq (s.received 0x47 p) { exponent := e.toNat, offset := offset, length := length }
  have clash_iff (long : 0 < length) : (∃ v ∈ (s.received 0x47 p).spl.windows,
      FixedWindow.clashes { exponent := e.toNat, offset := offset, length := length } v = true) ↔ clash :=
    exists_congr fun v => and_congr_right fun mem => FixedWindow.clashes_iff long (table.sound v mem).2.2.1
  have runs : exec (.setWindow p) s = .next (s.request 0x47 .configuration [0, 7] p fun s =>
      if p.isEmpty then s.clearWindows else s.addWindow (windowOf p)) := rfl
  have refuses {status : Status} (is : (s.received 0x47 p).windowRefusal?
      { exponent := e.toNat, offset := offset, length := length } = some status) : refused status := by
    refine State.replies_of_admits (State.admitsConfiguration.admits admits) (by simp [size]) (by omega) runs ?_
    rw [some_, if_neg Bool.false_ne_true, fields, State.addWindow, is]
    rfl
  clear_value p
  refine ⟨fun out => refuses ?_, fun low zero => refuses ?_, fun low long beyond => refuses ?_, fun low long fit clashes => refuses ?_,
    fun low long fit free full => refuses ?_, fun low long fit free places => ?_, fun c isClear => ?_⟩
  · exact checks.trans (if_pos out)
  · exact checks.trans ((if_neg (not_not.mpr low)).trans (if_pos zero))
  · exact checks.trans ((if_neg (not_not.mpr low)).trans ((if_neg long.ne').trans (if_pos beyond)))
  · exact checks.trans ((if_neg (not_not.mpr low)).trans ((if_neg long.ne').trans ((if_neg (not_not.mpr fit)).trans
      (if_pos ((clash_iff long).mpr clashes)))))
  · exact checks.trans ((if_neg (not_not.mpr low)).trans ((if_neg long.ne').trans ((if_neg (not_not.mpr fit)).trans
      ((if_neg (mt (clash_iff long).mp free)).trans (if_pos full)))))
  · have passes := checks.trans ((if_neg (not_not.mpr low)).trans ((if_neg long.ne').trans ((if_neg (not_not.mpr fit)).trans
      ((if_neg (mt (clash_iff long).mp free)).trans (if_neg (Nat.not_le_of_lt places))))))
    refine ⟨_, runs, ?_⟩
    rw [State.request_of_admits (State.admitsConfiguration.admits admits) (by simp [size]) (by omega), some_,
      if_neg Bool.false_ne_true, fields, State.addWindow, passes]
    exact ⟨State.onlyChanges_answered (State.onlyChanges_putSpl _ _) _, rfl, rfl⟩
  · have answer : exec c s = .next (s.request 0x47 .configuration [0, 7] [] State.clearWindows) := by
      rcases isClear with rfl | rfl <;> rfl
    refine ⟨_, answer, ?_⟩
    rw [State.request_of_admits (State.admitsConfiguration.admits admits) (by simp) (by simp)]
    exact ⟨State.onlyChanges_answered (State.onlyChanges_putSpl _ _) _, rfl, rfl⟩

end Sys2Proof.Machine
end

section
/-! PROOFS. Start Station's checks and the entry to RUN (R47, R177, R205, R206). -/

namespace Sys2Proof.Machine

/-! The checks of Start Station (R177, R205). -/

section Checks

variable {s : State}

/-- A channel of check 1 is usable: configured, enabled and grouped. -/
theorem State.unbound_iff {c : Option ChannelNo} : s.unbound c = true ↔
    ¬∃ n, c = some n ∧ s.channels[n].config.enabled = true ∧ s.channels[n].config.group ≠ none := by
  rw [State.unbound, Bool.not_eq_true', ← Bool.not_eq_true, Option.any_eq_true]
  refine not_congr (exists_congr fun n => and_congr_right fun _ => ?_)
  rw [State.grouped, Bool.and_eq_true, Option.isSome_iff_ne_none]

theorem State.hasMode_iff {mode : CaptureMode} :
    s.hasMode mode = true ↔ ∃ u : CaptureNo, s.captures[u].config.mode = mode := by
  unfold State.hasMode captureNumbers
  rw [List.any_eq_true]
  exact exists_congr fun u => (and_iff_right (List.mem_finRange u)).trans decide_eq_true_iff

theorem State.checkChannels_of_first {place : Nat} {c : Option ChannelNo} {before after : List (Nat × Option ChannelNo)}
    (exchange : s.config.roles.exchange = true) (places : s.boundChannels = before ++ (place, c) :: after)
    (bound : ∀ x ∈ before, s.unbound x.2 = false) (fails : s.unbound c = true) :
    s.checkChannels = some { status := .unbound, check := 1, subject := 16 * place + (c.map Fin.val).getD 0xF } := by
  have found : s.boundChannels.find? (fun x => s.unbound x.2) = some (place, c) :=
    List.find?_eq_some_iff_append.mpr ⟨fails, before, after, places, fun x mem => by rw [bound x mem]; rfl⟩
  rw [State.checkChannels, if_pos exchange, found]
  rfl

theorem State.checkChannels_of_bound
    (bound : s.config.roles.exchange = true → ∀ x ∈ s.boundChannels, s.unbound x.2 = false) : s.checkChannels = none := by
  unfold State.checkChannels
  split
  · rename_i exchange
    rw [Option.map_eq_none_iff, List.find?_eq_none]
    exact fun x mem => Bool.eq_false_iff.mp (bound exchange x mem)
  · rfl

theorem SwUnit.configured_iff {u : SwUnit} : u.configured = true ↔ ∃ d : DefNo, u.defs[d].enabled = true := by
  unfold SwUnit.configured defNumbers
  rw [List.any_eq_true]
  exact exists_congr fun d => and_iff_right (List.mem_finRange d)

/-- The conditions of R177, as a unit's checks name them by their numbers. -/
def SwUnit.meets (u : SwUnit) (i : Nat) : Prop :=
  (i = 1 → ∀ d j : DefNo, u.defs[d].enabled = true → u.defs[d].basis = .after j → u.defs[j].enabled = true)
    ∧ (i = 2 → u.defsOf .start ≠ [] ∧ u.defsOf .stop ≠ [])
    ∧ (i = 3 → ∀ d ∈ u.defsOf .start, u.cumulativeOffset d < 1024 * u.config.windowLength)

theorem SwUnit.afterDisabled_iff {u : SwUnit} :
    (defNumbers.any fun d => u.defs[d].enabled && match u.defs[d].basis with
      | .after j => !u.defs[j].enabled
      | .start | .stop => false) = true ↔ ¬u.meets 1 := by
  unfold SwUnit.meets defNumbers
  rw [List.any_eq_true]
  constructor
  · rintro ⟨d, -, fails⟩ ⟨meets, -⟩
    obtain ⟨enabled, fails⟩ := Bool.and_eq_true_iff.mp fails
    split at fails
    · rename_i j basis
      rw [meets rfl d j enabled basis] at fails
      cases fails
    · cases fails
    · cases fails
  · intro fails
    by_contra none_
    refine fails ⟨fun _ d j enabled basis => ?_, by simp, by simp⟩
    by_contra disabled
    refine none_ ⟨d, List.mem_finRange d, ?_⟩
    simp only [enabled, basis, Bool.eq_false_iff.mpr disabled]
    rfl

theorem SwUnit.edgesMissing_iff {u : SwUnit} : ((u.defsOf .start).isEmpty || (u.defsOf .stop).isEmpty) = true ↔ ¬u.meets 2 := by
  simp [SwUnit.meets, ← or_iff_not_imp_left]

theorem SwUnit.startTooLate_iff {u : SwUnit} :
    ((u.defsOf .start).any fun d => 1024 * u.config.windowLength ≤ u.cumulativeOffset d) = true ↔ ¬u.meets 3 := by
  simp [SwUnit.meets]

/-- The first condition that a configured unit fails is the one Start Station names. -/
theorem SwUnit.invalid?_of_fails {u : SwUnit} {i : Nat} (configured : u.configured = true) (fails : ¬u.meets i)
    (before : ∀ j, j < i → u.meets j) : u.invalid? = some i := by
  unfold SwUnit.invalid?
  refine (if_neg (by rw [configured]; exact Bool.false_ne_true)).trans ?_
  match i with
  | 1 => exact if_pos (SwUnit.afterDisabled_iff.mpr fails)
  | 2 =>
    refine (if_neg fun bad => SwUnit.afterDisabled_iff.mp bad (before 1 (by decide))).trans ?_
    exact if_pos (SwUnit.edgesMissing_iff.mpr fails)
  | 3 =>
    refine (if_neg fun bad => SwUnit.afterDisabled_iff.mp bad (before 1 (by decide))).trans ?_
    refine (if_neg fun bad => SwUnit.edgesMissing_iff.mp bad (before 2 (by decide))).trans ?_
    exact if_pos (SwUnit.startTooLate_iff.mpr fails)
  | 0 => exact absurd ⟨by simp, by simp, by simp⟩ fails
  | i + 4 => exact absurd ⟨by simp, by simp, by simp⟩ fails

theorem SwUnit.invalid?_of_meets {u : SwUnit} (meets : u.configured = true → ∀ i, u.meets i) : u.invalid? = none := by
  unfold SwUnit.invalid?
  cases configured : u.configured with
  | false => rfl
  | true =>
    have meets := meets configured
    refine (if_neg (by decide)).trans ?_
    refine (if_neg fun bad => SwUnit.afterDisabled_iff.mp bad (meets 1)).trans ?_
    refine (if_neg fun bad => SwUnit.edgesMissing_iff.mp bad (meets 2)).trans ?_
    exact if_neg fun bad => SwUnit.startTooLate_iff.mp bad (meets 3)

theorem findSome?_unitNumbers {α : Type} {f : UnitNo → Option α} {n : UnitNo} {x : α} (before : ∀ m, m < n → f m = none)
    (at_ : f n = some x) : unitNumbers.findSome? f = some x := by
  have parts : ∀ n : UnitNo, unitNumbers = unitNumbers.filter (· < n) ++ n :: unitNumbers.filter (n < ·) := by decide
  refine List.findSome?_eq_some_iff.mpr ⟨_, n, _, parts n, at_, fun m mem => before m ?_⟩
  exact of_decide_eq_true (List.mem_filter.mp mem).2

theorem State.checkUnits_of_first {n : UnitNo} {i : Nat} (before : ∀ m, m < n → s.units[m].invalid? = none)
    (at_ : s.units[n].invalid? = some i) :
    s.checkUnits = some { status := .range, check := 4, subject := n.val + 16 * i } :=
  findSome?_unitNumbers (fun m less => by rw [before m less]; rfl) (by rw [at_]; rfl)

theorem State.checkUnits_of_none (none_ : ∀ n : UnitNo, s.units[n].invalid? = none) : s.checkUnits = none :=
  List.findSome?_eq_none_iff.mpr fun n _ => by rw [none_ n]; rfl

end Checks

/-- A failure of Start Station is its reply, and all it does (R205). -/
theorem State.startStation_fails {s : State} {status : Status} {check subject : Nat} (admits : s.admitsConfiguration)
    (fails : s.startFailure? = some { status := status, check := check, subject := subject }) :
    s.replies (.startStation []) 0x4B [] { status := status, payload := bytesOf 1 check ++ bytesOf 1 subject } := by
  have failsNow : (s.received 0x4B []).startFailure? = some { status := status, check := check, subject := subject } := fails
  refine State.replies_of_admits (State.admitsConfiguration.admits admits) (lengths := [0]) (by simp) (by simp) rfl ?_
  rw [State.startStation, failsNow]
  rfl

theorem State.enterRun_svp (s : State) : s.enterRun.svp = { s.svp with station := .run } := by
  rw [State.enterRun_eq]
  simp only [State.enterWatch_frame, State.enterTurbine_frame, State.capturesEntered, State.setsOpened]
  rw [foldl_keeps State.enterCapture State.svp fun _ _ => rfl]
  rw [State.putPulses_svp, foldl_keeps State.enterGroup State.svp fun s g => (s.enterGroup_frame g).2.2.2.1]
  rfl

/-- The time unit of a station in RUN. -/
theorem State.enterRun_tmu (s : State) : s.enterRun.tmu = s.tmu.entered := by
  rw [State.enterRun_eq]
  simp only [State.enterWatch_frame, State.enterTurbine_frame, State.capturesEntered, State.setsOpened]
  rw [foldl_keeps State.enterCapture State.tmu fun _ _ => rfl]
  rw [State.putPulses_tmu, foldl_keeps State.enterGroup State.tmu fun s g => by simp]
  rfl

/-- Settles O51: each failing check is the first of Start Station's. -/
theorem startStationChecksInOrder : Obligations.StartStationChecksInOrder := by
  intro s admits refused roles usable places holds first second third condition configured valid
  have unbound_iff (c : Option ChannelNo) : s.unbound c = true ↔ ¬usable c := State.unbound_iff
  have bound {c : Option ChannelNo} (is : usable c) : s.unbound c = false :=
    Bool.eq_false_iff.mpr fun bad => (unbound_iff c).mp bad is
  have places_eq : s.boundChannels = places := by
    simp only [State.boundChannels, places, Option.isSome_iff_ne_none, ite_not]
  have channels (is : first) : s.checkChannels = none :=
    State.checkChannels_of_bound fun exchange x mem => bound (is exchange x (places_eq ▸ mem))
  have speed (is : second) : s.checkSpeed = none := by
    refine if_neg fun fails => ?_
    obtain ⟨turbine, lacks⟩ := Bool.and_eq_true_iff.mp fails
    rw [State.hasMode_iff.mpr (is turbine)] at lacks
    cases lacks
  have totaliser (is : third) : s.checkTotaliser = none := by
    refine if_neg fun fails => ?_
    obtain ⟨exchange, lacks⟩ := Bool.and_eq_true_iff.mp fails
    rw [State.hasMode_iff.mpr (is exchange)] at lacks
    cases lacks
  have units {n : UnitNo} (is : valid n) : s.units[n].invalid? = none :=
    SwUnit.invalid?_of_meets fun isConfigured => is (SwUnit.configured_iff.mp isConfigured)
  refine ⟨fun place c before after exchange split usables unusable => ?_, fun isFirst fails => ?_, fun isFirst isSecond fails => ?_,
    fun isFirst isSecond isThird n i before isConfigured fails meets => ?_, fun isFirst isSecond isThird isValid => ?_⟩
  · have fails := State.checkChannels_of_first exchange (places_eq.trans split) (fun x mem => bound (usables x mem))
      ((unbound_iff c).mpr unusable)
    have failure : s.startFailure? = some { status := .unbound, check := 1, subject := 16 * place + (c.map Fin.val).getD 0xF } := by
      rw [State.startFailure?, fails]
      rfl
    cases c with
    | none => exact State.startStation_fails admits failure
    | some n => exact State.startStation_fails admits failure
  · refine State.startStation_fails admits ?_
    obtain ⟨turbine, lacks⟩ := Classical.not_imp.mp fails
    rw [State.startFailure?, channels isFirst, State.checkSpeed, if_pos]
    · rfl
    · rw [show s.config.roles.turbine = true from turbine, Bool.eq_false_iff.mpr (mt State.hasMode_iff.mp lacks)]
      rfl
  · refine State.startStation_fails admits ?_
    obtain ⟨exchange, lacks⟩ := Classical.not_imp.mp fails
    rw [State.startFailure?, channels isFirst, speed isSecond, State.checkTotaliser, if_pos]
    · rfl
    · rw [show s.config.roles.exchange = true from exchange, Bool.eq_false_iff.mpr (mt State.hasMode_iff.mp lacks)]
      rfl
  · refine State.startStation_fails admits ?_
    have failing := SwUnit.invalid?_of_fails (SwUnit.configured_iff.mpr isConfigured) fails meets
    rw [State.startFailure?, channels isFirst, speed isSecond, totaliser isThird,
      State.checkUnits_of_first (fun m less => units (before m less)) failing]
    rfl
  · have passes : (s.received 0x4B []).startFailure? = none := by
      have passes : s.startFailure? = none := by
        rw [State.startFailure?, channels isFirst, speed isSecond, totaliser isThird,
          State.checkUnits_of_none fun n => units (isValid n)]
        rfl
      exact passes
    refine ⟨_, rfl, ?_⟩
    rw [State.request_of_admits (State.admitsConfiguration.admits admits) (by simp) (by simp), State.startStation, passes]
    rw [State.putReply_svp]
    simp only [State.enterRun_svp, State.enterRun_tmu, State.succeed, State.now]
    rfl

end Sys2Proof.Machine
end

section
/-! PROOFS. The entry to RUN at every block, and the channels' start (R47, R206). -/

namespace Sys2Proof.Machine

/-- A fold over different indices, each turn of which gives its own item a new value: every index that it takes has the new
value of its item, and the others keep theirs. -/
theorem foldl_each {ι β : Type} [DecidableEq ι] {f : State → ι → State} {item : State → ι → β} {new : ι → β → β} {P : State → Prop}
    (turn : ∀ s i, P s → P (f s i) ∧ ∀ j, item (f s i) j = if j = i then new i (item s i) else item s j)
    {xs : List ι} (distinct : xs.Nodup) {s : State} (h : P s) (j : ι) :
    item (xs.foldl f s) j = if j ∈ xs then new j (item s j) else item s j := by
  induction xs generalizing s with
  | nil => rfl
  | cons x xs ih =>
    obtain ⟨keeps, items⟩ := turn s x h
    obtain ⟨notIn, distinct⟩ := List.nodup_cons.mp distinct
    rw [List.foldl_cons, ih distinct keeps, items]
    by_cases same : j = x
    · subst same
      rw [if_neg notIn, if_pos rfl, if_pos List.mem_cons_self]
    · rw [if_neg same]
      refine if_congr ?_ rfl rfl
      rw [List.mem_cons, or_iff_right same]

/-- A group at the entry to RUN. -/
def State.groupEntered (s : State) (g : GroupNo) (group : Group) : Group :=
  if (s.members g).isEmpty then group
  else { group with openSet := some (openSetAt (s.members g) group.periodUs s.now true) }

theorem State.groups_entered (s : State) (g : GroupNo) :
    (groupNumbers.foldl State.enterGroup s).groups[g] = s.groupEntered g s.groups[g] := by
  have turn (t : State) (i : GroupNo) (same : t.channels = s.channels ∧ t.tmu = s.tmu) :
      ((t.enterGroup i).channels = s.channels ∧ (t.enterGroup i).tmu = s.tmu)
        ∧ ∀ j : GroupNo, (t.enterGroup i).groups[j] = if j = i then s.groupEntered i t.groups[i] else t.groups[j] := by
    refine ⟨by simpa using same, fun j => ?_⟩
    have members : t.members i = s.members i := by
      unfold State.members
      rw [same.1]
    have now : t.now = s.now := congrArg Tmu.lineTime same.2
    unfold State.enterGroup State.groupEntered
    rw [members, now]
    split
    · split
      · rename_i eq
        rw [eq]
      · rfl
    · exact t.putGroup_get i j _
  exact (foldl_each (P := fun t => t.channels = s.channels ∧ t.tmu = s.tmu) (item := fun t (g : GroupNo) => t.groups[g]) turn
    (by decide) ⟨rfl, rfl⟩ g).trans (if_pos (List.mem_finRange g))

theorem State.captures_entered (s : State) (u : CaptureNo) :
    (captureNumbers.foldl State.enterCapture s).captures[u] = s.captures[u].entered s.count := by
  have turn (t : State) (i : CaptureNo) (same : t.tmu = s.tmu) : (t.enterCapture i).tmu = s.tmu
      ∧ ∀ j : CaptureNo, (t.enterCapture i).captures[j] = if j = i then t.captures[i].entered s.count else t.captures[j] := by
    refine ⟨same, fun j => ?_⟩
    have count : t.count = s.count := congrArg Tmu.localCount same
    unfold State.enterCapture
    rw [count]
    exact t.putCapture_get i j _
  exact (foldl_each (P := fun t => t.tmu = s.tmu) (item := fun t (u : CaptureNo) => t.captures[u])
    (new := fun _ capture => capture.entered s.count) turn (by decide) rfl u).trans (if_pos (List.mem_finRange u))

theorem State.channels_started (s : State) (c : ChannelNo) :
    (channelNumbers.foldl State.startChannel s).channels[c] =
      if s.channels[c].config.enabled then s.channels[c].started else s.channels[c] := by
  have turn (t : State) (i : ChannelNo) (_ : True) : True ∧ ∀ j : ChannelNo, (t.startChannel i).channels[j] =
      if j = i then (if t.channels[i].config.enabled then t.channels[i].started else t.channels[i]) else t.channels[j] := by
    refine ⟨trivial, fun j => ?_⟩
    unfold State.startChannel
    split
    · exact t.putChannel_get i j _
    · split
      · rename_i eq
        rw [eq]
      · rfl
  exact (foldl_each (P := fun _ => True) (item := fun t (c : ChannelNo) => t.channels[c])
    (new := fun _ channel => if channel.config.enabled then channel.started else channel) turn (by decide) trivial c).trans
    (if_pos (List.mem_finRange c))

section Entered

variable (s : State)

theorem State.enterRun_lif : s.enterRun.lif = { s.lif with queue := queueIn .time s.lif.queue } := by
  rw [State.enterRun_eq]
  simp only [State.enterWatch_frame, State.enterTurbine_frame, State.capturesEntered, State.setsOpened]
  rw [foldl_keeps State.enterCapture State.lif fun _ _ => rfl]
  rw [State.putPulses_lif, foldl_keeps State.enterGroup State.lif fun s g => by simp]
  rfl

theorem State.enterRun_awaitMclk : s.enterRun.awaitMclk = true := by
  rw [State.enterRun_eq]
  simp only [State.enterWatch_frame, State.enterTurbine_frame, State.capturesEntered, State.setsOpened]
  rw [foldl_keeps State.enterCapture State.awaitMclk fun _ _ => rfl]
  rw [State.putPulses_awaitMclk, foldl_keeps State.enterGroup State.awaitMclk fun s g => by simp]
  rfl

theorem State.enterRun_pulses : s.enterRun.pulses = s.pulses.entered := by
  rw [State.enterRun_eq]
  simp only [State.enterWatch_frame, State.enterTurbine_frame, State.capturesEntered, State.setsOpened]
  rw [foldl_keeps State.enterCapture State.pulses fun _ _ => rfl]
  rw [State.putPulses_pulses, foldl_keeps State.enterGroup State.pulses fun s g => by simp]
  rfl

/-- The entry to RUN up to the groups' first sets, which the capture units find. -/
def State.groupsOpened : State := groupNumbers.foldl State.enterGroup (s.putSvp { s.svp with station := .run }).runBegun

theorem State.groupsOpened_of_unchanged {β : Type} (view : State → β) (keeps : ∀ s g, view (State.enterGroup s g) = view s) :
    view s.groupsOpened = view (s.putSvp { s.svp with station := .run }).runBegun := foldl_keeps State.enterGroup view keeps _ _

theorem State.enterRun_groups (g : GroupNo) : s.enterRun.groups[g] = s.groupEntered g s.groups[g] := by
  have groups : s.enterRun.groups = s.groupsOpened.groups := by
    rw [State.enterRun_eq]
    simp only [State.enterWatch_frame, State.enterTurbine_frame, State.capturesEntered, State.setsOpened]
    exact foldl_keeps State.enterCapture State.groups (fun _ _ => rfl) _ _
  exact (congrArg (fun groups => groups[g]) groups).trans (State.groups_entered _ g)

theorem State.enterRun_captures (u : CaptureNo) : s.enterRun.captures[u] = s.captures[u].entered s.count := by
  have captures : s.enterRun.captures =
      (captureNumbers.foldl State.enterCapture (s.groupsOpened.putPulses s.groupsOpened.pulses.entered)).captures := by
    rw [State.enterRun_eq]
    simp only [State.enterWatch_frame, State.enterTurbine_frame]
    rfl
  refine (congrArg (fun captures => captures[u]) captures).trans ((State.captures_entered _ u).trans ?_)
  have before : s.groupsOpened.captures = s.captures := s.groupsOpened_of_unchanged State.captures fun s g => by simp
  have tmu : s.groupsOpened.tmu = s.tmu.entered := s.groupsOpened_of_unchanged State.tmu fun s g => by simp
  rw [State.putPulses_captures, State.count, State.putPulses_tmu, before, tmu]
  rfl

/-- The state in which the supervisor and the scaling watch enter RUN. -/
def State.beforeTurbine : State :=
  captureNumbers.foldl State.enterCapture (s.groupsOpened.putPulses s.groupsOpened.pulses.entered)

theorem State.beforeTurbine_of_unchanged {β : Type} (view : State → β) (captures : ∀ s u, view (State.enterCapture s u) = view s)
    (pulses : ∀ s p, view (State.putPulses s p) = view s) (groups : ∀ s g, view (State.enterGroup s g) = view s) :
    view s.beforeTurbine = view (s.putSvp { s.svp with station := .run }).runBegun :=
  (foldl_keeps State.enterCapture view captures _ _).trans ((pulses _ _).trans (s.groupsOpened_of_unchanged view groups))

theorem State.enterRun_tsv : s.enterRun.tsv = { s.tsv with
    effectiveTeeth :=
      if ∃ u : CaptureNo, s.captures[u].config.mode = .speed ∧ s.captures[u].config.slave ≠ none then s.tsv.config.teeth else 0
    overWindow := {}, wheelWindow := {}, revolutionReference := none, toothReference := none
    stallTimer := if ∃ u : CaptureNo, s.captures[u].config.mode = .speed then some s.tmu.localCount else none } := by
  have tsv : s.enterRun.tsv = s.beforeTurbine.enterTurbine.tsv := by
    rw [State.enterRun_eq]
    simp only [State.enterWatch_frame]
    rfl
  have before : s.beforeTurbine.tsv = s.tsv := s.beforeTurbine_of_unchanged State.tsv (fun _ _ => rfl) (fun _ _ => rfl) fun s g => by simp
  have tmu : s.beforeTurbine.tmu = s.tmu.entered :=
    s.beforeTurbine_of_unchanged State.tmu (fun _ _ => rfl) (fun _ _ => rfl) fun s g => by simp
  have config (u : CaptureNo) : s.beforeTurbine.captures[u].config = s.captures[u].config := by
    have entered : s.beforeTurbine.captures[u] = s.captures[u].entered s.count := by
      rw [← State.enterRun_captures, State.enterRun_eq]
      simp only [State.enterWatch_frame, State.enterTurbine_frame]
      rfl
    rw [entered, Capture.entered]
    split <;> rfl
  have hasMode : s.beforeTurbine.hasMode .speed = true ↔ ∃ u : CaptureNo, s.captures[u].config.mode = .speed := by
    rw [State.hasMode_iff]
    exact exists_congr fun u => by rw [config u]
  have toothed : (captureNumbers.any fun u => s.beforeTurbine.captures[u].config.mode = .speed
      && s.beforeTurbine.captures[u].config.slave.isSome) = true ↔
      ∃ u : CaptureNo, s.captures[u].config.mode = .speed ∧ s.captures[u].config.slave ≠ none := by
    rw [List.any_eq_true]
    refine exists_congr fun u => (and_iff_right (List.mem_finRange u)).trans ?_
    rw [Bool.and_eq_true, decide_eq_true_eq, Option.isSome_iff_ne_none, config u]
  have count : s.beforeTurbine.count = s.tmu.localCount := (congrArg Tmu.localCount tmu).trans rfl
  rw [tsv, State.enterTurbine, State.putTsv_tsv, State.teethAtRun, before, count, if_congr toothed rfl rfl, if_congr hasMode rfl rfl]

theorem State.enterWatch_scw : s.enterTurbine.enterWatch.scw = if s.config.roles.exchange then
    { s.scw with active := true, interval := some (openInterval s.scw.config s.now true) } else s.scw := by
  have config : s.enterTurbine.config = s.config := rfl
  unfold State.enterWatch
  rw [config]
  split <;> rfl

theorem State.enterRun_scw : s.enterRun.scw = if s.config.roles.exchange then
    { s.scw with active := true, interval := some (openInterval s.scw.config s.tmu.lineTime true) } else s.scw := by
  have scw : s.enterRun.scw = s.beforeTurbine.enterTurbine.enterWatch.scw := rfl
  have before : s.beforeTurbine.scw = s.scw := s.beforeTurbine_of_unchanged State.scw (fun _ _ => rfl) (fun _ _ => rfl) fun s g => by simp
  have config : s.beforeTurbine.config = s.config :=
    s.beforeTurbine_of_unchanged State.config (fun _ _ => rfl) (fun _ _ => rfl) fun s g => by simp
  have tmu : s.beforeTurbine.tmu = s.tmu.entered :=
    s.beforeTurbine_of_unchanged State.tmu (fun _ _ => rfl) (fun _ _ => rfl) fun s g => by simp
  have now : s.beforeTurbine.now = s.tmu.lineTime := (congrArg Tmu.lineTime tmu).trans rfl
  rw [scw, State.enterWatch_scw, before, config, now]

end Entered

/-- Settles O52: the blocks one by one. -/
theorem entryToRunStartsEveryBlock : Obligations.EntryToRunStartsEveryBlock := by
  intro s
  refine ⟨fun admits passes => ?_, fun run await => ?_, fun rest => ?_⟩
  · obtain ⟨t, ran, only⟩ := execStartStation_only s []
    have passes : (s.received 0x4B []).startFailure? = none := passes
    obtain ⟨u, ran_, is⟩ : ∃ u, exec (.startStation []) s = .next u
        ∧ u = (s.received 0x4B []).enterRun.putReply (success (word4 (s.received 0x4B []).enterRun.now ++ flag1 (s.received 0x4B []).enterRun.tmu.joined)) := by
      refine ⟨_, rfl, ?_⟩
      rw [State.request_of_admits (State.admitsConfiguration.admits admits) (by simp) (by simp), State.startStation, passes]
      rfl
    obtain rfl : u = t := Host.Outcome.next.inj (ran_.symm.trans ran)
    clear ran
    generalize success (word4 (s.received 0x4B []).enterRun.now ++ flag1 (s.received 0x4B []).enterRun.tmu.joined) = r at is
    refine ⟨u, ran_, only, ?_⟩
    rw [is]
    refine ⟨?_, ?_, ?_, ?_, ?_, ?_, ?_, ?_, ?_⟩
    · exact congrArg Svp.station (State.enterRun_svp _)
    · exact State.enterRun_lif _
    · exact State.enterRun_tmu _
    · exact State.enterRun_awaitMclk _
    · refine (State.enterRun_pulses _).trans ?_
      show s.pulses.entered = _
      rw [PulseInputs.entered]
      congr 1
      cases s.pulses.now with
      | none => rw [if_pos rfl]; rfl
      | some levels => rw [if_neg nofun]; rfl
    · intro g
      refine (State.enterRun_groups _ g).trans ?_
      show s.groupEntered g s.groups[g] = _
      have empty : (s.members g).isEmpty = true ↔ ∀ c : ChannelNo, s.channels[c].config.group ≠ some g := by
        rw [List.isEmpty_iff, State.members, List.filter_eq_nil_iff]
        exact forall_congr' fun c => ⟨fun none_ same => none_ (List.mem_finRange c) (decide_eq_true same),
          fun none_ _ same => none_ (of_decide_eq_true same)⟩
      rw [State.groupEntered, if_congr empty rfl rfl, Group.periodUs, Nat.mul_comm]
      rfl
    · intro u
      refine (State.enterRun_captures _ u).trans ?_
      show s.captures[u].entered s.count = _
      rw [Capture.entered, CaptureConfig.polls]
      simp only [Bool.and_eq_true, decide_eq_true_eq]
      rfl
    · exact State.enterRun_tsv _
    · exact State.enterRun_scw _
  · have runs : exec .channelStart s = .next (channelNumbers.foldl State.startChannel { s with awaitMclk := false }) := by
      refine congrArg Host.Outcome.next (if_pos ?_)
      rw [Bool.and_eq_true]
      exact ⟨decide_eq_true run, await⟩
    obtain ⟨t, ran, only⟩ := execChannelStart_only s
    obtain rfl : _ = t := Host.Outcome.next.inj (runs.symm.trans ran)
    refine ⟨_, runs, only, ?_, fun c => (State.channels_started _ c).trans rfl⟩
    exact (foldl_keeps State.startChannel State.awaitMclk (fun s c => by unfold State.startChannel; split <;> rfl) _ _).trans rfl
  · refine congrArg Host.Outcome.next (if_neg fun both => ?_)
    obtain ⟨run, await⟩ := Bool.and_eq_true_iff.mp both
    rcases rest with other | other
    · exact other (of_decide_eq_true run)
    · rw [other] at await
      cases await

end Sys2Proof.Machine
end

section
/-! PROOFS. The records of chapter 11: every field at its tabled offset (11.5). -/

namespace Sys2Proof.Machine

/-! Reading along a layout written as its pieces in order. -/

section Pieces

variable (ys : List Byte) (offset size : Nat)

@[simp] theorem fieldNat_byte1_append (n : Nat) : fieldNat (byte1 n ++ ys) 0 1 = n % 256 :=
  (fieldNat_append_left (length_bytesOf _ _).ge ys).trans (fieldNat_byte1 n)

@[simp] theorem fieldNat_byte1_skip (n : Nat) : fieldNat (byte1 n ++ ys) (offset + 1) size = fieldNat ys offset size := by
  rw [Nat.add_comm]
  exact fieldNat_append (byte1 n) ys offset size

@[simp] theorem fieldNat_flag1_append (b : Bool) : fieldNat (flag1 b ++ ys) 0 1 = b.toNat :=
  (fieldNat_append_left (length_bytesOf _ _).ge ys).trans (fieldNat_flag1 b)

@[simp] theorem fieldNat_flag1_skip (b : Bool) : fieldNat (flag1 b ++ ys) (offset + 1) size = fieldNat ys offset size := by
  rw [Nat.add_comm]
  exact fieldNat_append (flag1 b) ys offset size

@[simp] theorem fieldNat_word2_append (c : Counter16) : fieldNat (word2 c ++ ys) 0 2 = c.toNat :=
  (fieldNat_append_left (length_bytesOf _ _).ge ys).trans (fieldNat_word2 c)

@[simp] theorem fieldNat_word2_skip (c : Counter16) : fieldNat (word2 c ++ ys) (offset + 2) size = fieldNat ys offset size := by
  rw [Nat.add_comm]
  exact fieldNat_append (word2 c) ys offset size

@[simp] theorem fieldNat_word4_append (t : BitVec 32) : fieldNat (word4 t ++ ys) 0 4 = t.toNat :=
  (fieldNat_append_left (length_bytesOf _ _).ge ys).trans (fieldNat_word4 t)

@[simp] theorem fieldNat_word4_skip (t : BitVec 32) : fieldNat (word4 t ++ ys) (offset + 4) size = fieldNat ys offset size := by
  rw [Nat.add_comm]
  exact fieldNat_append (word4 t) ys offset size

@[simp] theorem fieldNat_bytesOf_two_append (n : Nat) : fieldNat (bytesOf 2 n ++ ys) 0 2 = n % 65536 :=
  (fieldNat_append_left (length_bytesOf _ _).ge ys).trans (fieldNat_bytesOf 2 n)

@[simp] theorem fieldNat_bytesOf_two_skip (n : Nat) : fieldNat (bytesOf 2 n ++ ys) (offset + 2) size = fieldNat ys offset size := by
  rw [Nat.add_comm]
  exact fieldNat_append (bytesOf 2 n) ys offset size

@[simp] theorem fieldNat_bytesOf_four_append (n : Nat) : fieldNat (bytesOf 4 n ++ ys) 0 4 = n % 4294967296 :=
  (fieldNat_append_left (length_bytesOf _ _).ge ys).trans (fieldNat_bytesOf 4 n)

@[simp] theorem fieldNat_bytesOf_four_skip (n : Nat) : fieldNat (bytesOf 4 n ++ ys) (offset + 4) size = fieldNat ys offset size := by
  rw [Nat.add_comm]
  exact fieldNat_append (bytesOf 4 n) ys offset size

/-- A field of one of a list of records of one width. -/
theorem fieldNat_records {α : Type} {f : α → List Byte} {width : Nat} (widths : ∀ x, (f x).length = width) {xs : List α}
    {i : Nat} {x : α} (at_ : xs[i]? = some x) {offset size : Nat} (within : offset + size ≤ width) :
    fieldNat ((xs.map f).flatten ++ ys) (width * i + offset) size = fieldNat (f x) offset size := by
  have inside : i < xs.length := (List.getElem?_eq_some_iff.mp at_).1
  rw [fieldNat_append_left, fieldNat_flatten widths at_ within]
  rw [flatten_length widths]
  calc width * i + offset + size ≤ width * i + width := by omega
    _ = width * (i + 1) := (Nat.mul_succ width i).symm
    _ ≤ width * xs.length := Nat.mul_le_mul_left width inside

/-- A field behind a list of records of one width. -/
theorem fieldNat_behind_records {α : Type} {f : α → List Byte} {width : Nat} (widths : ∀ x, (f x).length = width) (xs : List α) :
    fieldNat ((xs.map f).flatten ++ ys) (width * xs.length + offset) size = fieldNat ys offset size := by
  rw [← flatten_length widths xs, fieldNat_append]

end Pieces

/-! A sample set (11.5). -/

theorem Reading.length_record (r : Reading) : r.record.length = 5 := rfl

theorem Reading.laidOut (r : Reading) :
    fieldNat r.record 0 1 = r.value.isSome.toNat + 2 * r.saturated.toNat + 16 * r.channel.val
      ∧ BitVec.ofNat 32 (fieldNat r.record 1 4) = BitVec.ofInt 32 (r.value.getD 0) := by
  have channel := r.channel.isLt
  have value : r.value.isSome.toNat ≤ 1 := Bool.toNat_le _
  have saturated : r.saturated.toNat ≤ 1 := Bool.toNat_le _
  refine ⟨?_, by simp [Reading.record]⟩
  simp [Reading.record, flagNat_eq]
  omega

theorem SetRecord.laidOut (r : SetRecord) :
    r.record.length = 10 + 5 * r.readings.length ∧ fieldNat r.record 0 4 = r.sequence.toNat
      ∧ fieldNat r.record 4 4 = r.endTime.toNat
      ∧ fieldNat r.record 8 1 = r.short.toNat + 2 * r.empty.toNat ∧ fieldNat r.record 9 1 = r.readings.length % 2 ^ 8
      ∧ (List.range r.readings.length).map (fun i =>
          (fieldNat r.record (10 + 5 * i) 1, BitVec.ofNat 32 (fieldNat r.record (11 + 5 * i) 4))) =
          r.readings.map (fun x => (x.value.isSome.toNat + 2 * x.saturated.toNat + 16 * x.channel.val,
            BitVec.ofInt 32 (x.value.getD 0))) := by
  have short : r.short.toNat ≤ 1 := Bool.toNat_le _
  have empty : r.empty.toNat ≤ 1 := Bool.toNat_le _
  refine ⟨?_, by simp [SetRecord.record], by simp [SetRecord.record], ?_, by simp [SetRecord.record, listed],
    map_range_reads fun i x at_ => ?_⟩
  · simp [SetRecord.record, listed, flatten_length Reading.length_record]
    omega
  · simp [SetRecord.record, flagNat_eq]
    omega
  · have reading (offset size : Nat) (within : offset + size ≤ 5) :
        fieldNat r.record (5 * i + offset + 10) size = fieldNat x.record offset size := by
      refine Eq.trans ?_ (fieldNat_flatten Reading.length_record at_ within)
      simp only [SetRecord.record, listed, List.append_assoc]
      exact (fieldNat_word4_skip _ _ _ _).trans ((fieldNat_word4_skip _ _ _ _).trans
        ((fieldNat_byte1_skip _ _ _ _).trans (fieldNat_byte1_skip _ _ _ _)))
    obtain ⟨flags, value⟩ := x.laidOut
    rw [show 10 + 5 * i = 5 * i + 0 + 10 by omega, show 11 + 5 * i = 5 * i + 1 + 10 by omega, reading 0 1 (by decide),
      reading 1 4 (by decide), flags, value]

/-! A capture record, an edge queue entry and an index history record (11.5). -/

theorem CaptureRecord.laidOut (r : CaptureRecord) : r.record.length = 17 ∧ fieldNat r.record 0 4 = r.lineTime.toNat
    ∧ fieldNat r.record 4 4 = r.localCount.toNat ∧ fieldNat r.record 8 2 = r.slaveEdges % 2 ^ 16
    ∧ fieldNat r.record 10 2 = r.masterCount.toNat
    ∧ fieldNat r.record 12 1 = r.lead.isSome.toNat ∧ fieldNat r.record 13 4 = (r.lead.getD 0).toNat := by
  cases lead : r.lead with
  | none =>
    simp [CaptureRecord.record, lead, optionalWord, optionalNat, optional]
    rfl
  | some t =>
    have small := t.isLt
    simp [CaptureRecord.record, lead, optionalWord, optionalNat, optional]
    omega

theorem Edge.laidOut (e : Edge) : e.record.length = 9 ∧ fieldNat e.record 0 2 = e.sequence.toNat
    ∧ fieldNat e.record 2 1 = e.output.val + 8 * e.high.toNat + (if e.origin = .stop then 16 else 0)
    ∧ fieldNat e.record 3 4 = e.due.toNat ∧ fieldNat e.record 7 2 = e.startNumber.toNat := by
  have small := e.output.isLt
  have flag : e.high.toNat ≤ 1 := Bool.toNat_le _
  have origin : (if e.origin = .stop then 16 else 0) = 16 * e.origin.code := by cases e.origin <;> rfl
  have code : e.origin.code ≤ 1 := by cases e.origin <;> decide
  rw [origin]
  refine ⟨?_, ?_, ?_, ?_, ?_⟩ <;>
    simp [Edge.record, flagNat_eq]
  omega

theorem IndexRecord.laidOut (r : IndexRecord) : r.record.length = 15 ∧ fieldNat r.record 0 4 = r.endTime.toNat
    ∧ fieldNat r.record 4 1 = r.watch.toNat + 2 * r.alarm.toNat + 4 * r.ua.isSome.toNat + 8 * r.pressure.isSome.toNat
    ∧ fieldNat r.record 5 2 = r.index.getD 0xFFFF % 2 ^ 16 ∧ fieldNat r.record 7 4 = r.ua.getD 0 % 2 ^ 32
    ∧ BitVec.ofNat 32 (fieldNat r.record 11 4) = BitVec.ofInt 32 (r.pressure.getD 0) := by
  have watch : r.watch.toNat ≤ 1 := Bool.toNat_le _
  have alarm : r.alarm.toNat ≤ 1 := Bool.toNat_le _
  have ua : r.ua.isSome.toNat ≤ 1 := Bool.toNat_le _
  have pressure : r.pressure.isSome.toNat ≤ 1 := Bool.toNat_le _
  refine ⟨?_, ?_, ?_, ?_, ?_, ?_⟩ <;>
    simp [IndexRecord.record, indexField, flagNat_eq]
  omega

/-! A claim entry (11.5). -/

theorem State.entryState_of_own {s : State} {c : Claim} {k : SlotNo} (own : s.isOwnEntry k c = true) :
    s.entryState c = (s.slotState k).entryCode := by
  have only (j : SlotNo) (mine : s.isOwnEntry j c = true) : j = k := by
    have slot (i : SlotNo) (is : s.isOwnEntry i c = true) : c.slot = SlotNo.inTag i :=
      of_decide_eq_true (Bool.and_eq_true_iff.mp is).2
    have inTag_inj : ∀ i j : SlotNo, SlotNo.inTag i = SlotNo.inTag j → i = j := by decide
    exact inTag_inj j k ((slot j mine).symm.trans (slot k own))
  unfold State.entryState
  cases found : slotNumbers.find? (s.isOwnEntry · c) with
  | none => exact absurd own (List.find?_eq_none.mp found k (List.mem_finRange k))
  | some j =>
    have mine : s.isOwnEntry j c = true := by simpa using List.find?_some found
    rw [only j mine]

theorem State.entryState_of_other {s : State} {c : Claim} (other : ∀ k, s.isOwnEntry k c = false) : s.entryState c = 0 := by
  unfold State.entryState
  rw [List.find?_eq_none.mpr fun k _ => Bool.eq_false_iff.mp (other k)]

theorem State.claimRecord_laidOut (s : State) (c : Claim) :
    (s.claimRecord c).length = 8 ∧ fieldNat (s.claimRecord c) 0 1 = c.station.val + 16 * c.slot.val
      ∧ fieldNat (s.claimRecord c) 1 1 % 16 = c.unit.val + 4 * c.firm.toNat
      ∧ fieldNat (s.claimRecord c) 1 1 / 16 = s.entryState c
      ∧ fieldNat (s.claimRecord c) 2 4 = c.start.toNat ∧ fieldNat (s.claimRecord c) 6 2 = c.length % 2 ^ 16 := by
  have station := c.station.isLt
  have slot := c.slot.isLt
  have unit := c.unit.isLt
  have firm : c.firm.toNat ≤ 1 := Bool.toNat_le _
  have state : s.entryState c ≤ 4 := by
    unfold State.entryState
    split
    · rename_i k _
      cases s.slotState k <;> simp [SlotState.entryCode]
    · decide
  have tag : fieldNat (s.claimRecord c) 0 1 = (c.station.val + 16 * c.slot.val) % 256 := by simp [State.claimRecord]
  have flags : fieldNat (s.claimRecord c) 1 1 = (c.unit.val + 4 * c.firm.toNat + 16 * s.entryState c) % 256 := by
    simp [State.claimRecord, flagNat_eq]
  refine ⟨by simp [State.claimRecord], ?_, ?_, ?_, by simp [State.claimRecord], by simp [State.claimRecord]⟩ <;> omega

/-! A peer row (11.5). -/

theorem HeatSummary.length_payload (h : HeatSummary) : h.payload.length = 14 := by simp [HeatSummary.payload]

theorem bit_flags (a b c d e f : Bool) :
    let n := (flagNat a + 2 * flagNat b + 4 * flagNat c + 8 * flagNat d + 16 * flagNat e + 32 * flagNat f) % 256
    bit n 0 = a ∧ bit n 1 = b ∧ bit n 2 = c ∧ bit n 3 = d ∧ bit n 4 = e ∧ bit n 5 = f := by
  revert a b c d e f
  decide

theorem Roles.code_lt (r : Roles) : r.code < 8 := by
  obtain ⟨well, turbine, exchange⟩ := r
  revert well turbine exchange
  decide

theorem State.silenceMs_eq (s : State) (n : StationNo) : s.silenceMs n =
    (if n ≠ s.stationNo ∧ s.peers[n].heard = true then
        match s.peers[n].silence with
        | .stopped => 0
        | .running start => min (2 ^ 31) (s.tmu.localCount - start).toNat
        | .held => 2 ^ 31
      else 0) / 8000 := by
  unfold State.silenceMs State.isPeer
  simp only [Bool.and_eq_true, bne_iff_ne]
  split
  · generalize s.peers[n].silence = timer
    unfold SilenceTimer.elapsedAt Params.longestPeriods Params.perMillisecond
    cases timer with
    | stopped => rfl
    | running start => rfl
    | held => rw [Nat.min_self]
  · rfl

theorem State.silenceMs_lt (s : State) (n : StationNo) : s.silenceMs n < 4294967296 := by
  unfold State.silenceMs Params.longestPeriods Params.perMillisecond
  split
  · omega
  · decide

/-- The fields of a peer row, whether it holds a HEAT summary or not. -/
theorem State.peerPayload_laidOut (s : State) (n : StationNo) (heat : List Byte) (width : heat.length = 14)
    (is : ((s.row n).heat.map HeatSummary.payload).getD (List.replicate 12 0 ++ bytesOf 2 (indexField none)) = heat) :
    (s.peerPayload n).length = 38
      ∧ fieldNat (s.peerPayload n) 0 1 = (flagNat (s.row n).heard + 2 * flagNat (s.row n).joined + 4 * flagNat (s.row n).silent
          + 8 * flagNat (s.row n).tripLatched + 16 * flagNat (s.row n).heat.isSome + 32 * flagNat (s.row n).lastIndex.isSome) % 256
      ∧ fieldNat (s.peerPayload n) 1 1 = (s.row n).roles.code % 256
      ∧ fieldNat (s.peerPayload n) 2 1 = (s.row n).beaconCode % 256
      ∧ fieldNat (s.peerPayload n) 3 4 = (s.row n).lastHeard.toNat
      ∧ fieldNat (s.peerPayload n) 7 1 = scalingByte (s.row n).scaling (s.row n).acknowledged % 256
      ∧ fieldNat (s.peerPayload n) 8 4 = (s.row n).scalingChange.toNat
      ∧ fieldNat (s.peerPayload n) 12 1 = (s.row n).activeUnits % 256
      ∧ fieldNat (s.peerPayload n) 13 2 = (s.row n).lastIndex.getD 0xFFFF % 65536
      ∧ (∀ offset size, offset + size ≤ 14 → fieldNat (s.peerPayload n) (offset + 15) size = fieldNat heat offset size)
      ∧ fieldNat (s.peerPayload n) 29 2 = (s.row n).strayCount.toNat
      ∧ fieldNat (s.peerPayload n) 31 1 = s.claimsHeld n % 256
      ∧ fieldNat (s.peerPayload n) 32 4 = s.silenceMs n
      ∧ fieldNat (s.peerPayload n) 36 2 = n.val := by
  have silence := s.silenceMs_lt n
  have number := n.isLt
  have behind (offset size : Nat) (ys : List Byte) : fieldNat (heat ++ ys) (offset + 14) size = fieldNat ys offset size := by
    rw [← width, Nat.add_comm, fieldNat_append]
  unfold State.peerPayload
  simp only [is]
  generalize s.row n = r
  refine ⟨by simp [width], by simp, by simp, by simp, by simp, by simp, by simp, by simp, by simp [indexField], fun offset size within => ?_,
    by simp [behind], by simp [behind], ?_, ?_⟩
  · simp only [List.append_assoc, fieldNat_byte1_skip, fieldNat_word4_skip, fieldNat_bytesOf_two_skip]
    exact fieldNat_append_left (by omega) _
  · simp [behind]
    omega
  · simp [behind]
    omega

/-! The status header (11.5). -/

theorem Pending.length_record (x : Pending) : x.record.length = 8 := by simp [Pending.record]

theorem QueueEntry.length_record (e : QueueEntry) : e.record.length = 2 := by simp [QueueEntry.record]

theorem Cause.kind_subject_lt (c : Cause) : c.kind < 256 ∧ c.subject.getD 0xFF < 256 := by
  cases c <;> simp [Cause.kind, Cause.subject] <;> (try split) <;> omega

theorem LineCounters.length_payload (c : LineCounters) : c.payload.length = 20 := by simp [LineCounters.payload]

/-- The status header up to the transmit queue's entries. -/
def State.statusHead (s : State) : List Byte :=
  byte1 s.svp.station.code ++ byte1 s.svp.resetCause.code ++ byte1 s.svp.bootResult.code ++ byte1 s.stationNo.val
    ++ byte1 s.config.roles.code ++ word4 s.now ++ word4 s.count ++ flag1 s.tmu.joined
    ++ s.lif.counters.payload ++ word2 s.svp.errors ++ byte1 s.lif.queue.length

/-- The status header behind the transmit queue's entries. -/
def State.statusTail (s : State) : List Byte :=
  byte1 ((s.lif.inFlight.map (·.notice.kind)).getD 0) ++ word4 s.config.enableMask
    ++ byte1 (flagNat s.attentionOutput + 2 * flagNat s.tripOutput + 4 * flagNat s.tsv.viewActive)
    ++ s.attentionPayload

theorem State.statusPayload_eq (s : State) :
    s.statusPayload = s.statusHead ++ ((s.lif.queue.map QueueEntry.record).flatten ++ s.statusTail) := by
  simp only [State.statusPayload, State.statusHead, State.statusTail, listed, List.append_assoc, List.length_map]

theorem State.length_statusHead (s : State) : s.statusHead.length = 37 := by
  simp [State.statusHead, LineCounters.length_payload]

section Status

variable (s : State) (offset size : Nat)

theorem State.statusHead_fieldNat (within : offset + size ≤ 37) :
    fieldNat s.statusPayload offset size = fieldNat s.statusHead offset size := by
  rw [State.statusPayload_eq]
  exact fieldNat_append_left (by rw [State.length_statusHead]; exact within) _

theorem State.statusEntry_fieldNat {i : Nat} {e : QueueEntry} (at_ : s.lif.queue[i]? = some e) (within : offset + size ≤ 2) :
    fieldNat s.statusPayload (37 + (2 * i + offset)) size = fieldNat e.record offset size := by
  rw [State.statusPayload_eq, ← State.length_statusHead s, fieldNat_append]
  exact fieldNat_records _ QueueEntry.length_record at_ within

theorem State.statusTail_fieldNat :
    fieldNat s.statusPayload (37 + (2 * s.lif.queue.length + offset)) size = fieldNat s.statusTail offset size := by
  rw [State.statusPayload_eq, ← State.length_statusHead s, fieldNat_append]
  exact fieldNat_behind_records _ _ _ QueueEntry.length_record _

theorem State.statusCause_fieldNat {i : Nat} {x : Pending} (at_ : s.attention[i]? = some x) (within : offset + size ≤ 8) :
    fieldNat s.statusTail (8 * i + offset + 7) size = fieldNat x.record offset size := by
  refine Eq.trans ?_ (fieldNat_flatten Pending.length_record at_ within)
  simp only [State.statusTail, State.attentionPayload, listed, List.append_assoc]
  exact (fieldNat_byte1_skip _ _ _ _).trans ((fieldNat_word4_skip _ _ _ _).trans
    ((fieldNat_byte1_skip _ _ _ _).trans (fieldNat_byte1_skip _ _ _ _)))

theorem State.length_statusPayload : s.statusPayload.length = 44 + 2 * s.lif.queue.length + 8 * s.attention.length := by
  rw [State.statusPayload_eq, List.length_append, List.length_append, State.length_statusHead, flatten_length QueueEntry.length_record]
  simp [State.statusTail, State.attentionPayload, listed, flatten_length Pending.length_record]
  omega

end Status

/-- The fields of a pending cause. -/
theorem Pending.laidOut (x : Pending) (few : x.raises < 256) :
    fieldNat x.record 0 1 = x.cause.kind ∧ fieldNat x.record 1 1 = x.cause.subject.getD 0xFF
      ∧ fieldNat x.record 2 4 = x.first.toNat ∧ fieldNat x.record 6 1 = x.raises
      ∧ fieldNat x.record 7 1 = (match x.reason with | some .jammed => 1 | some .contended => 2 | none => 0) := by
  obtain ⟨kind, subject⟩ := x.cause.kind_subject_lt
  have fields : fieldNat x.record 0 1 = x.cause.kind % 256 ∧ fieldNat x.record 1 1 = x.cause.subject.getD 0xFF % 256
      ∧ fieldNat x.record 2 4 = x.first.toNat ∧ fieldNat x.record 6 1 = x.raises % 256
      ∧ fieldNat x.record 7 1 = ((x.reason.map ClaimFailure.code).getD 0) % 256 := by
    simp [Pending.record]
  rw [Nat.mod_eq_of_lt kind, Nat.mod_eq_of_lt subject, Nat.mod_eq_of_lt few] at fields
  obtain ⟨first, second, third, fourth, reason⟩ := fields
  refine ⟨first, second, third, fourth, reason.trans ?_⟩
  rcases x.reason with _ | _ | _ <;> rfl

/-- The fields of a transmit queue entry. -/
theorem QueueEntry.laidOut (e : QueueEntry) (few : e.collisions < 16) :
    fieldNat e.record 0 1 = e.notice.kind ∧ fieldNat e.record 1 1 = e.notice.slotNumber + 16 * e.collisions := by
  have kind : e.notice.kind < 8 := by cases e.notice <;> simp [Notice.kind]
  have slot : e.notice.slotNumber < 2 := by
    unfold Notice.slotNumber
    split
    · rename_i slot _ _ _ _ _
      exact slot.isLt
    · rename_i slot _ _ _ _
      exact slot.isLt
    all_goals decide
  refine ⟨?_, ?_⟩ <;> simp [QueueEntry.record] <;> omega

/-- The fields of the status header that stand at fixed offsets. -/
theorem State.statusHead_laidOut (s : State) :
    fieldNat s.statusHead 0 1 = s.svp.station.code ∧ fieldNat s.statusHead 1 1 = s.svp.resetCause.code
      ∧ fieldNat s.statusHead 2 1 = s.svp.bootResult.code ∧ fieldNat s.statusHead 3 1 = s.stationNo.val
      ∧ fieldNat s.statusHead 4 1 = s.config.roles.code ∧ fieldNat s.statusHead 5 4 = s.now.toNat
      ∧ fieldNat s.statusHead 9 4 = s.count.toNat ∧ fieldNat s.statusHead 13 1 = s.tmu.joined.toNat
      ∧ (List.range 10).map (fun i => fieldNat s.statusHead (14 + 2 * i) 2) =
          [s.lif.counters.characterError, s.lif.counters.gapAbort, s.lif.counters.longFrame, s.lif.counters.checkError,
            s.lif.counters.unknownKind, s.lif.counters.badLength, s.lif.counters.validFrame, s.lif.counters.frameSent,
            s.lif.counters.collision, s.lif.counters.jammed].map BitVec.toNat
      ∧ fieldNat s.statusHead 34 2 = s.svp.errors.toNat ∧ fieldNat s.statusHead 36 1 = s.lif.queue.length % 256 := by
  have station : s.svp.station.code < 4 := by cases s.svp.station <;> decide
  have cause : s.svp.resetCause.code < 4 := by cases s.svp.resetCause <;> decide
  have boot : s.svp.bootResult.code < 4 := by cases s.svp.bootResult <;> decide
  have number := s.stationNo.isLt
  have roles := s.config.roles.code_lt
  have counters : List.range 10 = [0, 1, 2, 3, 4, 5, 6, 7, 8, 9] := rfl
  have fields : fieldNat s.statusHead 0 1 = s.svp.station.code % 256 ∧ fieldNat s.statusHead 1 1 = s.svp.resetCause.code % 256
      ∧ fieldNat s.statusHead 2 1 = s.svp.bootResult.code % 256 ∧ fieldNat s.statusHead 3 1 = s.stationNo.val % 256
      ∧ fieldNat s.statusHead 4 1 = s.config.roles.code % 256 := by
    simp [State.statusHead]
  obtain ⟨first, second, third, fourth, fifth⟩ := fields
  refine ⟨by omega, by omega, by omega, by omega, by omega, ?_, ?_, ?_, ?_, ?_, ?_⟩
  · simp [State.statusHead]
  · simp [State.statusHead]
  · simp [State.statusHead]
  · simp [State.statusHead, LineCounters.payload, counters]
  · simp [State.statusHead, LineCounters.payload]
  · simp [State.statusHead, LineCounters.payload]

/-- The fields of the status header behind the transmit queue. -/
theorem State.statusTail_laidOut (s : State) :
    fieldNat s.statusTail 0 1 = (s.lif.inFlight.map (·.notice.kind)).getD 0
      ∧ fieldNat s.statusTail 1 4 = s.config.enableMask.toNat
      ∧ fieldNat s.statusTail 5 1 = s.attentionOutput.toNat + 2 * s.tsv.latch.toNat + 4 * s.tsv.viewActive.toNat
      ∧ fieldNat s.statusTail 6 1 = s.attention.length % 256 := by
  have kind : (s.lif.inFlight.map (·.notice.kind)).getD 0 < 8 := by
    cases s.lif.inFlight with
    | none => decide
    | some f => cases h : f.notice <;> simp [Notice.kind, h]
  have output : s.attentionOutput.toNat ≤ 1 := Bool.toNat_le _
  have latch : s.tsv.latch.toNat ≤ 1 := Bool.toNat_le _
  have view : s.tsv.viewActive.toNat ≤ 1 := Bool.toNat_le _
  refine ⟨?_, ?_, ?_, ?_⟩
  · simp only [State.statusTail, List.append_assoc, fieldNat_byte1_append]
    omega
  · simp [State.statusTail]
  · simp [State.statusTail, flagNat_eq, State.tripOutput]
    omega
  · simp [State.statusTail, State.attentionPayload, listed]

/-- Settles O11: each record by its layout. -/
theorem recordsLaidOutAsTabled : Obligations.RecordsLaidOutAsTabled := by
  refine ⟨fun s => ?_, fun s n => ?_, SetRecord.laidOut, CaptureRecord.laidOut, fun s c => ?_, Edge.laidOut, IndexRecord.laidOut⟩
  · intro p q a c kind slot fewEntries fewCauses fewCollisions fewRaises
    obtain ⟨station, cause, boot, number, roles, now, count, joined, counters, errors, entries⟩ := s.statusHead_laidOut
    obtain ⟨flight, mask, outputs, causes⟩ := s.statusTail_laidOut
    have head (offset size : Nat) (within : offset + size ≤ 37) : fieldNat p offset size = fieldNat s.statusHead offset size :=
      s.statusHead_fieldNat offset size within
    have tail (offset size : Nat) : fieldNat p (37 + (2 * q + offset)) size = fieldNat s.statusTail offset size :=
      s.statusTail_fieldNat offset size
    refine ⟨s.length_statusPayload, fun is => ?_, fun is => ?_, fun is => ?_, ?_, ?_, ?_, ?_, ?_, ?_, ?_, ?_, ?_, ?_, ?_, ?_, ?_,
      ?_, ?_, ?_⟩
    · rw [head 0 1 (by decide), station, is]; rfl
    · rw [head 0 1 (by decide), station, is]; rfl
    · rw [head 0 1 (by decide), station, is]; rfl
    · exact (head 1 1 (by decide)).trans cause
    · exact (head 2 1 (by decide)).trans boot
    · exact (head 3 1 (by decide)).trans number
    · rw [head 4 1 (by decide), roles, Roles.code_eq]
    · exact (head 5 4 (by decide)).trans now
    · exact (head 9 4 (by decide)).trans count
    · exact (head 13 1 (by decide)).trans joined
    · refine Eq.trans (List.map_congr_left fun i mem => head (14 + 2 * i) 2 ?_) counters
      have := List.mem_range.mp mem
      omega
    · exact (head 34 2 (by decide)).trans errors
    · exact ((head 36 1 (by decide)).trans entries).trans (Nat.mod_eq_of_lt fewEntries)
    · refine map_range_reads fun i e at_ => ?_
      obtain ⟨isKind, isSlot⟩ := e.laidOut (fewCollisions e (List.mem_of_getElem? at_))
      refine Prod.ext ?_ ?_
      · exact (s.statusEntry_fieldNat 0 1 at_ (by decide)).trans isKind
      · have number : slot e.notice = e.notice.slotNumber := by cases e.notice <;> rfl
        show fieldNat p (38 + 2 * i) 1 = slot e.notice + 16 * e.collisions
        rw [show 38 + 2 * i = 37 + (2 * i + 1) by omega, number]
        exact (s.statusEntry_fieldNat 1 1 at_ (by decide)).trans isSlot
    · refine (tail 0 1).trans (flight.trans ?_)
      cases s.lif.inFlight <;> rfl
    · rw [show 38 + 2 * q = 37 + (2 * q + 1) by omega, tail, mask]
    · rw [show 42 + 2 * q = 37 + (2 * q + 5) by omega, tail, outputs]
    · rw [show 43 + 2 * q = 37 + (2 * q + 6) by omega, tail, causes]
      exact Nat.mod_eq_of_lt fewCauses
    · refine map_range_reads fun i x at_ => ?_
      have record (offset size : Nat) (within : offset + size ≤ 8) :
          fieldNat p (44 + 2 * q + 8 * i + offset) size = fieldNat x.record offset size := by
        rw [show 44 + 2 * q + 8 * i + offset = 37 + (2 * q + (8 * i + offset + 7)) by omega, tail]
        exact s.statusCause_fieldNat offset size at_ within
      obtain ⟨isKind, isSubject, isFirst, isRaises, isReason⟩ := x.laidOut (fewRaises x (List.mem_of_getElem? at_))
      simp only [record 1 1 (by decide), record 2 4 (by decide), record 6 1 (by decide), record 7 1 (by decide), isSubject, isFirst,
        isRaises, isReason]
      rw [show 44 + 2 * q + 8 * i = 44 + 2 * q + 8 * i + 0 from rfl, record 0 1 (by decide), isKind] <;> rfl
  · intro p r state silence
    obtain ⟨heat, is⟩ : ∃ heat, (r.heat.map HeatSummary.payload).getD (List.replicate 12 0 ++ bytesOf 2 (indexField none)) = heat := ⟨_, rfl⟩
    have width : heat.length = 14 := by
      rw [← is]
      cases r.heat with
      | none => rfl
      | some h => exact h.length_payload
    obtain ⟨length, flags, roles, beacon, lastHeard, scaling, change, active, index, summary, stray, claims, silent, number⟩ :=
      s.peerPayload_laidOut n heat width is
    obtain ⟨heard, joined, isSilent, latched, hasHeat, hasIndex⟩ := bit_flags r.heard r.joined r.silent r.tripLatched
      r.heat.isSome r.lastIndex.isSome
    have stateCode : r.scaling.code = state := rfl
    have codeSmall : r.scaling.code ≤ 2 := by cases r.scaling <;> decide
    have flagSmall : r.acknowledged.toNat ≤ 1 := Bool.toNat_le _
    refine ⟨length, ?_, ?_, ?_, ?_, ?_, ?_, ?_, beacon, lastHeard, ?_, change, active, index, fun none_ => ?_, fun h some_ => ?_,
      stray, claims, ?_, number⟩
    · rw [flags]; exact heard
    · rw [flags]; exact joined
    · rw [flags]; exact isSilent
    · rw [flags]; exact latched
    · rw [flags]; exact hasHeat
    · rw [flags]; exact hasIndex
    · rw [roles, ← Roles.code_eq]
      exact Nat.mod_eq_of_lt (Nat.lt_trans r.roles.code_lt (by decide))
    · rw [scaling, scalingByte, flagNat_eq, ← stateCode]
      exact Nat.mod_eq_of_lt (by show r.scaling.code + 8 * r.acknowledged.toNat < 256; omega)
    · rw [none_] at is
      subst is
      exact ⟨summary 0 4 (by decide), summary 4 4 (by decide), summary 8 4 (by decide), summary 12 2 (by decide)⟩
    · rw [some_] at is
      subst is
      refine ⟨(summary 0 4 (by decide)).trans ?_, (summary 4 4 (by decide)).trans ?_, (summary 8 4 (by decide)).trans ?_,
        (summary 12 2 (by decide)).trans ?_⟩ <;> simp [HeatSummary.payload, indexField]
      exact h.intervalEnd.isLt
    · exact silent.trans (s.silenceMs_eq n)
  · intro p
    obtain ⟨length, tag, unit, state, start, size⟩ := s.claimRecord_laidOut c
    refine ⟨length, tag, unit, fun other => state.trans (State.entryState_of_other other), fun k own => ?_, start, size⟩
    rw [state, State.entryState_of_own own]
    cases s.slotState k <;> rfl

end Sys2Proof.Machine
end

section
/-! PROOFS. What queuing keeps in the transmit queue, and the requests of the two meters (R122, R140, R141). -/

namespace Sys2Proof.Machine

/-! The transmit queue after a notice is queued (R26, R27). -/

section Queued

variable {q : List QueueEntry} {n : Notice}

theorem mem_placeLast {e d : QueueEntry} (mem : e ∈ q) : e ∈ placeLast d q := by
  unfold placeLast
  split
  · cases zero : e.notice.classZero with
    | true => exact List.mem_append_left _ (List.mem_filter.mpr ⟨mem, zero⟩)
    | false => exact List.mem_append_right _ (List.mem_cons_of_mem _ (List.mem_filter.mpr ⟨mem, by simp [zero]⟩))
  · exact List.mem_append_left _ mem

theorem mem_placeLast_self (d : QueueEntry) (q : List QueueEntry) : d ∈ placeLast d q := by
  unfold placeLast
  split
  · exact List.mem_append_right _ List.mem_cons_self
  · exact List.mem_append_right _ (List.mem_singleton_self d)

/-- A notice other than a RELEASE stands in the queue once it is queued. -/
theorem mem_queueIn_self (q : List QueueEntry) (kept : n.isRelease = false) : ∃ e ∈ queueIn n q, e.notice = n := by
  unfold queueIn
  split
  · exact ⟨_, mem_placeLast_self _ q, rfl⟩
  · rename_i e found
    rw [kept]
    have same : e.notice.group = n.group := by simpa using List.find?_some found
    exact ⟨_, List.mem_map_of_mem (List.mem_of_find?_eq_some found), by rw [if_pos same]⟩

/-- A queued notice of another group stays queued. -/
theorem mem_queueIn_of_group {m : Notice} (mem : ∃ e ∈ q, e.notice = m) (other : m.group ≠ n.group) :
    ∃ e ∈ queueIn n q, e.notice = m := by
  obtain ⟨e, mem, rfl⟩ := mem
  unfold queueIn
  split
  · exact ⟨e, mem_placeLast mem, rfl⟩
  · split
    · exact ⟨e, List.mem_filter.mpr ⟨mem, decide_eq_true other⟩, rfl⟩
    · exact ⟨_, List.mem_map_of_mem mem, by rw [if_neg other]⟩

end Queued

/-- A notice that the planner does not queue stays queued whatever the planner does. -/
theorem Plans.noticeQueued {s t : State} {m : Notice} (plans : Plans s t)
    (other : ∀ n : Notice, n.isClaim = true ∨ n.isRelease = true → m.group ≠ n.group) (queued : ∃ e ∈ s.lif.queue, e.notice = m) :
    ∃ e ∈ t.lif.queue, e.notice = m := by
  refine keeps_of_moves (P := fun s => ∃ e ∈ s.lif.queue, e.notice = m) (fun s t move h => ?_) plans queued
  cases move with
  | queue n planner => exact mem_queueIn_of_group h (other n planner)
  | expire => simpa using h
  | _ => exact h

theorem Holds.noticeQueued {s t : State} {m : Notice} (holds : Holds s t)
    (other : ∀ n : Notice, n.isClaim = true ∨ n.isRelease = true → m.group ≠ n.group) (queued : ∃ e ∈ s.lif.queue, e.notice = m) :
    ∃ e ∈ t.lif.queue, e.notice = m := by
  refine keeps_of_moves (P := fun s => ∃ e ∈ s.lif.queue, e.notice = m) (fun s t move h => ?_) holds queued
  cases move with
  | plan move => exact Plans.noticeQueued move.plans other h
  | hold => exact h

/-- HEAT and SCALE share no coalescing group with what the planner queues. -/
theorem group_heat_ne {h : HeatSummary} {n : Notice} (planner : n.isClaim = true ∨ n.isRelease = true) :
    (Notice.heat h).group ≠ n.group := by
  cases n with
  | claim | release => nofun
  | _ => rcases planner with no | no <;> cases no

theorem group_scale_ne {state : ScalingState} {acknowledged : Bool} {index : Option Nat} {t : LineTime} {n : Notice}
    (planner : n.isClaim = true ∨ n.isRelease = true) : (Notice.scale state acknowledged index t).group ≠ n.group := by
  cases n with
  | claim | release => nofun
  | _ => rcases planner with no | no <;> cases no

/-! A request that the station takes in RUN. -/

section Run

variable {s : State} (admits : s.admitsRun) {c : Instr} {code : Nat} {p : List Byte} {lengths : List Nat}
  (length : p.length ∈ lengths) (fits : p.length ≤ 64) {act : State → Answer}
  (run : exec c s = .next (s.request code .run lengths p act))

include admits length fits run

/-- A request that changes parts of the state and answers. -/
theorem State.runs_of_answer {u : State} {r : Reply} (answer : act (s.received code p) = (u, r))
    (port : u.svp = (s.received code p).svp) {parts : List Part} (only : (s.received code p).onlyChanges u parts) :
    ∃ t, exec c s = .next t ∧ t = u.putReply r ∧ t.svp = s.answered code p r ∧ s.onlyChanges t (.svp :: parts) := by
  refine ⟨_, run, ?_⟩
  rw [State.request_of_admits (State.admitsRun.admits admits) length fits, answer]
  refine ⟨rfl, ?_, State.onlyChanges_answered only r⟩
  rw [State.putReply_svp, port]
  rfl

/-- A request whose answer leaves the state. -/
theorem State.replies_of_run {r : Reply} (answer : act (s.received code p) = (s.received code p, r)) : s.replies c code p r :=
  State.replies_of_admits (State.admitsRun.admits admits) length fits run answer

end Run

theorem State.onlyChanges_queueScale (s : State) (index : Option Nat) (t : LineTime) :
    s.onlyChanges (s.queueScale index t) [.lif, .own] := by
  simp [State.onlyChanges, Part.all, Part.same, State.queueScale]

/-- Settles O34: each request by its answer. -/
theorem meterRequests : Obligations.MeterRequests := by
  intro s admits now
  refine ⟨?_, fun clear => ?_, fun alarm done => ?_, fun alarm open_ => ?_, fun none_ => ?_, fun e ua latest basis isUa => ⟨fun bad => ?_, fun low high => ?_⟩⟩
  · obtain ⟨t, ran, rfl, svp, only⟩ := State.runs_of_answer admits (lengths := [0]) (code := 0x26) (p := []) (by simp) (by simp)
      (c := .clearHeat []) rfl (u := (s.received 0x26 []).putHmt (s.hmt.cleared now)) rfl rfl (State.onlyChanges_putHmt _ _)
    exact ⟨_, ran, only, svp, rfl⟩
  · refine State.replies_of_run admits (lengths := [0]) (by simp) (by simp) rfl ?_
    exact if_pos (bne_iff_ne.mpr clear)
  · refine State.replies_of_run admits (lengths := [0]) (by simp) (by simp) rfl ?_
    exact (if_neg (by rw [bne_iff_ne]; exact not_not.mpr alarm)).trans (if_pos done)
  · have answer : (s.received 0x24 []).ackScaling =
        ((((s.received 0x24 []).putScw { s.scw with acknowledged := true }).queueScale
          (s.scw.latest.bind (·.record.index)) now), success []) :=
      (if_neg (by rw [bne_iff_ne]; exact not_not.mpr alarm)).trans (if_neg (Bool.eq_false_iff.mp open_))
    obtain ⟨t, ran, rfl, svp, only⟩ := State.runs_of_answer admits (lengths := [0]) (by simp) (by simp) (c := .ackScaling []) rfl
      answer rfl (parts := [.lif, .own, .scw]) (State.onlyChanges_trans
        (State.onlyChanges_mono (State.onlyChanges_putScw _ _) (by simp))
        (State.onlyChanges_mono (State.onlyChanges_queueScale _ _ _) (by simp)))
    refine ⟨_, ran, only, svp, rfl, rfl, ?_⟩
    rw [← alarm]
    exact mem_queueIn_self _ rfl
  · refine State.replies_of_run admits (lengths := [0]) (by simp) (by simp) rfl ?_
    have nothing : ((s.received 0x25 []).scw.latest.bind fun e => if e.noBasis.isSome then none else e.record.ua) = none := by
      rw [Option.bind_eq_none_iff]
      intro e latest
      exact if_pos (Option.isSome_iff_ne_none.mpr (none_ e latest))
    rw [State.captureBaseline, nothing]
    rfl
  · refine State.replies_of_run admits (lengths := [0]) (by simp) (by simp) rfl ?_
    have found : ((s.received 0x25 []).scw.latest.bind fun e => if e.noBasis.isSome then none else e.record.ua) = some ua := by
      show (s.scw.latest.bind fun e => if e.noBasis.isSome then none else e.record.ua) = some ua
      rw [latest, Option.bind_some, basis]
      exact isUa
    rw [State.captureBaseline, found]
    refine if_pos ?_
    rw [Bool.not_eq_true', ← Bool.not_eq_true, within_iff, Params.greatestBaseline]
    omega
  · have found : ((s.received 0x25 []).scw.latest.bind fun e => if e.noBasis.isSome then none else e.record.ua) = some ua := by
      show (s.scw.latest.bind fun e => if e.noBasis.isSome then none else e.record.ua) = some ua
      rw [latest, Option.bind_some, basis]
      exact isUa
    have inside : ¬(!within 1 Params.greatestBaseline ua) = true := by
      rw [Bool.not_eq_true', ← Bool.not_eq_true, within_iff, Params.greatestBaseline]
      omega
    have answer : (s.received 0x25 []).captureBaseline =
        ((s.received 0x25 []).putScw { s.scw with config := { s.scw.config with baseline := ua } },
          success (bytesOf 4 s.scw.config.baseline ++ bytesOf 4 ua)) := by
      rw [State.captureBaseline, found]
      exact if_neg inside
    obtain ⟨t, ran, rfl, svp, only⟩ := State.runs_of_answer admits (lengths := [0]) (by simp) (by simp) (c := .captureBaseline []) rfl
      answer rfl (State.onlyChanges_putScw _ _)
    exact ⟨_, ran, only, svp, rfl⟩

end Sys2Proof.Machine
end

section
/-! PROOFS. The trip latch, the overspeed window and the supervisor's timers (R93 to R100, R103, R104). -/

namespace Sys2Proof.Machine

/-! A window after a result (R55, R56). -/

theorem Window.enter_eq (w : Window) (size count : Nat) (result : Bool) :
    w.enter size count result =
      ({ results := w.after size result, armed := !w.countReached size count result },
        w.countReached size count result && w.armed) := by
  have reached : (w.entered size result).full size count = w.countReached size count result := rfl
  unfold Window.enter
  simp only [reached]
  cases w.countReached size count result <;> rfl

section View

variable (s : State) (e : ViewEvent) (order : List Dependant)

/-- What the evaluation of the trip view makes of the supervisor (R103 to R105). -/
theorem State.evaluateView_tsv : (s.evaluateView e order).tsv =
    if s.viewCondition = s.tsv.viewActive then s.tsv
    else if s.viewCondition then { s.tsv with viewActive := true, onset := some { time := e.time, source := e.source } }
    else { s.tsv with viewActive := false } := by
  unfold State.evaluateView
  split
  · rfl
  · split
    · exact s.tripOnset_tsv e order
    · exact s.tripRelease_tsv

variable {s e order}

/-- What the evaluation of the trip view keeps: whatever the planner's moves and the marks of hold, view and units keep, and the
cause that it raises for a peer. -/
theorem State.evaluateView_keeps {P : State → Prop} (plan : ∀ s t, PlanMove s t → P s → P t) (view : ∀ s x, P s → P (s.putTsv x))
    (hold : ∀ s x, P s → P (s.putSpl x)) (unit : ∀ s n x, P s → P (s.putUnit n x))
    (raise : ∀ s n, P s → P (s.raise (.peerTrip n))) (h : P s) : P (s.evaluateView e order) := by
  have plans {s t : State} (moves : Plans s t) (h : P s) : P t := keeps_of_moves plan moves h
  unfold State.evaluateView
  split
  · exact h
  · split
    · rw [State.tripOnset_eq]
      have taken : P (s.onsetTaken e) := by
        unfold State.onsetTaken
        have viewed := view s { s.tsv with viewActive := true, onset := some { time := e.time, source := e.source } } h
        dsimp only
        split
        · exact viewed
        · exact raise _ _ viewed
        · exact raise _ _ viewed
      refine foldl_holds _ P (fun s d h => ?_) _ _ taken
      refine keeps_of_moves (P := P) (fun s t move h => ?_) (s.deliverOnset_onsets _ _ d) h
      cases move with
      | plan move => exact plan _ _ move h
      | hold => exact hold _ _ h
      | flag n onset _ => exact unit _ _ _ h
      | shed n onset time _ => exact unit _ _ _ h
    · unfold State.tripRelease State.tripHoldRelease
      exact foldl_holds State.clearTripFlag P (fun s n h => unit _ _ _ h) _ _
        (plans (State.replan_plans _) (hold _ _ (view _ _ h)))

theorem State.evaluateView_keepsPending : s.keepsPending (s.evaluateView e order) :=
  State.evaluateView_keeps (P := fun t => s.keepsPending t) (fun _ _ move h => State.keepsPending_trans h move.keepsPending)
    (fun _ _ h => h) (fun _ _ h => h) (fun _ _ _ h => h)
    (fun t n h => State.keepsPending_trans h (State.keepsPending_raiseIn t (.peerTrip n) none _)) fun _ pending => pending

/-- A queued notice that the planner does not queue stays queued at an evaluation of the trip view. -/
theorem State.evaluateView_noticeQueued {m : Notice}
    (other : ∀ n : Notice, n.isClaim = true ∨ n.isRelease = true → m.group ≠ n.group) (queued : ∃ e ∈ s.lif.queue, e.notice = m) :
    ∃ e' ∈ (s.evaluateView e order).lif.queue, e'.notice = m :=
  State.evaluateView_keeps (P := fun t => ∃ e ∈ t.lif.queue, e.notice = m) (fun _ _ move h => Plans.noticeQueued move.plans other h)
    (fun _ _ h => h) (fun _ _ h => h) (fun _ _ _ h => h) (fun _ _ h => h) queued

end View

theorem group_trip_ne {t : LineTime} {cause : TripCause} {speed : Nat} {n : Notice} (planner : n.isClaim = true ∨ n.isRelease = true) :
    (Notice.trip t cause speed).group ≠ n.group := by
  cases n with
  | claim | release => nofun
  | _ => rcases planner with no | no <;> cases no

theorem group_clear_ne {t : LineTime} {n : Notice} (planner : n.isClaim = true ∨ n.isRelease = true) :
    (Notice.clear t).group ≠ n.group := by
  cases n with
  | claim | release => nofun
  | _ => rcases planner with no | no <;> cases no

/-! The trip latch (R97, R100). -/

section Latch

variable (s : State) (cause : TripCause) (speed : Nat) (order : List Dependant)

theorem State.viewCondition_of_latch {s : State} (latched : s.tsv.latch = true) : s.viewCondition = true := by
  rw [State.viewCondition, latched, Bool.true_or]

theorem State.latchTrip_tsv : (s.latchTrip cause speed order).tsv =
    { s.tsv with
      latch := true, record := some { time := s.tmu.lineTime, cause := cause, speed := speed }, furtherCauses := 0
      viewActive := true, onset := if s.tsv.viewActive then s.tsv.onset else some { time := s.tmu.lineTime, source := .own } } := by
  unfold State.latchTrip
  refine (State.evaluateView_tsv _ _ _).trans ?_
  rw [State.viewCondition_of_latch rfl]
  cases view : s.tsv.viewActive with
  | true =>
    refine (if_pos view.symm).trans ?_
    rw [if_pos rfl]
    exact congrArg (fun active => { s.tsv with
      latch := true, record := some { time := s.tmu.lineTime, cause := cause, speed := speed }, furtherCauses := 0
      viewActive := active }) view
  | false =>
    refine (if_neg fun same => ?_).trans rfl
    exact Bool.false_ne_true (view.symm.trans same.symm)

theorem State.latchTrip_raises : (s.latchTrip cause speed order).isPending .trip = true :=
  State.evaluateView_keepsPending _ (State.isPending_raise _ _)

theorem State.latchTrip_queues :
    ∃ e ∈ (s.latchTrip cause speed order).lif.queue, e.notice = .trip s.tmu.lineTime cause speed :=
  State.evaluateView_noticeQueued (fun _ => group_trip_ne) (mem_queueIn_self _ rfl)

/-- The trip view after the latch is cleared is what the peer rows show. -/
theorem State.viewCondition_of_clear {s : State} (clear : s.tsv.latch = false) : s.viewCondition = decide (0 < s.latchedPeers) := by
  rw [State.viewCondition, clear, Bool.false_or]

theorem State.resetLatch_tsv : (s.resetLatch order).tsv =
    { s.tsv with
      latch := false, lastClear := some s.tmu.lineTime, viewActive := decide (0 < s.latchedPeers)
      onset := (s.resetLatch order).tsv.onset } := by
  have view : (s.resetLatch order).tsv.viewActive = decide (0 < s.latchedPeers) :=
    ((State.evaluateView_latch _ _ _).2.trans (State.viewCondition_of_clear rfl)).trans rfl
  have others : (s.resetLatch order).tsv = { s.tsv with
      latch := false, lastClear := some s.tmu.lineTime, viewActive := (s.resetLatch order).tsv.viewActive
      onset := (s.resetLatch order).tsv.onset } := by
    unfold State.resetLatch
    generalize is : State.evaluateView _ _ _ = t
    have tsv : t.tsv = _ := (congrArg State.tsv is).symm.trans (State.evaluateView_tsv _ _ _)
    split at tsv
    · rw [tsv]; rfl
    · split at tsv <;> (rw [tsv]; rfl)
  rw [others, view]

theorem State.resetLatch_queues : ∃ e ∈ (s.resetLatch order).lif.queue, e.notice = .clear s.tmu.lineTime :=
  State.evaluateView_noticeQueued (fun _ => group_clear_ne) (mem_queueIn_self _ rfl)

end Latch

/-! The supervised speed (R94, R95). -/

section Speed

variable (s : State) (v : Nat) (order : List Dependant)

/-- A value of the supervised speed has entered the overspeed window. -/
def State.speedEntered : State :=
  s.putTsv { s.tsv with
    supervisedSpeed := v
    overWindow :=
      { results := s.tsv.overWindow.after s.tsv.config.overWindow (s.tsv.config.tripLimit < v)
        armed := !s.tsv.overWindow.countReached s.tsv.config.overWindow s.tsv.config.overCount (s.tsv.config.tripLimit < v) } }

/-- Whether that value causes an overspeed event. -/
def State.overspeeds : Bool :=
  s.tsv.overWindow.countReached s.tsv.config.overWindow s.tsv.config.overCount (s.tsv.config.tripLimit < v)
    && s.tsv.overWindow.armed

theorem State.superviseSpeed_eq : s.superviseSpeed v order =
    if s.overspeeds v then (s.speedEntered v).tripCause s.tsv.overspeedCause v order else s.speedEntered v := by
  unfold State.superviseSpeed
  simp only [Window.enter_eq]
  rfl

theorem State.superviseSpeed_takes : s.takesSpeed (s.superviseSpeed v order) v s.tsv.overspeedCause := by
  rw [State.superviseSpeed_eq]
  refine ⟨?_, ?_, fun quiet => ?_, fun event clear => ?_⟩
  · unfold State.tripCause
    split
    · split
      · rfl
      · rw [State.latchTrip_tsv]; rfl
    · rfl
  · unfold State.tripCause
    split
    · split
      · rfl
      · rw [State.latchTrip_tsv]; rfl
    · rfl
  · change s.overspeeds v = false ∨ s.tsv.latch = true at quiet
    show _ ∧ _ ∧ _ = (if s.overspeeds v then min 65535 (s.tsv.furtherCauses + 1) else s.tsv.furtherCauses) ∧ _
    cases event : s.overspeeds v with
    | false => exact ⟨rfl, rfl, rfl, rfl, rfl, rfl, rfl⟩
    | true =>
      have latch := quiet.resolve_left (by rw [event]; decide)
      rw [if_pos rfl, if_pos rfl, State.tripCause, if_pos (show (s.speedEntered v).tsv.latch = true from latch)]
      exact ⟨rfl, rfl, rfl, rfl, rfl, rfl, rfl⟩
  · change s.overspeeds v = true at event
    have entered : (s.speedEntered v).tsv.latch = false := clear
    rw [if_pos event, State.tripCause, entered, if_neg Bool.false_ne_true]
    have tsv := (s.speedEntered v).latchTrip_tsv s.tsv.overspeedCause v order
    refine ⟨by rw [tsv], by rw [State.tripOutput, tsv], by rw [tsv], by rw [tsv]; rfl, State.latchTrip_raises _ _ _ _, by rw [tsv], ?_⟩
    exact (s.speedEntered v).latchTrip_queues _ _ _

/-- What a value of the supervised speed leaves of the supervisor. -/
theorem State.superviseSpeed_tsv : (s.superviseSpeed v order).tsv =
    { s.tsv with
      supervisedSpeed := (s.superviseSpeed v order).tsv.supervisedSpeed, overWindow := (s.superviseSpeed v order).tsv.overWindow
      latch := (s.superviseSpeed v order).tsv.latch, record := (s.superviseSpeed v order).tsv.record
      furtherCauses := (s.superviseSpeed v order).tsv.furtherCauses, viewActive := (s.superviseSpeed v order).tsv.viewActive
      onset := (s.superviseSpeed v order).tsv.onset } := by
  rw [State.superviseSpeed_eq]
  unfold State.tripCause
  split
  · split
    · rfl
    · rw [State.latchTrip_tsv]; rfl
  · rfl

end Speed

section TakesSpeed

variable {s u t t' : State} {v : Nat} {cause : TripCause}

/-- Taking a speed reads the overspeed window, the latch and what a trip touches, and nothing else of the state before. -/
theorem State.takesSpeed.of_before (h : u.takesSpeed t v cause) (config : u.tsv.config = s.tsv.config)
    (window : u.tsv.overWindow = s.tsv.overWindow) (latch : u.tsv.latch = s.tsv.latch) (record : u.tsv.record = s.tsv.record)
    (further : u.tsv.furtherCauses = s.tsv.furtherCauses) (view : u.tsv.viewActive = s.tsv.viewActive) (lif : u.lif = s.lif)
    (spl : u.spl = s.spl) (units : u.units = s.units) (now : u.tmu.lineTime = s.tmu.lineTime) : s.takesSpeed t v cause := by
  unfold State.takesSpeed at h ⊢
  rwa [config, window, latch, record, further, view, lif, spl, units, now] at h

/-- A cause raised after a speed was taken leaves what was taken. -/
theorem State.takesSpeed.raise (h : s.takesSpeed t v cause) (other : Cause) : s.takesSpeed (t.raise other) v cause := by
  obtain ⟨speed, window, quiet, event⟩ := h
  refine ⟨speed, window, quiet, fun is clear => ?_⟩
  obtain ⟨latch, output, further, record, pending, view, queued⟩ := event is clear
  exact ⟨latch, output, further, record, State.keepsPending_raiseIn t other none _ _ pending, view, queued⟩

end TakesSpeed

/-! The timers of the supervisor (R93). -/

theorem State.expired_iff (s : State) (start : Count) (periods : Nat) :
    s.expired start periods = true ↔ periods ≤ (s.tmu.localCount - start).toNat := by
  exact decide_eq_true_iff

/-- Settles O30: the two references and the stall. -/
theorem supervisorTimersExpire : Obligations.SupervisorTimersExpire := by
  intro s run
  have inRun : s.inRun = true := decide_eq_true run
  have old {which : SpeedReference} {start : Count} (is : s.tsv.reference which = some start)
      (aged : 2 ^ 31 ≤ (s.tmu.localCount - start).toNat) : s.referenceIsOld which = true := by
    rw [State.referenceIsOld, inRun, is]
    exact (s.expired_iff _ _).mpr aged
  refine ⟨fun start is aged => ?_, fun start is aged => ?_, fun start is => ⟨fun due => ?_, fun early => ?_⟩⟩
  · exact ⟨_, congrArg Host.Outcome.next (if_pos (old (which := .revolution) is aged)), State.onlyChanges_putTsv _ _, rfl⟩
  · exact ⟨_, congrArg Host.Outcome.next (if_pos (old (which := .tooth) is aged)), State.onlyChanges_putTsv _ _, rfl⟩
  · have isDue : s.stallIsDue = true := by
      rw [State.stallIsDue, inRun, is]
      refine (s.expired_iff _ _).mpr ?_
      rw [Params.perMillisecond]
      omega
    obtain ⟨t, ran, only⟩ := execStall_only s
    have result : exec .stall s = .next (((s.putTsv { s.tsv with
        stallTimer := none, stalled := true, revolutionSpeed := 0, toothSpeed := 0 }).superviseSpeed 0 []).raise .stall) :=
      congrArg Host.Outcome.next (if_pos isDue)
    obtain rfl := Host.Outcome.next.inj (ran.symm.trans result)
    refine ⟨_, result, only, ?_⟩
    have tsv := State.superviseSpeed_tsv (s.putTsv { s.tsv with
      stallTimer := none, stalled := true, revolutionSpeed := 0, toothSpeed := 0 }) 0 []
    refine ⟨(congrArg Tsv.stalled tsv).trans rfl, (congrArg Tsv.stallTimer tsv).trans rfl, (congrArg Tsv.revolutionSpeed tsv).trans rfl,
      (congrArg Tsv.toothSpeed tsv).trans rfl, ?_, State.isPending_raise _ _, (congrArg Tsv.revolutionReference tsv).trans rfl,
      (congrArg Tsv.toothReference tsv).trans rfl⟩
    have takes := State.superviseSpeed_takes (s.putTsv { s.tsv with
      stallTimer := none, stalled := true, revolutionSpeed := 0, toothSpeed := 0 }) 0 []
    have cause : (if s.tsv.effectiveTeeth = 0 then TripCause.overspeedRev else .overspeedTooth) = s.tsv.overspeedCause := by
      unfold Tsv.overspeedCause Tsv.toothInUse
      by_cases none_ : s.tsv.effectiveTeeth = 0
      · simp [none_]
      · simp [none_, Nat.pos_of_ne_zero none_]
    rw [cause]
    exact State.takesSpeed.raise (takes.of_before rfl rfl rfl rfl rfl rfl rfl rfl rfl rfl) .stall
  · refine congrArg Host.Outcome.next (if_neg fun isDue => ?_)
    rw [State.stallIsDue, inRun, is, Params.perMillisecond] at isDue
    have := (s.expired_iff _ _).mp isDue
    omega

end Sys2Proof.Machine
end

section
/-! PROOFS. The requests Trip and Reset Trip (R97 to R100, R103, R104). -/

namespace Sys2Proof.Machine

/-- The trip record in a reply: its presence byte, and its fields or zeros. -/
theorem optional_tripRecord (record : Option TripRecord) :
    optional tripRecordWidth (record.map TripRecord.payload) = match record with
      | some r => 1 :: bytesOf 4 r.time.toNat ++ [BitVec.ofNat 8 r.cause.code] ++ bytesOf 4 r.speed
      | none => List.replicate 10 0 := by
  cases record with
  | none => rfl
  | some r =>
    simp [optional, TripRecord.payload, flag1, flagNat, word4, byte1, bytesOf]

theorem State.latchedPeers_pos_iff (s : State) :
    0 < s.latchedPeers ↔ ∃ n : StationNo, n ≠ s.stationNo ∧ s.peers[n].tripLatched = true := by
  unfold State.latchedPeers
  rw [List.length_pos_iff_exists_mem]
  refine exists_congr fun n => ?_
  rw [List.mem_filter, State.peerNumbers, List.mem_filter, State.isPeer, bne_iff_ne, and_iff_right (List.mem_finRange n)]

section Answers

variable {s : State} (order : List Dependant)

theorem State.onlyChanges_latchTrip (cause : TripCause) (speed : Nat) :
    s.onlyChanges (s.latchTrip cause speed order) [.attention, .lif, .tsv, .spl, .units, .outputs, .freeNext] := by
  simp [State.onlyChanges, Part.all, Part.same]

theorem State.onlyChanges_resetLatch :
    s.onlyChanges (s.resetLatch order) [.attention, .lif, .tsv, .spl, .units, .outputs, .freeNext] := by
  simp [State.onlyChanges, Part.all, Part.same]

theorem State.hostTrip_of_clear (clear : s.tsv.latch = false) :
    s.hostTrip order = (s.latchTrip .host s.tsv.supervisedSpeed order,
      success (1 :: 1 :: bytesOf 4 s.tmu.lineTime.toNat ++ [3] ++ bytesOf 4 s.tsv.supervisedSpeed)) := by
  have latches : s.tripCause .host s.tsv.supervisedSpeed order = s.latchTrip .host s.tsv.supervisedSpeed order :=
    if_neg (by rw [clear]; decide)
  unfold State.hostTrip
  rw [latches, clear]
  simp only [optional_tripRecord, State.latchTrip_tsv]
  rfl

theorem State.hostTrip_of_latched (latched : s.tsv.latch = true) :
    s.hostTrip order = (s.countFurther, success (0 :: match s.tsv.record with
      | some r => 1 :: bytesOf 4 r.time.toNat ++ [BitVec.ofNat 8 r.cause.code] ++ bytesOf 4 r.speed
      | none => List.replicate 10 0)) := by
  have counts : s.tripCause .host s.tsv.supervisedSpeed order = s.countFurther := if_pos latched
  unfold State.hostTrip
  rw [counts, latched]
  simp only [optional_tripRecord]
  rfl

theorem State.resetTrip_of_low (latched : s.tsv.latch = true) (low : s.tsv.supervisedSpeed < s.tsv.config.resetLimit) :
    s.resetTrip = (s.resetLatch [], success []) :=
  (if_neg (by rw [latched]; decide)).trans (if_neg (Nat.not_le_of_lt low))

end Answers

/-- Settles O31: the latch's two requests. -/
theorem tripAndResetTrip : Obligations.TripAndResetTrip := by
  intro s order admits now parts
  refine ⟨fun clear => ?_, fun latched => ?_, fun clear => ?_, fun latched high => ?_, fun latched low => ?_⟩
  · have tsv := (s.received 0x22 []).latchTrip_tsv .host s.tsv.supervisedSpeed order
    obtain ⟨t, ran, rfl, svp, only⟩ := State.runs_of_answer admits (lengths := [0]) (by simp) (by simp) (c := .trip [] order) rfl
      (State.hostTrip_of_clear order (s := s.received 0x22 []) clear) (State.latchTrip_frame _ _ _ _).2.2.2.1
      (State.onlyChanges_latchTrip order _ _)
    refine ⟨_, ran, only, (congrArg Tsv.latch tsv).trans rfl, (congrArg Tsv.latch tsv).trans rfl,
      (congrArg Tsv.furtherCauses tsv).trans rfl, (congrArg Tsv.record tsv).trans rfl,
      (s.received 0x22 []).latchTrip_raises _ _ _, (congrArg Tsv.viewActive tsv).trans rfl, (congrArg Tsv.onset tsv).trans rfl, svp,
      (s.received 0x22 []).latchTrip_queues _ _ _⟩
  · obtain ⟨t, ran, rfl, svp, only⟩ := State.runs_of_answer admits (lengths := [0]) (by simp) (by simp) (c := .trip [] order) rfl
      (State.hostTrip_of_latched order (s := s.received 0x22 []) latched) rfl (State.onlyChanges_putTsv _ _)
    exact ⟨_, ran, only, rfl, svp⟩
  · refine State.replies_of_run admits (lengths := [0]) (by simp) (by simp) rfl ?_
    exact if_pos (congrArg not clear)
  · refine State.replies_of_run admits (lengths := [0]) (by simp) (by simp) rfl ?_
    exact (if_neg (fun no => Bool.false_ne_true ((congrArg not latched).symm.trans no))).trans (if_pos high)
  · have tsv := (s.received 0x23 []).resetLatch_tsv []
    obtain ⟨t, ran, rfl, svp, only⟩ := State.runs_of_answer admits (lengths := [0]) (by simp) (by simp) (c := .resetTrip []) rfl
      (State.resetTrip_of_low (s := s.received 0x23 []) latched low) (by simp [State.resetLatch]) (State.onlyChanges_resetLatch _)
    refine ⟨_, ran, only, (congrArg Tsv.latch tsv).trans rfl, (congrArg Tsv.latch tsv).trans rfl, (congrArg Tsv.lastClear tsv).trans rfl,
      (congrArg Tsv.record tsv).trans rfl, (congrArg Tsv.furtherCauses tsv).trans rfl, (congrArg Tsv.overWindow tsv).trans rfl, ?_, svp,
      (s.received 0x23 []).resetLatch_queues _⟩
    have view : ((s.received 0x23 []).resetLatch []).tsv.viewActive = decide (0 < s.latchedPeers) :=
      (congrArg Tsv.viewActive tsv).trans rfl
    show ((s.received 0x23 []).resetLatch []).tsv.viewActive = true ↔ _
    rw [view, decide_eq_true_iff]
    exact s.latchedPeers_pos_iff

end Sys2Proof.Machine
end

section
/-! PROOFS. The evaluation of a rating interval and the scaling state (R131 to R137). -/

namespace Sys2Proof.Machine

/-! The evaluation of a full interval (R131 to R134). -/

section Basis

variable {energy : Nat} {a b c d : Option Int}

theorem basisOf_of_absent (absent : a = none ∨ b = none ∨ c = none ∨ d = none) : basisOf energy a b c d = .error .meanAbsent := by
  unfold basisOf
  split
  · rcases absent with h | h | h | h <;> cases h
  · rfl

/-- The test for a basis with all four means, condition by condition. -/
theorem basisOf_of_some (hi ho ci co : Int) : basisOf energy (some hi) (some ho) (some ci) (some co) =
    if energy = 0 then .error .noEnergy
    else if hi - co ≤ 0 then .error .hotEndCrossed
    else if ho - ci ≤ 0 then .error .coldEndCrossed
    else if ((hi - co) + (ho - ci)).tdiv 2 < 100 then .error .dtSmall
    else .ok (((hi - co) + (ho - ci)).tdiv 2) := rfl

end Basis

section Evaluate

variable {config : ScalingConfig} {i : Interval} {b : LineTime}

/-- What an evaluation shows of a basis that fails. -/
theorem evaluate_of_error {why : NoBasis}
    (basis : basisOf i.energy i.hotIn.mean i.hotOut.mean i.coldIn.mean i.coldOut.mean = .error why) :
    (evaluate config i b).noBasis = some why ∧ (evaluate config i b).meanDifference = none
      ∧ (evaluate config i b).record.ua = none ∧ (evaluate config i b).record.index = none := by
  dsimp only [evaluate]
  rw [basis]
  exact ⟨rfl, rfl, rfl, rfl⟩

/-- What an evaluation shows of a mean difference. -/
theorem evaluate_of_ok {mean : Int}
    (basis : basisOf i.energy i.hotIn.mean i.hotOut.mean i.coldIn.mean i.coldOut.mean = .ok mean) :
    (evaluate config i b).noBasis = none ∧ (evaluate config i b).meanDifference = some mean
      ∧ (evaluate config i b).record.ua = some (min 4294967295 (i.energy / (config.lengthS * mean.toNat * 1000)))
      ∧ (evaluate config i b).record.index = some (min 2000 (i.energy / (config.lengthS * mean.toNat * config.baseline))) := by
  dsimp only [evaluate]
  rw [basis]
  exact ⟨rfl, rfl, rfl, rfl⟩

end Evaluate

theorem holds_iff {α : Type} {x : Option α} {test : α → Bool} : holds x test = true ↔ ∃ y, x = some y ∧ test y = true := by
  rw [holds, Option.any_eq_true]

theorem indexRecord_alarm {config : ScalingConfig} {endTime : LineTime} {index ua : Option Nat} {pressure : Option Int} :
    (indexRecord config endTime index ua pressure).alarm = true ↔
      (∃ x, index = some x ∧ x < config.alarmLimit) ∨ ∃ x, pressure = some x ∧ config.pressureAlarm < x := by
  show (holds index _ || holds pressure _) = true ↔ _
  simp only [Bool.or_eq_true, holds_iff, decide_eq_true_eq]

theorem indexRecord_watch {config : ScalingConfig} {endTime : LineTime} {index ua : Option Nat} {pressure : Option Int} :
    (indexRecord config endTime index ua pressure).watch = true ↔
      (∃ x, index = some x ∧ x < config.watchLimit) ∨ (∃ x, pressure = some x ∧ config.pressureWatch < x)
        ∨ (indexRecord config endTime index ua pressure).alarm = true := by
  show (holds index _ || holds pressure _ || (indexRecord config endTime index ua pressure).alarm) = true ↔ _
  simp only [Bool.or_eq_true, holds_iff, decide_eq_true_eq, or_assoc]

/-- Settles O35: the evaluation by the outcome of the test for a basis. -/
theorem intervalIsEvaluated : Obligations.IntervalIsEvaluated := by
  intro config i b e mean
  refine ⟨rfl, rfl, rfl, rfl, rfl, rfl, rfl, rfl, rfl, fun absent => ?_, fun hi ho ci co isHi isHo isCi isCo => ?_, fun none_ => ?_,
    indexRecord_alarm, indexRecord_watch⟩
  · exact (evaluate_of_error (basisOf_of_absent absent)).1
  · have same : basisOf i.energy e.hotIn e.hotOut e.coldIn e.coldOut = basisOf i.energy (some hi) (some ho) (some ci) (some co) := by
      rw [isHi, isHo, isCi, isCo]
    have basis := same.trans (basisOf_of_some hi ho ci co)
    intro a b dtm
    refine ⟨fun none_ => ?_, fun some_ hot => ?_, fun some_ hot cold => ?_, fun some_ hot cold small => ?_, fun some_ hot cold large => ?_⟩
    · refine (evaluate_of_error (basis.trans ?_)).1
      rw [if_pos none_]
    · refine (evaluate_of_error (basis.trans ?_)).1
      rw [if_neg some_.ne', if_pos hot]
    · refine (evaluate_of_error (basis.trans ?_)).1
      rw [if_neg some_.ne', if_neg (not_le.mpr hot), if_pos cold]
    · refine (evaluate_of_error (basis.trans ?_)).1
      rw [if_neg some_.ne', if_neg (not_le.mpr hot), if_neg (not_le.mpr cold), if_pos small]
    · refine evaluate_of_ok (basis.trans ?_)
      rw [if_neg some_.ne', if_neg (not_le.mpr hot), if_neg (not_le.mpr cold), if_neg (not_lt.mpr large)]
  · cases basis : basisOf i.energy i.hotIn.mean i.hotOut.mean i.coldIn.mean i.coldOut.mean with
    | error why => exact (evaluate_of_error basis).2
    | ok m => exact absurd (evaluate_of_ok basis).1 none_

/-! The scaling state's table (R136, R137). -/

theorem effectiveCount_eq (size count : Nat) : effectiveCount size count = min count size := by
  unfold effectiveCount
  split <;> omega

section Decide

variable (w : Scw)

/-- The alarms in the window have reached the effective alarm count (R136). -/
def Scw.alarmReached : Bool := min w.config.alarmCount w.config.window ≤ w.alarmsInWindow

/-- The watches in the window have reached the effective watch count (R136). -/
def Scw.watchReached : Bool := min w.config.watchCount w.config.window ≤ w.watchesInWindow

theorem Scw.decide_eq : w.decide =
    if w.state = .alarm then
      if w.acknowledged = true ∧ w.alarmReached = false then (if w.watchReached then .watch else .clear, false)
      else (.alarm, w.acknowledged)
    else if w.alarmReached then (.alarm, false)
    else (if w.watchReached then .watch else .clear, w.acknowledged) := by
  unfold Scw.decide
  simp only [effectiveCount_eq]
  cases state : w.state with
  | alarm =>
    rw [if_pos rfl]
    refine if_congr ?_ rfl rfl
    rw [Bool.and_eq_true, Bool.not_eq_true']
    rfl
  | clear =>
    rw [if_neg (show ¬ScalingState.clear = .alarm by decide)]
    rfl
  | watch =>
    rw [if_neg (show ¬ScalingState.watch = .alarm by decide)]
    rfl

end Decide

end Sys2Proof.Machine
end

section
/-! PROOFS. The scaling state leaves ALARM only at an interval's end (R137). -/

namespace Sys2Proof.Machine

/-! What keeps the scaling state: everything but the evaluation of an interval. -/

section Kept

variable (s : State)

theorem State.setToWatch_state (record : SetRecord) : (s.setToWatch record).scw.state = s.scw.state := by
  unfold State.setToWatch
  split <;> rfl

theorem State.forwardEnergy_state (p : Nat) : (s.forwardEnergy p).scw.state = s.scw.state := by
  unfold State.forwardEnergy
  split <;> rfl

theorem State.intervalStep_state (e : StepEvent) : (s.intervalStep e).scw.state = s.scw.state := by
  unfold State.intervalStep
  split
  · rfl
  · split <;> rfl

theorem State.closeSet_state (g : GroupNo) (o : OpenSet) (endTime : LineTime) (short : Bool) :
    (s.closeSet g o endTime short).scw.state = s.scw.state := by
  unfold State.closeSet
  rw [State.setToWatch_state, foldl_keeps State.takeLatest State.scw fun _ _ => by simp]
  simp

theorem State.groupStep_state (g : GroupNo) (e : StepEvent) : (s.groupStep g e).scw.state = s.scw.state := by
  unfold State.groupStep
  split
  · rfl
  · split
    · exact s.closeSet_state g _ _ _
    · rfl

theorem State.flowPulse_state (t : LineTime) : (s.flowPulse t).scw.state = s.scw.state := by
  unfold State.flowPulse
  split
  · dsimp only
    split <;> rfl
  · dsimp only
    split
    · exact State.forwardEnergy_state _ _
    · rfl

theorem State.deliverStep_state (e : StepEvent) (d : Dependant) : (State.deliverStep e s d).scw.state = s.scw.state := by
  cases d with
  | group g => exact s.groupStep_state g e
  | scalingWatch => exact s.intervalStep_state e
  | planner => simp [State.deliverStep]
  | unit n => simp [State.deliverStep]

theorem State.deliverSteps_state (e : StepEvent) (order : List Dependant) : (s.deliverSteps e order).scw.state = s.scw.state :=
  foldl_keeps (State.deliverStep e) (fun s => s.scw.state) (fun s d => s.deliverStep_state e d) _ _

theorem State.timeHeard_state (sender : StationNo) (time sync : LineTime) (joined : Bool) (order : List Dependant) :
    (s.timeHeard sender time sync joined order).scw.state = s.scw.state := by
  have advanced (d : LineTime) (distance : Nat) : (s.advanceBy d distance).scw.state = s.scw.state := by simp
  unfold State.timeHeard
  dsimp only
  split
  · rfl
  · split
    · unfold State.joinBy
      dsimp only
      split
      · exact advanced _ _
      · exact (State.deliverSteps_state _ _ _).trans (advanced _ _)
    · split
      · exact (State.deliverSteps_state _ _ _).trans (advanced _ _)
      · simp

theorem State.hear_state (kind : Nat) (n : StationNo) (p : List Byte) (order : List Dependant) :
    (s.hear kind n p order).scw.state = s.scw.state := by
  unfold State.hear
  split
  · unfold State.hearTime
    dsimp only
    refine (State.timeHeard_state _ _ _ _ _ _).trans ?_
    split <;> split <;> simp
  all_goals simp

theorem State.frameComplete_state (body : List Byte) (own : Bool) (check : Byte) (order : List Dependant) :
    (s.frameComplete body own check order).scw.state = s.scw.state := by
  unfold State.frameComplete
  dsimp only
  split
  · rfl
  · split
    · rfl
    · unfold State.validate
      dsimp only
      split
      · rfl
      · split
        · rfl
        · split
          · rfl
          · exact State.hear_state _ _ _ _ _

theorem State.revolutionRecord_scw (r : CaptureRecord) (first : Bool) (order : List Dependant) :
    (s.revolutionRecord r first order).scw = s.scw := by simp

theorem State.masterEdgeAt_state (u : CaptureNo) (order : List Dependant) : (s.masterEdgeAt u order).scw.state = s.scw.state := by
  unfold State.masterEdgeAt
  dsimp only
  split
  · rfl
  · split
    · rw [State.revolutionRecord_scw]
      rfl
    · exact State.flowPulse_state _ _
    · rfl
    · rfl

/-- A request keeps the scaling state when its section does. -/
theorem State.request_state {code : Nat} {cls : RequestClass} {lengths : List Nat} {p : List Byte} {act : State → Answer}
    (keeps : ∀ u : State, (act u).1.scw.state = u.scw.state) : (s.request code cls lengths p act).scw.state = s.scw.state := by
  have served (u : State) : (State.serve cls (lengths.contains p.length) act u).1.scw.state = u.scw.state := by
    unfold State.serve
    split
    · rfl
    · split
      · rfl
      · split
        · rfl
        · exact keeps u
  unfold State.request State.arrive
  split
  · rfl
  · split
    · rfl
    · exact served _

/-- What changes other parts keeps the scaling state. -/
theorem State.state_of_only {x : Outcome} {parts : List Part} (only : ∃ t, x = .next t ∧ s.onlyChanges t parts)
    (other : Part.scw ∉ parts) : ∃ t, x = .next t ∧ t.scw.state = s.scw.state := by
  obtain ⟨t, ran, -, same⟩ := only
  have same : t.scw = s.scw := same .scw other
  exact ⟨t, ran, congrArg Scw.state same⟩

theorem exec_setBoundary_state (g : GroupNo) : ∃ t, exec (.setBoundary g) s = .next t ∧ t.scw.state = s.scw.state := by
  refine ⟨_, rfl, ?_⟩
  split
  · split
    · exact s.closeSet_state g _ _ _
    · rfl
  · rfl

theorem exec_masterEdge_state (u : CaptureNo) (e : PulseEdge) :
    ∃ t, exec (.masterEdge u e) s = .next t ∧ t.scw.state = s.scw.state := by
  refine ⟨_, rfl, ?_⟩
  split
  · rfl
  · split
    · exact State.masterEdgeAt_state _ u e.order
    · rfl

theorem exec_frameReceived_state (check : Byte) (order : List Dependant) :
    ∃ t, exec (.frameReceived check order) s = .next t ∧ t.scw.state = s.scw.state := by
  refine ⟨_, rfl, ?_⟩
  split
  · exact State.frameComplete_state _ _ _ _ _
  · rfl

theorem State.ackScaling_state : s.ackScaling.1.scw.state = s.scw.state := by
  unfold State.ackScaling
  split
  · rfl
  · split
    · rfl
    · simp [State.succeed]

theorem State.captureBaseline_state : s.captureBaseline.1.scw.state = s.scw.state := by
  unfold State.captureBaseline
  split
  · rfl
  · split <;> rfl

theorem State.startStation_state : s.startStation.1.scw.state = s.scw.state := by
  unfold State.startStation
  split
  · rfl
  · show s.enterRun.scw.state = s.scw.state
    rw [State.enterRun_scw]
    split <;> rfl

/-- Every command but a reset and an interval's end keeps the scaling state. -/
theorem exec_scalingState (c : Instr) (noReset : c.isReset = false) (noEnd : c ≠ .intervalBoundary) :
    ∃ t, exec c s = .next t ∧ t.scw.state = s.scw.state :=
  match c with
  | .powerOn .. | .resetPin .. | .serviceBreak .. => nomatch noReset
  | .intervalBoundary => absurd rfl noEnd
  | .setBoundary group => exec_setBoundary_state s group
  | .masterEdge unit edge => exec_masterEdge_state s unit edge
  | .frameReceived check order => exec_frameReceived_state s check order
  | .ackScaling _ => ⟨_, rfl, s.request_state State.ackScaling_state⟩
  | .captureBaseline _ => ⟨_, rfl, s.request_state State.captureBaseline_state⟩
  | .startStation _ => ⟨_, rfl, s.request_state State.startStation_state⟩
  | .setScaling payload => ⟨_, rfl, s.request_state fun u => by cases scalingConfigOf payload <;> rfl⟩
  | .bootCheckEnd passed lineHigh => s.state_of_only (execBootCheckEnd_only s passed lineHigh) (by decide)
  | .characterError stopBit => s.state_of_only (execCharacterError_only s stopBit) (by decide)
  | .longFrame length => s.state_of_only (execLongFrame_only s length) (by decide)
  | .gap => s.state_of_only (execGap_only s) (by decide)
  | .quietMoment => s.state_of_only (execQuietMoment_only s) (by decide)
  | .noticeStart => s.state_of_only (execNoticeStart_only s) (by decide)
  | .collision => s.state_of_only (execCollision_only s) (by decide)
  | .noticeSentWhole => s.state_of_only (execNoticeSentWhole_only s) (by decide)
  | .peerSilence station => s.state_of_only (execPeerSilence_only s station) (by decide)
  | .silenceTimerStop station => s.state_of_only (execSilenceTimerStop_only s station) (by decide)
  | .beacon => s.state_of_only (execBeacon_only s) (by decide)
  | .joinTimerExpiry => s.state_of_only (execJoinTimerExpiry_only s) (by decide)
  | .channelStart => s.state_of_only (execChannelStart_only s) (by decide)
  | .mainOutput channel bits => s.state_of_only (execMainOutput_only s channel bits) (by decide)
  | .guardOutput channel bits => s.state_of_only (execGuardOutput_only s channel bits) (by decide)
  | .slaveEdge unit edge => s.state_of_only (execSlaveEdge_only s unit edge) (by decide)
  | .pollTimerExpiry unit => s.state_of_only (execPollTimerExpiry_only s unit) (by decide)
  | .referenceAgeing which => s.state_of_only (execReferenceAgeing_only s which) (by decide)
  | .stall => s.state_of_only (execStall_only s) (by decide)
  | .ownStartReached slot => s.state_of_only (execOwnStartReached_only s slot) (by decide)
  | .entryExpiry => s.state_of_only (execEntryExpiry_only s) (by decide)
  | .settleTimerExpiry slot => s.state_of_only (execSettleTimerExpiry_only s slot) (by decide)
  | .edgeDue unit => s.state_of_only (execEdgeDue_only s unit) (by decide)
  | .readStatus payload => s.state_of_only (execReadStatus_only s payload) (by decide)
  | .readPeer payload => s.state_of_only (execReadPeer_only s payload) (by decide)
  | .readTime payload => s.state_of_only (execReadTime_only s payload) (by decide)
  | .readSamples payload => s.state_of_only (execReadSamples_only s payload) (by decide)
  | .readChannel payload => s.state_of_only (execReadChannel_only s payload) (by decide)
  | .readCapture payload => s.state_of_only (execReadCapture_only s payload) (by decide)
  | .readTurbine payload => s.state_of_only (execReadTurbine_only s payload) (by decide)
  | .readHeat payload => s.state_of_only (execReadHeat_only s payload) (by decide)
  | .readScaling payload => s.state_of_only (execReadScaling_only s payload) (by decide)
  | .readWindows payload => s.state_of_only (execReadWindows_only s payload) (by decide)
  | .readUnit payload => s.state_of_only (execReadUnit_only s payload) (by decide)
  | .readWatch payload => s.state_of_only (execReadWatch_only s payload) (by decide)
  | .startPump payload => s.state_of_only (execStartPump_only s payload) (by decide)
  | .stopPump payload => s.state_of_only (execStopPump_only s payload) (by decide)
  | .trip payload order => s.state_of_only (execTrip_only s payload order) (by decide)
  | .resetTrip payload => s.state_of_only (execResetTrip_only s payload) (by decide)
  | .clearHeat payload => s.state_of_only (execClearHeat_only s payload) (by decide)
  | .clearAttention payload => s.state_of_only (execClearAttention_only s payload) (by decide)
  | .setStation payload => s.state_of_only (execSetStation_only s payload) (by decide)
  | .setChannel payload => s.state_of_only (execSetChannel_only s payload) (by decide)
  | .setGroup payload => s.state_of_only (execSetGroup_only s payload) (by decide)
  | .setCapture payload => s.state_of_only (execSetCapture_only s payload) (by decide)
  | .setTurbine payload => s.state_of_only (execSetTurbine_only s payload) (by decide)
  | .setHeat payload => s.state_of_only (execSetHeat_only s payload) (by decide)
  | .setWindow payload => s.state_of_only (execSetWindow_only s payload) (by decide)
  | .setWindowClear => s.state_of_only (execSetWindowClear_only s) (by decide)
  | .setUnit payload => s.state_of_only (execSetUnit_only s payload) (by decide)
  | .setEdge payload => s.state_of_only (execSetEdge_only s payload) (by decide)
  | .setWatchList payload => s.state_of_only (execSetWatchList_only s payload) (by decide)
  | .unknownRequest code payload => s.state_of_only (execUnknownRequest_only s code payload) (by decide)
  | .requestTooLong length => s.state_of_only (execRequestTooLong_only s length) (by decide)
  | .serviceCharacterError stopBit => s.state_of_only (execServiceCharacterError_only s stopBit) (by decide)
  | .serviceGap => s.state_of_only (execServiceGap_only s) (by decide)
  | .startBitWhileReplying => s.state_of_only (execStartBitWhileReplying_only s) (by decide)
  | .replyComplete => s.state_of_only (execReplyComplete_only s) (by decide)
  | .syncTaken byte startEdge => s.state_of_only (execSyncTaken_only s byte startEdge) (by decide)
  | .requestSyncTaken => s.state_of_only (execRequestSyncTaken_only s) (by decide)
  | .requestBadCheck code payload check => s.state_of_only (execRequestBadCheck_only s code payload check) (by decide)

end Kept

/-! The decision at an interval's end. -/

section Decision

variable (w : Scw)

/-- ALARM is left acknowledged, with the alarms below their count. -/
theorem Scw.decide_leaves (alarm : w.state = .alarm) (left : w.decide.1 ≠ .alarm) :
    w.acknowledged = true ∧ w.alarmsInWindow < min w.config.alarmCount w.config.window := by
  rw [Scw.decide_eq, if_pos alarm] at left
  split at left
  · rename_i may
    exact ⟨may.1, not_le.mp (of_decide_eq_false may.2)⟩
  · exact absurd rfl left

theorem Scw.alarmsInWindow_eq :
    w.alarmsInWindow = (w.history.drop (w.history.length - w.config.window)).countP (·.alarm) :=
  List.countP_eq_length_filter.symm

theorem Scw.watchesInWindow_eq :
    w.watchesInWindow = (w.history.drop (w.history.length - w.config.window)).countP (·.watch) :=
  List.countP_eq_length_filter.symm

end Decision

section AtBoundary

variable (s : State) (i : Interval) (b : LineTime)

/-- The watch with an evaluation noted, before its state is decided. -/
def Scw.noted (w : Scw) (e : Evaluation) : Scw :=
  { w with latest := some e, held := heldAfter w.held e.record
           history := enterNewest Config.indexHistoryDepth w.history e.record }

/-- The watch after an evaluation. -/
theorem State.evaluateInterval_scw : (s.evaluateInterval i b).scw =
    s.scw.evaluated (evaluate s.scw.config i b) (s.scw.noted (evaluate s.scw.config i b)).decide := by
  rw [State.evaluateInterval_eq]
  dsimp only
  split <;> simp [State.recorded] <;> rfl

/-- An interval's end leaves ALARM acknowledged, with the alarms of the new history below their count. -/
theorem State.closeAtBoundary_leaves (alarm : s.scw.state = .alarm) (left : (s.closeAtBoundary i).scw.state ≠ .alarm) :
    s.scw.acknowledged = true
      ∧ (s.closeAtBoundary i).scw.alarmsInWindow
        < min (s.closeAtBoundary i).scw.config.alarmCount (s.closeAtBoundary i).scw.config.window := by
  unfold State.closeAtBoundary at left ⊢
  dsimp only at left ⊢
  split at left
  · exact absurd alarm left
  · rename_i full
    rw [if_neg full]
    let w := s.scw.noted (evaluate s.scw.config i i.nextBoundary)
    have scw := s.evaluateInterval_scw i i.nextBoundary
    have left : w.decide.1 ≠ .alarm := fun h => left ((congrArg Scw.state scw).trans h)
    obtain ⟨acknowledged, below⟩ := Scw.decide_leaves w alarm left
    refine ⟨acknowledged, ?_⟩
    unfold State.openNext
    rw [scw]
    exact below

end AtBoundary

/-- The table of R137. -/
theorem Scw.decide_table (w : Scw) :
    (w.state ≠ .alarm →
      (w.alarmReached = true → w.decide = (.alarm, false))
      ∧ (¬w.alarmReached = true → w.watchReached = true → w.decide = (.watch, w.acknowledged))
      ∧ (¬w.alarmReached = true → ¬w.watchReached = true → w.decide = (.clear, w.acknowledged)))
    ∧ (w.state = .alarm →
        (w.acknowledged = true → ¬w.alarmReached = true → w.watchReached = true → w.decide = (.watch, false))
        ∧ (w.acknowledged = true → ¬w.alarmReached = true → ¬w.watchReached = true → w.decide = (.clear, false))
        ∧ (w.acknowledged = false ∨ w.alarmReached = true → w.decide = (.alarm, w.acknowledged))) := by
  rw [Scw.decide_eq]
  refine ⟨fun state => ?_, fun state => ?_⟩
  · rw [if_neg state]
    refine ⟨fun a => by rw [if_pos a], fun a h => ?_, fun a h => ?_⟩
    · rw [if_neg a, if_pos h]
    · rw [if_neg a, if_neg h]
  · rw [if_pos state]
    refine ⟨fun ack a h => ?_, fun ack a h => ?_, fun stays => ?_⟩
    · rw [if_pos ⟨ack, eq_false_of_ne_true a⟩, if_pos h]
    · rw [if_pos ⟨ack, eq_false_of_ne_true a⟩, if_neg h]
    · refine if_neg fun may => ?_
      rcases stays with ack | a
      · exact Bool.false_ne_true (ack.symm.trans may.1)
      · exact Bool.false_ne_true (may.2.symm.trans a)

/-- Settles O37: the table by the cases of the decision; ALARM is left nowhere else. -/
theorem scalingStateIsDecided : Obligations.ScalingStateIsDecided := by
  refine ⟨fun w => ?_, fun c s t noReset ran alarm left => ?_⟩
  · intro newest alarms watches alarmReached watchReached
    have alarmIff : w.alarmReached = true ↔ alarmReached := by
      rw [Scw.alarmReached, decide_eq_true_eq, Scw.alarmsInWindow_eq]
    have watchIff : w.watchReached = true ↔ watchReached := by
      rw [Scw.watchReached, decide_eq_true_eq, Scw.watchesInWindow_eq]
    rw [← alarmIff, ← watchIff]
    exact w.decide_table
  · by_cases noEnd : c = .intervalBoundary
    · subst noEnd
      refine ⟨rfl, ?_⟩
      obtain rfl := Host.Outcome.next.inj ran
      split at left
      · split at left
        · rename_i due
          rw [if_pos due]
          exact s.closeAtBoundary_leaves _ alarm left
        · exact absurd alarm left
      · exact absurd alarm left
    · obtain ⟨u, ran_, state⟩ := exec_scalingState s c noReset noEnd
      obtain rfl := Host.Outcome.next.inj (ran.symm.trans ran_)
      exact absurd (state.trans alarm) left

end Sys2Proof.Machine
end

section
/-! PROOFS. The rating interval and its close (chapter 7). -/

namespace Sys2Proof.Machine

/-! The multiples of a period on the circle of line times (R64, R129). -/

section Multiples

/-- How far one line time stands behind another. -/
theorem toNat_sub_of_le {t a : LineTime} (le : a.toNat ≤ t.toNat) : (t - a).toNat = t.toNat - a.toNat := by
  bv_omega

theorem toNat_sub_of_lt {t a : LineTime} (lt : t.toNat < a.toNat) : (t - a).toNat = t.toNat + 2 ^ 32 - a.toNat := by
  bv_omega

/-- The next multiple is the first one after the line time, on the line time's circle. -/
theorem nextMultiple_first {period m : Nat} {a : LineTime} (fits : m * period < 2 ^ 32)
    (apart : 1 ≤ (BitVec.ofNat 32 (m * period) - a).toNat) :
    1 ≤ (nextMultiple period a - a).toNat ∧ (nextMultiple period a - a).toNat ≤ (BitVec.ofNat 32 (m * period) - a).toNat := by
  have isT : (BitVec.ofNat 32 (m * period)).toNat = m * period := (BitVec.toNat_ofNat _ _).trans (Nat.mod_eq_of_lt fits)
  generalize BitVec.ofNat 32 (m * period) = t at apart isT ⊢
  rcases Nat.eq_zero_or_pos period with rfl | positive
  · have zero : nextMultiple 0 a = t := by
      refine BitVec.eq_of_toNat_eq ?_
      rw [isT]
      simp [nextMultiple]
    rw [zero]
    exact ⟨apart, le_rfl⟩
  have below : a.toNat / period * period ≤ a.toNat := Nat.div_mul_le_self _ _
  have above : a.toNat < (a.toNat / period + 1) * period := Nat.lt_mul_of_div_lt (Nat.lt_succ_self _) positive
  have behind : t.toNat < a.toNat ∨ (a.toNat / period + 1) * period ≤ t.toNat := by
    rcases Nat.lt_or_ge m (a.toNat / period + 1) with before | after
    · have : m * period ≤ a.toNat / period * period := Nat.mul_le_mul_right _ (by omega)
      have : t.toNat ≠ a.toNat := fun same => by
        rw [BitVec.eq_of_toNat_eq same, BitVec.sub_self] at apart
        exact absurd apart (by decide)
      omega
    · right
      rw [isT]
      exact Nat.mul_le_mul_right _ after
  unfold nextMultiple
  dsimp only
  generalize (a.toNat / period + 1) * period = n at above behind ⊢
  by_cases small : n < 2 ^ 32
  · rw [if_pos small]
    have isN : (BitVec.ofNat 32 n).toNat = n := (BitVec.toNat_ofNat _ _).trans (Nat.mod_eq_of_lt small)
    rw [toNat_sub_of_le (above.le.trans isN.ge), isN]
    rcases behind with lt | le
    · rw [toNat_sub_of_lt lt]
      omega
    · rw [toNat_sub_of_le (above.le.trans le)]
      omega
  · rw [if_neg small]
    have lt : t.toNat < a.toNat := by
      have := t.isLt
      omega
    rw [toNat_sub_of_lt lt, toNat_sub_of_lt (t := 0) (Nat.zero_lt_of_lt lt)]
    have := a.isLt
    have : (0 : LineTime).toNat = 0 := rfl
    omega

theorem nextMultiple_isMultiple (period : Nat) (a : LineTime) :
    ∃ m : Nat, m * period < 2 ^ 32 ∧ nextMultiple period a = BitVec.ofNat 32 (m * period) := by
  unfold nextMultiple
  dsimp only
  split
  · rename_i small
    exact ⟨_, small, rfl⟩
  · exact ⟨0, by omega, by rw [Nat.zero_mul]; rfl⟩

/-- A step closes what is open until a boundary when it is backward or passes that boundary or any multiple of the period. -/
theorem StepEvent.crosses_iff {e : StepEvent} {b : LineTime} {period : Nat} : e.crosses b period = true ↔
    e.backward = true ∨ e.inSpan b = true ∨ ∃ m : Nat, m * period < 2 ^ 32 ∧ e.inSpan (BitVec.ofNat 32 (m * period)) = true := by
  rw [StepEvent.crosses, Bool.or_eq_true, Bool.or_eq_true, or_assoc]
  refine or_congr_right (or_congr_right ⟨fun inSpan => ?_, fun ⟨m, fits, inSpan⟩ => ?_⟩)
  · obtain ⟨m, fits, is⟩ := nextMultiple_isMultiple period e.before
    exact ⟨m, fits, is ▸ inSpan⟩
  · simp only [StepEvent.inSpan, Bool.and_eq_true, decide_eq_true_eq] at inSpan ⊢
    obtain ⟨⟨forward, apart⟩, within⟩ := inSpan
    obtain ⟨first, least⟩ := nextMultiple_first fits apart
    exact ⟨⟨forward, first⟩, least.trans within⟩

end Multiples

/-! The close of an interval. -/

section Close

variable (s : State) (i : Interval)

theorem reached_iff {t n : LineTime} : reached t n = true ↔ later t n = false := by
  rw [reached, Bool.not_eq_true']

theorem State.watchInterval?_of_open {i : Interval} (active : s.scw.active = true) (isOpen : s.scw.interval = some i) :
    s.watchInterval? = some i := (if_pos active).trans isOpen

/-- The interval's end comes when its next boundary is reached in RUN. -/
theorem State.intervalDue_eq {i : Interval} (run : s.svp.station = .run) (watches : s.watchInterval? = some i) :
    s.intervalDue = reached i.nextBoundary s.tmu.lineTime := by
  rw [State.intervalDue, State.inRun, watches, decide_eq_true run, Bool.true_and]
  rfl

theorem exec_intervalBoundary {i : Interval} (run : s.svp.station = .run) (watches : s.watchInterval? = some i) :
    exec .intervalBoundary s = .next (if later i.nextBoundary s.tmu.lineTime = false then s.closeAtBoundary i else s) := by
  show Host.Outcome.next _ = _
  rw [watches]
  dsimp only
  rw [s.intervalDue_eq run watches]
  exact congrArg _ (if_congr reached_iff rfl rfl)

/-- A short interval, or one that ends at 0, is discarded and counted. -/
theorem State.closeAtBoundary_of_short (short : i.short = true ∨ i.nextBoundary = 0) : s.closeAtBoundary i = s.putScw { s.scw with
    interval := some (openInterval s.scw.config i.nextBoundary false)
    shortCount := s.scw.shortCount + 1, lastShort := some i.nextBoundary } := by
  have discards : (i.short || decide (i.nextBoundary = 0)) = true := by simpa using short
  unfold State.closeAtBoundary
  dsimp only
  rw [if_pos discards]
  rfl

/-- A full interval is evaluated. -/
theorem State.closeAtBoundary_of_full (full : i.short = false) (nonzero : i.nextBoundary ≠ 0) :
    s.closeAtBoundary i = (s.evaluateInterval i i.nextBoundary).openNext i.nextBoundary false := by
  have evaluates : ¬(i.short || decide (i.nextBoundary = 0)) = true := by
    rw [full, decide_eq_false nonzero]
    nofun
  unfold State.closeAtBoundary
  dsimp only
  rw [if_neg evaluates]

theorem State.onlyChanges_closeAtBoundary : s.onlyChanges (s.closeAtBoundary i) [.attention, .lif, .own, .scw, .spl, .freeNext] := by
  simp [State.onlyChanges, Part.all, Part.same]

end Close

/-! What an evaluation reports. -/

section Reports

variable (s : State) (e : Evaluation) (decision : ScalingState × Bool) (b : LineTime)

theorem State.evaluateScalingHold_own : s.evaluateScalingHold.own = s.own := by simp

/-- The record of an evaluation, with the announcement of a change of state. -/
def State.reported : State :=
  if decision.1 = s.scw.state then s.recorded e decision
  else ((s.recorded e decision).changeNoted e.record.index b).evaluateScalingHold

theorem State.evaluateInterval_reported (i : Interval) (b : LineTime) : s.evaluateInterval i b =
    s.reported (evaluate s.scw.config i b) (s.scw.noted (evaluate s.scw.config i b)).decide b := rfl

theorem State.reported_own_heat : (s.reported e decision b).own.heat = some (heatOf e) := by
  unfold State.reported
  split
  · rfl
  · exact congrArg OwnRow.heat (State.evaluateScalingHold_own _)

theorem State.recorded_heatQueued : ∃ q ∈ (s.recorded e decision).lif.queue, q.notice = .heat (heatOf e) := mem_queueIn_self _ rfl

theorem State.reported_heatQueued : ∃ q ∈ (s.reported e decision b).lif.queue, q.notice = .heat (heatOf e) := by
  have recorded := s.recorded_heatQueued e decision
  unfold State.reported
  split
  · exact recorded
  · refine Holds.noticeQueued (State.evaluateScalingHold_holds _) (fun _ => group_heat_ne) ?_
    exact mem_queueIn_of_group recorded (by nofun)

theorem State.reported_of_same (same : decision.1 = s.scw.state) :
    (s.reported e decision b).attention = s.attention ∧ (s.reported e decision b).spl = s.spl
      ∧ (s.reported e decision b).own.scalingChange = s.own.scalingChange := by
  rw [State.reported, if_pos same]
  exact ⟨rfl, rfl, rfl⟩

theorem State.reported_of_change (change : decision.1 ≠ s.scw.state) :
    (s.reported e decision b).isPending .scaleChange = true ∧ (s.reported e decision b).own.scalingChange = b
      ∧ ∃ q ∈ (s.reported e decision b).lif.queue, q.notice = .scale decision.1 decision.2 e.record.index b := by
  rw [State.reported, if_neg change]
  have holds := State.evaluateScalingHold_holds ((s.recorded e decision).changeNoted e.record.index b)
  refine ⟨Holds.keepsPending holds _ ((s.recorded e decision).isPending_raise _), ?_, ?_⟩
  · exact congrArg OwnRow.scalingChange (State.evaluateScalingHold_own _)
  · exact Holds.noticeQueued holds (fun _ => group_scale_ne) (mem_queueIn_self _ rfl)

end Reports

theorem ScalingConfig.lengthUs_eq (c : ScalingConfig) : c.lengthUs = 1000000 * c.lengthS := Nat.mul_comm _ _

/-- A new interval, with the boundary written out (R125). -/
def ScalingConfig.opened (c : ScalingConfig) (t : LineTime) (short : Bool) : Interval :=
  { opened := t, short := short
    nextBoundary :=
      let next := (t.toNat / (1000000 * c.lengthS) + 1) * (1000000 * c.lengthS)
      if next < 2 ^ 32 then BitVec.ofNat 32 next else 0 }

theorem openInterval_eq (c : ScalingConfig) (t : LineTime) (short : Bool) : openInterval c t short = c.opened t short := by
  rw [openInterval, c.lengthUs_eq]
  rfl

theorem State.openNext_scw (s : State) (t : LineTime) (short : Bool) {w : Scw} (before : s.scw = w) :
    (s.openNext t short).scw = { w with interval := some (openInterval w.config t short) } := by
  subst before
  rfl

section Step

variable (s : State) (e : StepEvent)

theorem State.intervalStep_of_crossed {i : Interval} (watches : s.watchInterval? = some i)
    (crosses : e.crosses i.nextBoundary s.scw.config.lengthUs = true) :
    s.intervalStep e = s.putScw { s.scw with
      interval := some (openInterval s.scw.config s.tmu.lineTime true)
      shortCount := s.scw.shortCount + 1, lastShort := some s.tmu.lineTime } := by
  unfold State.intervalStep
  rw [watches]
  exact if_pos crosses

theorem State.intervalStep_of_within {i : Interval} (watches : s.watchInterval? = some i)
    (within : ¬e.crosses i.nextBoundary s.scw.config.lengthUs = true) : s.intervalStep e = s := by
  unfold State.intervalStep
  rw [watches]
  exact if_neg within

end Step

/-- Settles O36: the boundary by the two ways an interval closes there, the step by what it crosses. -/
theorem intervalsClose : Obligations.IntervalsClose := by
  intro s i active isOpen b w opened
  have watches := s.watchInterval?_of_open active isOpen
  have opens (t : LineTime) (short : Bool) : some (openInterval w.config t short) = opened t short :=
    congrArg some (openInterval_eq w.config t short)
  refine ⟨fun run isReached => ⟨fun short => ?_, fun full nonzero => ?_⟩, fun run early => ?_, fun e => ?_⟩
  · have ran := (exec_intervalBoundary s run watches).trans (congrArg _ ((if_pos isReached).trans (s.closeAtBoundary_of_short i short)))
    refine ⟨_, ran, State.onlyChanges_putScw _ _, ?_⟩
    rw [← opens]
    rfl
  · have ran := (exec_intervalBoundary s run watches).trans (congrArg _ (if_pos isReached))
    refine ⟨_, ran, s.onlyChanges_closeAtBoundary i, ?_⟩
    rw [s.closeAtBoundary_of_full i full nonzero, s.evaluateInterval_reported i b]
    have scw := s.evaluateInterval_scw i b
    rw [s.evaluateInterval_reported i b] at scw
    intro e history decided
    change (s.reported e decided b).scw = s.scw.evaluated e decided at scw
    refine ⟨?_, s.reported_own_heat e decided b, s.reported_heatQueued e decided b, s.reported_of_same e decided b,
      s.reported_of_change e decided b⟩
    refine (State.openNext_scw _ b false scw).trans ?_
    rw [← opens]
    rfl
  · exact (exec_intervalBoundary s run watches).trans (congrArg _ (if_neg (by rw [early]; nofun)))
  · intro crossed
    have crosses : e.crosses i.nextBoundary s.scw.config.lengthUs = true ↔ crossed := by
      rw [StepEvent.crosses_iff, ScalingConfig.lengthUs_eq]
    rw [← crosses]
    refine ⟨fun passed => ?_, fun within => s.intervalStep_of_within e watches within⟩
    rw [s.intervalStep_of_crossed e watches passed]
    refine ⟨State.onlyChanges_putScw _ _, ?_⟩
    rw [← opens]
    rfl

end Sys2Proof.Machine
end

section
/-! PROOFS. The trip view and what follows it, through a notice heard (R102 to R105). -/

namespace Sys2Proof.Machine

/-! How a trip stands: the trip view, the causes raised for it, and what it has told the planner and the units. -/

structure TripStanding where
  stationNo : StationNo
  latch : Bool
  viewActive : Bool
  onset : Option Onset
  raised : StationNo → Bool
  hold : Bool
  flags : UnitNo → Bool
  onsets : UnitNo → Option UnitOnset

def State.tripStanding (s : State) : TripStanding where
  stationNo := s.stationNo
  latch := s.tsv.latch
  viewActive := s.tsv.viewActive
  onset := s.tsv.onset
  raised n := s.isPending (.peerTrip n)
  hold := s.spl.tripHold
  flags n := s.units[n].tripFlag
  onsets n := s.units[n].lastOnset

section Standing

variable {s t : State}

/-- What leaves the supervisor, the pending causes, the trip hold and the trip marks of the units leaves how the trip stands. -/
theorem State.tripStanding_congr (stationNo : t.stationNo = s.stationNo) (tsv : t.tsv = s.tsv)
    (raised : ∀ n, t.isPending (.peerTrip n) = s.isPending (.peerTrip n)) (hold : t.spl.tripHold = s.spl.tripHold)
    (units : ∀ n : UnitNo, t.units[n].tripFlag = s.units[n].tripFlag ∧ t.units[n].lastOnset = s.units[n].lastOnset) :
    t.tripStanding = s.tripStanding := by
  unfold State.tripStanding
  rw [stationNo, tsv, hold, funext raised, funext fun n => (units n).1, funext fun n => (units n).2]

theorem State.isPending_raiseIn_other (s : State) {cause other : Cause} (apart : cause ≠ other) (reason : Option ClaimFailure)
    (t : LineTime) : State.isPending { s with attention := raiseIn cause reason t s.attention } other = s.isPending other := by
  refine (any_raiseIn (fun c => decide (c = other)) cause reason t s.attention).trans ?_
  rw [decide_eq_false apart, Bool.or_false]
  rfl

/-- Any cause but PEER_TRIP leaves how the trip stands. -/
theorem State.tripStanding_raiseIn (s : State) {cause : Cause} (other : ∀ n, cause ≠ .peerTrip n) (reason : Option ClaimFailure)
    (t : LineTime) : State.tripStanding { s with attention := raiseIn cause reason t s.attention } = s.tripStanding :=
  State.tripStanding_congr rfl rfl (fun n => s.isPending_raiseIn_other (other n) reason t) rfl fun _ => ⟨rfl, rfl⟩

theorem PlanMove.lastOnset (move : PlanMove s t) (n : UnitNo) : t.units[n].lastOnset = s.units[n].lastOnset := by
  have put {m : UnitNo} {x : SwUnit} (same : x.lastOnset = s.units[m].lastOnset) :
      (s.putUnit m x).units[n].lastOnset = s.units[n].lastOnset :=
    Vector.get_congr_put SwUnit.lastOnset (fun _ => s.putUnit_get m _ x) same n
  cases move with
  | output m e _ => exact put (m := m) rfl
  | late m count late => exact put rfl
  | abort m e _ _ => exact put (s.units[m].sameBase_abort e s.now).lastOnset
  | miss m e _ _ => exact put (s.units[m].sameBase_miss e).lastOnset
  | stop m time _ => exact put (s.units[m].sameBase_stopped time).lastOnset
  | expire => rw [s.expireOnly_frame.2.2.2.2.2.2.2.2.2.2.2.2.2.2.2.2.2.1]
  | _ => rfl

theorem PlanMove.peerTrips (move : PlanMove s t) (n : StationNo) : t.isPending (.peerTrip n) = s.isPending (.peerTrip n) := by
  cases move with
  | note cause why other => exact s.isPending_raiseIn_other (other n) why _
  | expire => rw [State.isPending, s.expireOnly_frame.2.2.2.2.1]; rfl
  | _ => rfl

/-- The planner and the units leave how the trip stands. -/
theorem PlanMove.tripStanding (move : PlanMove s t) : t.tripStanding = s.tripStanding :=
  State.tripStanding_congr move.keeps.stationNo move.keeps.tsv move.peerTrips move.keeps.tripHold
    fun n => ⟨move.tripFlag n, move.lastOnset n⟩

theorem Plans.tripStanding (plans : Plans s t) : t.tripStanding = s.tripStanding :=
  keeps_of_moves (P := fun t => t.tripStanding = s.tripStanding) (fun _ _ move h => move.tripStanding.trans h) plans rfl

theorem Holds.tripStanding (holds : Holds s t) : t.tripStanding = s.tripStanding := by
  refine keeps_of_moves (P := fun t => t.tripStanding = s.tripStanding) (fun u v move h => ?_) holds rfl
  cases move with
  | plan move => exact move.tripStanding.trans h
  | hold => exact h

variable (s)

theorem State.closeSet_tripStanding (g : GroupNo) (o : OpenSet) (endTime : LineTime) (short : Bool) :
    (s.closeSet g o endTime short).tripStanding = s.tripStanding := by
  have noted (u : State) (loss : Bool) : (u.lossNoted g loss).tripStanding = u.tripStanding := by
    unfold State.lossNoted
    split
    · exact u.tripStanding_raiseIn (by nofun) _ _
    · rfl
  have marked (u : State) : (u.countMark g).tripStanding = u.tripStanding := by
    unfold State.countMark
    dsimp only
    split
    · rfl
    · split
      · exact (u.putGroup g _).tripStanding_raiseIn (by nofun) _ _
      · rfl
  have watched (u : State) (r : SetRecord) : (u.setToWatch r).tripStanding = u.tripStanding := by
    unfold State.setToWatch
    split <;> rfl
  unfold State.closeSet
  dsimp only
  rw [State.enterRing_eq, watched, foldl_keeps State.takeLatest State.tripStanding fun _ _ => rfl]
  exact (marked _).trans (noted s _)

theorem State.deliverSteps_tripStanding (e : StepEvent) (order : List Dependant) :
    (s.deliverSteps e order).tripStanding = s.tripStanding := by
  refine foldl_keeps (State.deliverStep e) State.tripStanding (fun t d => ?_) _ _
  cases d with
  | group g =>
    show (t.groupStep g e).tripStanding = t.tripStanding
    unfold State.groupStep
    split
    · rfl
    · split
      · exact t.closeSet_tripStanding g _ _ _
      · rfl
  | scalingWatch =>
    show (t.intervalStep e).tripStanding = t.tripStanding
    unfold State.intervalStep
    split
    · rfl
    · split <;> rfl
  | planner => exact Plans.tripStanding t.plannerStep_plans
  | unit n => exact Plans.tripStanding (t.unitStep_plans n e)

/-- A time heard leaves how the trip stands (R37 to R40). -/
theorem State.timeHeard_tripStanding (sender : StationNo) (time sync : LineTime) (joined : Bool) (order : List Dependant) :
    (s.timeHeard sender time sync joined order).tripStanding = s.tripStanding := by
  have advanced (d : LineTime) (distance : Nat) : (s.advanceBy d distance).tripStanding = s.tripStanding := by
    unfold State.advanceBy
    dsimp only
    split
    · exact State.tripStanding_raiseIn _ (by nofun) _ _
    · rfl
  unfold State.timeHeard
  dsimp only
  split
  · rfl
  · split
    · unfold State.joinBy
      dsimp only
      split
      · exact advanced _ _
      · exact (State.deliverSteps_tripStanding _ _ _).trans (advanced _ _)
    · split
      · exact (State.deliverSteps_tripStanding _ _ _).trans (advanced _ _)
      · unfold State.stray
        split
        · exact State.tripStanding_raiseIn _ (by nofun) _ _
        · rfl

theorem State.writeRow_tripStanding (n : StationNo) (x : PeerRow) : (s.writeRow n x).tripStanding = s.tripStanding := by
  unfold State.writeRow
  dsimp only
  split
  · exact (Holds.tripStanding (s.putPeer n x).evaluateScalingHold_holds).trans rfl
  · rfl

end Standing

/-! The onset at the units (R190). -/

section Onset

/-- A unit that an onset has reached keeps the onset's line time. -/
theorem State.shed_lastOnset (s : State) (n m : UnitNo) (time : LineTime) (rank : Nat) :
    (s.shed n time rank).units[m].lastOnset = if m = n then some { rank := rank, time := time } else s.units[m].lastOnset := by
  have marks (x : SwUnit) (onset : x.lastOnset = some ⟨rank, time⟩) : (s.putUnit n x).units[m].lastOnset =
      if m = n then some { rank := rank, time := time } else s.units[m].lastOnset := by
    rw [State.putUnit_get]
    split
    · exact onset
    · rfl
  have stops (x : SwUnit) (onset : x.lastOnset = some ⟨rank, time⟩) (active : x.state = .starting ∨ x.state = .running)
      (due : LineTime) : ((s.putUnit n x).writeStop n due).units[m].lastOnset =
        if m = n then some { rank := rank, time := time } else s.units[m].lastOnset := by
    have plans := State.writeStop_plans (s := s.putUnit n x) (by rw [State.putUnit_get, if_pos rfl]; exact active) due
    exact (congrFun (congrArg TripStanding.onsets (Plans.tripStanding plans)) m).trans (marks x onset)
  have flagged := marks (s.units[n].flagged ⟨rank, time⟩) rfl
  unfold State.shed
  dsimp only
  split
  · exact flagged
  · exact flagged
  · rename_i starting
    exact stops (s.units[n].flagged ⟨rank, time⟩) rfl (.inl starting) _
  · rename_i running
    split
    · exact stops (s.units[n].flagged ⟨rank, time⟩) rfl (.inr running) _
    · exact flagged

theorem State.tripHoldOnset_units (s : State) : s.tripHoldOnset.units = s.units := by simp

/-- After an onset every unit shows its line time (R190). -/
theorem State.tripOnset_lastOnset (s : State) (e : ViewEvent) (order : List Dependant) (n : UnitNo) :
    (s.tripOnset e order).units[n].lastOnset.map (·.time) = some e.time := by
  rw [State.tripOnset_eq]
  refine foldl_establishes (a := Dependant.unit n) (Q := fun s => s.units[n].lastOnset.map (·.time) = some e.time)
    (fun s => ?_) (fun s d h => ?_) ((mem_deliveryOrder _ _ _).mpr ?_) _
  · show (s.shed n e.time _).units[n].lastOnset.map (·.time) = some e.time
    rw [State.shed_lastOnset, if_pos rfl]
    rfl
  · cases d with
    | planner => exact (congrArg _ (congrArg (fun v : Vector SwUnit 4 => v[n].lastOnset) s.tripHoldOnset_units)).trans h
    | unit m =>
      show (s.shed m e.time _).units[n].lastOnset.map (·.time) = some e.time
      rw [State.shed_lastOnset]
      split
      · rfl
      · exact h
    | group g => exact h
    | scalingWatch => exact h
  · revert n
    decide

/-- An onset by a peer raises PEER_TRIP for it (R104). -/
theorem State.tripOnset_raises (s : State) {e : ViewEvent} {n : StationNo} (peer : e.source = .peerByTrip n ∨ e.source = .peerByTime n)
    (order : List Dependant) : (s.tripOnset e order).isPending (.peerTrip n) = true := by
  have taken : (s.onsetTaken e).isPending (.peerTrip n) = true := by
    unfold State.onsetTaken
    rcases peer with source | source <;> rw [source] <;> exact State.isPending_raise _ _
  rw [State.tripOnset_eq]
  refine foldl_holds _ (fun s : State => s.isPending (.peerTrip n) = true) (fun s d h => ?_) _ _ taken
  refine keeps_of_moves (P := fun s => s.isPending (.peerTrip n) = true) (fun s t move h => ?_) (s.deliverOnset_onsets _ _ d) h
  cases move with
  | plan move => exact move.keepsPending _ h
  | _ => exact h

/-- A release leaves the onset and the causes raised for it. -/
theorem State.tripRelease_raised (s : State) (n : StationNo) : s.tripRelease.isPending (.peerTrip n) = s.isPending (.peerTrip n) := by
  rw [State.tripRelease, foldl_keeps State.clearTripFlag (fun s : State => s.isPending (.peerTrip n)) (fun _ _ => rfl)]
  unfold State.tripHoldRelease
  exact congrFun (congrArg TripStanding.raised (Plans.tripStanding (State.replan_plans _))) n

end Onset

/-! An evaluation of the trip view between two stretches that leave how the trip stands (R103 to R105). -/

section Viewed

variable {s v t : State} {e : ViewEvent} {order : List Dependant}

theorem State.evaluateView_of_settled (settled : s.viewSettled) : s.evaluateView e order = s := if_pos settled.symm

/-- The evaluation of the trip view stands between what leaves it and what leaves it. -/
structure State.viewedAt (s v t : State) (e : ViewEvent) (order : List Dependant) : Prop where
  before : v.tripStanding = s.tripStanding
  after : t.tripStanding = (v.evaluateView e order).tripStanding

theorem State.viewedAt.active (h : s.viewedAt v t e order) : t.tsv.viewActive = v.viewCondition :=
  (congrArg TripStanding.viewActive h.after).trans (v.evaluateView_latch e order).2

theorem State.viewedAt.onset (h : s.viewedAt v t e order) (quiet : s.tsv.viewActive = false) (active : t.tsv.viewActive = true) :
    t.tsv.onset = some { time := e.time, source := e.source }
      ∧ (∀ n, e.source = .peerByTrip n ∨ e.source = .peerByTime n → t.isPending (.peerTrip n) = true) ∧ t.spl.tripHold = true
      ∧ ∀ u : UnitNo, t.units[u].tripFlag = true ∧ t.units[u].lastOnset.map (·.time) = some e.time := by
  have condition : v.viewCondition = true := h.active.symm.trans active
  have quiet : v.tsv.viewActive = false := (congrArg TripStanding.viewActive h.before).trans quiet
  have taken : v.evaluateView e order = v.tripOnset e order := by
    rw [State.evaluateView, condition, quiet]
    rfl
  have after := h.after
  rw [taken] at after
  have follows := v.tripOnset_followsView e order
  have view : (v.tripOnset e order).tsv.viewActive = true := by rw [State.tripOnset_tsv]
  refine ⟨?_, fun n peer => ?_, ?_, fun u => ⟨?_, ?_⟩⟩
  · exact (congrArg TripStanding.onset after).trans (congrArg Tsv.onset (v.tripOnset_tsv e order))
  · exact (congrFun (congrArg TripStanding.raised after) n).trans (v.tripOnset_raises peer order)
  · exact (congrArg TripStanding.hold after).trans (follows.hold.trans view)
  · exact (congrFun (congrArg TripStanding.flags after) u).trans ((follows.flags u).trans view)
  · exact (congrArg (Option.map (·.time)) (congrFun (congrArg TripStanding.onsets after) u)).trans (v.tripOnset_lastOnset e order u)

theorem State.viewedAt.without (h : s.viewedAt v t e order) (hold : s.spl.tripHold = s.tsv.viewActive)
    (flags : ∀ n : UnitNo, s.units[n].tripFlag = s.tsv.viewActive) (noOnset : s.tsv.viewActive = true ∨ t.tsv.viewActive = false) :
    t.tsv.onset = s.tsv.onset ∧ (∀ m, t.isPending (.peerTrip m) = s.isPending (.peerTrip m))
      ∧ t.spl.tripHold = t.tsv.viewActive ∧ ∀ u : UnitNo, t.units[u].tripFlag = t.tsv.viewActive := by
  have after := h.after
  rw [h.active] at noOnset
  unfold State.evaluateView at after
  split at after
  · have same := after.trans h.before
    have view : t.tsv.viewActive = s.tsv.viewActive := congrArg TripStanding.viewActive same
    refine ⟨congrArg TripStanding.onset same, congrFun (congrArg TripStanding.raised same), ?_, fun u => ?_⟩
    · exact (congrArg TripStanding.hold same).trans (hold.trans view.symm)
    · exact (congrFun (congrArg TripStanding.flags same) u).trans ((flags u).trans view.symm)
  · rename_i changed
    split at after
    · rename_i condition
      have active : v.tsv.viewActive = s.tsv.viewActive := congrArg TripStanding.viewActive h.before
      rcases noOnset with on | off
      · exact absurd (condition.trans (active.trans on).symm) changed
      · exact absurd (condition.symm.trans off) (by decide)
    · have follows := v.tripRelease_followsView
      have view : t.tsv.viewActive = v.tripRelease.tsv.viewActive := congrArg TripStanding.viewActive after
      refine ⟨?_, fun m => ?_, ?_, fun u => ?_⟩
      · exact (congrArg TripStanding.onset after).trans ((congrArg Tsv.onset v.tripRelease_tsv).trans
          (congrArg TripStanding.onset h.before))
      · exact (congrFun (congrArg TripStanding.raised after) m).trans ((v.tripRelease_raised m).trans
          (congrFun (congrArg TripStanding.raised h.before) m))
      · exact (congrArg TripStanding.hold after).trans (follows.hold.trans view.symm)
      · exact (congrFun (congrArg TripStanding.flags after) u).trans ((follows.flags u).trans view.symm)

/-- The trip view's condition, by a latch and rows. -/
theorem State.viewCondition_iff (s : State) : s.viewCondition = true ↔
    s.tsv.latch = true ∨ ∃ n : StationNo, n ≠ s.stationNo ∧ s.peers[n].tripLatched = true := by
  rw [State.viewCondition, Bool.or_eq_true, decide_eq_true_eq, State.latchedPeers_pos_iff]

end Viewed

end Sys2Proof.Machine
end

section
/-! PROOFS. The row that a notice heard writes, and the trip view after it (R14, R17 to R20, R102 to R105). -/

namespace Sys2Proof.Machine

/-- The line time at which a peer's trip is taken (R102). -/
theorem peerTripTime_eq (trip now : LineTime) :
    peerTripTime trip now = if (now - trip).toNat ≤ 1000000 then trip else now := by
  refine if_congr ?_ rfl rfl
  rw [Bool.and_eq_true, decide_eq_true_eq, decide_eq_true_eq, lateness]
  have small := (now - trip).isLt
  have signed := BitVec.toInt_eq_toNat_cond (now - trip)
  have limit : Params.tripLatenessLimit = 1000000 := rfl
  rw [limit]
  split
  · omega
  · split at signed <;> omega

/-! A notice heard, as an evaluation of the trip view between what leaves it. -/

section HeardView

variable {u : State} {n : StationNo} (p : List Byte) (order : List Dependant)

/-- What shows the trip view of a state in which it is settled. -/
theorem State.viewedAt.of_settled {t : State} {e : ViewEvent} (same : t.tripStanding = u.tripStanding) (settled : t.viewSettled) :
    u.viewedAt t t e order := ⟨same, by rw [State.evaluateView_of_settled settled]⟩

/-- The event of the trip view that a notice heard may be (R102, R104). -/
def State.heardEvent (u : State) (kind : Nat) (n : StationNo) (p : List Byte) : ViewEvent where
  time :=
    if kind = 4 ∧ (u.tmu.lineTime - BitVec.ofNat 32 (fieldNat p 0 4)).toNat ≤ 1000000 then BitVec.ofNat 32 (fieldNat p 0 4)
    else u.tmu.lineTime
  source := if kind = 4 ∨ kind = 5 then .peerByTrip n else .peerByTime n

theorem State.writeRow_latched (n m : StationNo) (x : PeerRow) :
    (u.writeRow n x).peers[m].tripLatched = if m = n then x.tripLatched else u.peers[m].tripLatched := by
  have row : (u.writeRow n x).peers[m] = if m = n then x else u.peers[m] :=
    (congrArg (fun v : Vector PeerRow 16 => v[m]) (u.writeRow_peers n x)).trans (u.putPeer_get n m x)
  rw [row]
  split <;> rfl

/-- A row that keeps its trip mark leaves the trip view settled. -/
theorem State.viewedAt.of_quiet {t : State} {e : ViewEvent} (settled : u.viewSettled) {x : PeerRow}
    (same : t.tripStanding = u.tripStanding) (rows : t.peers = u.peers.set n x) (latched : x.tripLatched = u.peers[n].tripLatched) :
    u.viewedAt t t e order := by
  refine .of_settled order same (settled.congr (congrArg TripStanding.stationNo same) (congrArg TripStanding.latch same)
    (congrArg TripStanding.viewActive same) fun m => ?_)
  have row : t.peers[m] = if m = n then x else u.peers[m] :=
    (congrArg (fun v : Vector PeerRow 16 => v[m]) rows).trans (u.putPeer_get n m x)
  rw [row]
  split
  · rename_i here
    rw [latched, here]
  · rfl

/-- The row of a TIME leads to an evaluation of the trip view that may find it changed. -/
theorem State.timeViewed_eq (settled : u.viewSettled) : u.timeViewed n p order =
    (u.writeRow n (timeRow (u.heardRow n) p)).evaluateView { time := u.now, source := .peerByTime n } order := by
  unfold State.timeViewed
  split
  · rfl
  · rename_i same
    exact (State.evaluateView_of_settled (State.writeRow_viewSettled settled (by simpa using same))).symm

theorem State.heardEvent_trip : u.heardEvent 4 n p =
    { time := peerTripTime (BitVec.ofNat 32 (fieldNat p 0 4)) u.now, source := .peerByTrip n } := by
  rw [peerTripTime_eq]
  exact congrArg (ViewEvent.mk · _) (if_congr (and_iff_right rfl) rfl rfl)

theorem State.heardEvent_clear : u.heardEvent 5 n p = { time := u.now, source := .peerByTrip n } :=
  congrArg (ViewEvent.mk · _) (if_neg fun h => absurd h.1 (by decide))

theorem State.heardEvent_time : u.heardEvent 1 n p = { time := u.now, source := .peerByTime n } :=
  congrArg (ViewEvent.mk · _) (if_neg fun h => absurd h.1 (by decide))

/-- A notice heard brings an evaluation of the trip view, on the rows that it leaves (R102). -/
theorem State.hear_viewed {kind : Nat} (foreign : n ≠ u.stationNo) (settled : u.viewSettled) (defined : 1 ≤ kind ∧ kind ≤ 7) :
    ∃ v, u.viewedAt v (u.hear kind n p order) (u.heardEvent kind n p) order
      ∧ ∀ m : StationNo, v.peers[m].tripLatched = (u.hear kind n p order).peers[m].tripLatched := by
  have row (x : PeerRow) := u.writeRow_tripStanding n x
  have station (x : PeerRow) : n ≠ (u.writeRow n x).stationNo := by
    rw [(State.writeRow_frame ..).2.1]
    exact foreign
  have latched (m : StationNo) (x y : PeerRow) (t : State) (rows : t.peers = u.peers.set n y) (same : x.tripLatched = y.tripLatched) :
      (u.writeRow n x).peers[m].tripLatched = t.peers[m].tripLatched := by
    have is : t.peers[m] = if m = n then y else u.peers[m] :=
      (congrArg (fun v : Vector PeerRow 16 => v[m]) rows).trans (u.putPeer_get n m y)
    rw [State.writeRow_latched, is, same]
    split <;> rfl
  obtain ⟨low, high⟩ := defined
  have rows (notTime : kind ≠ 1) := u.hear_peers ((kindLength?_isSome kind).mpr ⟨low, high⟩) notTime n p order
  interval_cases kind
  · -- TIME
    refine ⟨u.writeRow n (timeRow (u.heardRow n) p), ⟨row _, ?_⟩, fun m => ?_⟩
    · refine (State.timeHeard_tripStanding _ _ _ _ _ _).trans ?_
      have viewed := congrArg State.tripStanding (u.timeViewed_eq (n := n) p order settled)
      rw [State.heardEvent_time]
      show (u.timeHeld n p order).tripStanding = _
      unfold State.timeHeld
      split
      · exact (Holds.tripStanding (State.evaluateScalingHold_holds _)).trans viewed
      · exact viewed
    · rw [State.writeRow_latched, State.hear_time_peers]
      split <;> rfl
  · -- CLAIM
    exact ⟨_, .of_quiet order settled ((Plans.tripStanding (State.claimHeard_plans _ (station _))).trans (row _)) (rows nofun) rfl,
      fun _ => rfl⟩
  · -- RELEASE
    exact ⟨_, .of_quiet order settled ((Plans.tripStanding (State.releaseHeard_plans _ (station _) _)).trans (row _)) (rows nofun) rfl,
      fun _ => rfl⟩
  · -- TRIP
    let v := u.writeRow n { u.heardRow n with tripLatched := true }
    let record : PeerTrip :=
      { sender := n, time := BitVec.ofNat 32 (fieldNat p 0 4), cause := BitVec.ofNat 8 (fieldNat p 4 1), speed := fieldNat p 5 2 }
    refine ⟨v.putTsv { v.tsv with lastPeerTrip := some record }, ⟨row _, ?_⟩, fun m => latched m _ _ _ (rows nofun) rfl⟩
    rw [State.heardEvent_trip]
    rfl
  · -- CLEAR
    let v := u.writeRow n { u.heardRow n with tripLatched := false }
    let record : PeerClear := { sender := n, time := BitVec.ofNat 32 (fieldNat p 0 4) }
    refine ⟨v.putTsv { v.tsv with lastPeerClear := some record }, ⟨row _, ?_⟩, fun m => latched m _ _ _ (rows nofun) rfl⟩
    rw [State.heardEvent_clear]
    rfl
  · -- HEAT
    exact ⟨_, .of_quiet order settled (row _) (rows nofun) rfl, fun _ => rfl⟩
  · -- SCALE
    exact ⟨_, .of_quiet order settled ((Holds.tripStanding (State.evaluateScalingHold_holds _)).trans (row _)) (rows nofun) rfl,
      fun _ => rfl⟩

end HeardView

end Sys2Proof.Machine
end

section
/-! PROOFS. What a notice heard sets in the sender's row, and the trip view after it. -/

namespace Sys2Proof.Machine

section Heard

variable {s : State} {kind : Nat} {n : StationNo} {p : List Byte}

/-- The sender's row after a notice other than TIME. -/
theorem State.hear_row (defined : 1 ≤ kind ∧ kind ≤ 7) (notTime : kind ≠ 1) (u : State) (order : List Dependant) :
    (u.hear kind n p order).peers[n] = u.rowAfter kind n p :=
  (congrArg (fun v : Vector PeerRow 16 => v[n]) (u.hear_peers ((kindLength?_isSome kind).mpr defined) notTime n p order)).trans
    ((u.putPeer_get n n _).trans (if_pos rfl))

theorem State.hear_time_row (u : State) (order : List Dependant) : ∃ stray,
    (u.hear 1 n p order).peers[n] = { timeRow (u.heardRow n) p with strayCount := stray } :=
  ⟨_, (u.hear_time_peers n n p order).trans (if_pos rfl)⟩

theorem State.onlyChanges_writeRow (u : State) (x : PeerRow) : u.onlyChanges (u.writeRow n x) [.lif, .peers, .spl, .freeNext] := by
  simp [State.onlyChanges, Part.all, Part.same]

theorem State.asHeard_settled (settled : s.viewSettled) : (s.asHeard kind n p).viewSettled :=
  settled.congr rfl rfl rfl fun _ => rfl

/-- The trip view's evaluation leaves the last peer trip and the last peer clear. -/
theorem State.evaluateView_lastPeer (u : State) (e : ViewEvent) (order : List Dependant) :
    (u.evaluateView e order).tsv.lastPeerTrip = u.tsv.lastPeerTrip
      ∧ (u.evaluateView e order).tsv.lastPeerClear = u.tsv.lastPeerClear := by
  rw [State.evaluateView_tsv]
  split
  · exact ⟨rfl, rfl⟩
  · split <;> exact ⟨rfl, rfl⟩

theorem heatHeard_eq (p : List Byte) : heatHeard p =
    { intervalEnd := BitVec.ofNat 32 (fieldNat p 0 4), kilojoules := fieldNat p 4 4,
      ua := if (indexHeard (fieldNat p 12 2)).isSome then some (fieldNat p 8 4) else none,
      index := indexHeard (fieldNat p 12 2) } := by
  unfold heatHeard
  dsimp only
  cases indexHeard (fieldNat p 12 2) <;> rfl

theorem State.onlyChanges_asHeard : s.onlyChanges (s.asHeard kind n p) [.lif] :=
  State.onlyChanges_trans (State.onlyChanges_putLif s _) (State.onlyChanges_putLif _ _)

/-- A CLEAR brings no onset: what it leaves latched was latched before. -/
theorem State.active_of_clear {t : State} {order : List Dependant} (settled : s.viewSettled)
    (rows : ∀ m : StationNo, t.peers[m].tripLatched = ((s.asHeard 5 n p).hear 5 n p order).peers[m].tripLatched)
    (latch : t.tsv.latch = s.tsv.latch) (station : t.stationNo = s.stationNo) (active : t.viewCondition = true) :
    s.tsv.viewActive = true := by
  rw [settled, State.viewCondition_iff]
  rw [State.viewCondition_iff, latch, station] at active
  refine active.imp_right fun ⟨m, peer, latched⟩ => ⟨m, peer, ?_⟩
  rw [rows] at latched
  have row : ((s.asHeard 5 n p).hear 5 n p order).peers[m] =
      if m = n then (s.asHeard 5 n p).rowAfter 5 n p else (s.asHeard 5 n p).peers[m] :=
    (congrArg (fun v : Vector PeerRow 16 => v[m]) ((s.asHeard 5 n p).hear_peers (kind := 5) (by decide) (by decide) n p order)).trans
      ((s.asHeard 5 n p).putPeer_get n m _)
  rw [row] at latched
  split at latched
  · cases latched
  · exact latched

end Heard

/-- Settles O17: the row by the kind of notice; the trip view by its evaluation between what leaves it. -/
theorem heardNoticeWritesTheRow : Obligations.HeardNoticeWritesTheRow := by
  intro s kind n p order hears
  have defined := hears.defined
  have row (notTime : kind ≠ 1) := (s.asHeard kind n p).hear_row (n := n) (p := p) defined notTime order
  refine ⟨_, hears.run order, ?_⟩
  intro old new index
  have indexOf (i : Nat) : indexHeard i = index i := rfl
  refine ⟨fun time => ?_, fun claim => ?_, fun trip => ?_, fun clear => ?_, fun heat => ?_, fun scale => ?_, fun agrees => ?_⟩
  · subst time
    obtain ⟨stray, row⟩ := (s.asHeard 1 n p).hear_time_row (n := n) (p := p) order
    intro flags status code
    refine ⟨?_, ?_, ?_, ?_, ?_, ?_, ?_, ?_, ?_, ?_⟩
    · exact (congrArg PeerRow.joined row).trans (bit_eq_testBit _ _)
    · refine (congrArg PeerRow.roles row).trans ?_
      show rolesOf flags = _
      simp only [rolesOf, bit_eq_testBit]
    · exact (congrArg PeerRow.tripLatched row).trans (bit_eq_testBit _ _)
    · exact (congrArg PeerRow.scaling row).trans rfl
    · exact (congrArg PeerRow.acknowledged row).trans (bit_eq_testBit _ _)
    · exact (congrArg PeerRow.activeUnits row).trans rfl
    · refine (congrArg PeerRow.beaconCode row).trans ?_
      show beaconHeard (bits _ 0 4) = _
      rw [beaconHeard, bits, Nat.pow_zero, Nat.div_one]
      rfl
    · exact (congrArg PeerRow.scalingChange row).trans rfl
    · exact (congrArg PeerRow.lastIndex row).trans rfl
    · exact (congrArg PeerRow.heat row).trans rfl
  · rcases claim with rfl | rfl
    · exact row nofun
    · exact row nofun
  · subst trip
    exact ⟨congrArg PeerRow.tripLatched (row nofun), (State.evaluateView_lastPeer _ _ _).1⟩
  · subst clear
    exact ⟨congrArg PeerRow.tripLatched (row nofun), (State.evaluateView_lastPeer _ _ _).2⟩
  · subst heat
    refine ⟨(congrArg PeerRow.lastIndex (row nofun)).trans rfl, (congrArg PeerRow.heat (row nofun)).trans ?_, ?_⟩
    · exact congrArg some (heatHeard_eq p)
    · exact State.onlyChanges_trans (State.onlyChanges_mono State.onlyChanges_asHeard (by decide)) (State.onlyChanges_writeRow _ _)
  · subst scale
    intro code
    refine ⟨(congrArg PeerRow.scaling (row nofun)).trans ?_, (congrArg PeerRow.acknowledged (row nofun)).trans (bit_eq_testBit _ _),
      (congrArg PeerRow.lastIndex (row nofun)).trans rfl, (congrArg PeerRow.scalingChange (row nofun)).trans rfl,
      (congrArg PeerRow.tripLatched (row nofun)).trans rfl⟩
    show scalingOf (code / 2 ^ 0 % 2 ^ 2) = _
    rw [Nat.pow_zero, Nat.div_one]
    rfl
  · obtain ⟨settled, follows⟩ := tripViewAgrees_iff.mp agrees
    obtain ⟨v, viewed, rows⟩ := (s.asHeard kind n p).hear_viewed (n := n) p order hears.other (State.asHeard_settled settled) defined
    have station : v.stationNo = s.stationNo := congrArg TripStanding.stationNo viewed.before
    have latch : v.tsv.latch = s.tsv.latch := congrArg TripStanding.latch viewed.before
    intro tripTime time
    refine ⟨?_, fun quiet active => ?_, fun noOnset => viewed.without follows.hold follows.flags noOnset⟩
    · rw [viewed.active, State.viewCondition_iff, latch, station]
      exact or_congr_right (exists_congr fun m => by rw [rows])
    · obtain ⟨onset, raised, hold, units⟩ := viewed.onset quiet active
      have notClear : kind ≠ 5 := by
        rintro rfl
        have before := State.active_of_clear settled rows latch station (viewed.active.symm.trans active)
        exact Bool.false_ne_true (quiet.symm.trans before)
      have source : ((s.asHeard kind n p).heardEvent kind n p).source = if kind = 4 then .peerByTrip n else .peerByTime n :=
        if_congr (or_iff_left notClear) rfl rfl
      refine ⟨onset.trans ?_, raised n ?_, hold, units⟩
      · rw [source]
        rfl
      · rw [source]
        split
        · exact .inl rfl
        · exact .inr rfl

end Sys2Proof.Machine
end

section
/-! PROOFS. Start Pump: the payload of a pump request, the search for a start, and the slot that is taken and planned (R153,
R155, R156). -/

namespace Sys2Proof.Machine

/-! The payload of Start Pump and Stop Pump: a unit and an optional line time (11.3). -/

def pumpPayload (u : UnitNo) (time : Option LineTime) : List Byte :=
  BitVec.ofNat 8 u.val :: (match time with | some t => bytesOf 4 t.toNat | none => [])

section Payload

variable (u : UnitNo) (time : Option LineTime)

theorem length_pumpPayload : (pumpPayload u time).length ∈ [1, 5] := by
  cases time with
  | none => exact List.mem_cons_self
  | some t => exact List.mem_cons_of_mem _ (List.mem_singleton_self _)

theorem length_pumpPayload_le : (pumpPayload u time).length ≤ 64 := by
  cases time with
  | none => exact Nat.le_of_ble_eq_true rfl
  | some t => exact Nat.le_of_ble_eq_true rfl

theorem ranged_pumpPayload (s : State) (act : UnitNo → Answer) :
    s.ranged (index? 4 (fieldNat (pumpPayload u time) 0 1)) act = act u := by
  unfold pumpPayload
  rw [fieldNat_cons_zero, index?_byte u (by omega)]
  rfl

theorem timeField?_pumpPayload : timeField? (pumpPayload u time) = time := by
  cases time with
  | none => rfl
  | some t =>
    refine (if_pos rfl).trans (congrArg some ?_)
    show BitVec.ofNat 32 (fieldNat (BitVec.ofNat 8 u.val :: bytesOf 4 t.toNat) 1 4) = t
    rw [fieldNat_cons_succ, fieldNat_bytesOf, Nat.mod_eq_of_lt (by have := t.isLt; omega), BitVec.ofNat_toNat,
      BitVec.setWidth_eq]

/-- A pump request of another unit is refused. -/
theorem ranged_pumpPayload_of_large (s : State) {b : Byte} (large : 4 ≤ b.toNat) (rest : List Byte) (act : UnitNo → Answer) :
    s.ranged (index? 4 (fieldNat (b :: rest) 0 1)) act = s.refuse .range := by
  rw [fieldNat_cons_zero, index?_of_le large]
  rfl

end Payload

/-! The search for a start (R155, R156). -/

section Search

variable (s : State) (length : Nat)

theorem State.candidateFree_iff (start : LineTime) : s.candidateFree length start = true ↔
    (∀ i, i < length → ∀ w ∈ s.spl.windows, w.activeAt (start + BitVec.ofNat 32 (1024 * i)) = false)
      ∧ ∀ c ∈ s.spl.claims, windowsOverlap start length c.start c.length = false := by
  rw [State.candidateFree, Bool.and_eq_true, Bool.not_eq_true', Bool.not_eq_true', and_comm, ← Bool.not_eq_true,
    windowBlocked_iff, List.any_eq_false]
  refine and_congr ⟨fun h i less w mem => ?_, fun h ⟨w, mem, i, less, active⟩ => ?_⟩ (forall₂_congr fun c _ => by rw [Bool.not_eq_true])
  · exact Bool.eq_false_iff.mpr fun active => h ⟨w, mem, i, less, active⟩
  · exact Bool.false_ne_true ((h i less w mem).symm.trans active)

/-- A candidate start, granules after the search start (R156). -/
def candidate (base : LineTime) (n : Nat) : LineTime := base + BitVec.ofNat 32 (1024 * n)

theorem candidate_succ (base : LineTime) (n : Nat) : candidate (base + 1024) n = candidate base (n + 1) := by
  rw [candidate, candidate, Nat.mul_add, Nat.add_comm (1024 * n), BitVec.ofNat_add, ← BitVec.add_assoc]
  rfl

/-- The search finds the first free candidate. -/
theorem State.findStart_first {n count : Nat} {base : LineTime} (within : n < count)
    (free : s.candidateFree length (candidate base n) = true)
    (before : ∀ m, m < n → s.candidateFree length (candidate base m) = false) :
    s.findStart length count base = some (candidate base n) := by
  have here : candidate base 0 = base := by rw [candidate, Nat.mul_zero, BitVec.add_zero]
  induction n generalizing count base with
  | zero =>
    obtain ⟨count, rfl⟩ := Nat.exists_eq_succ_of_ne_zero (Nat.ne_of_gt within)
    rw [here] at free
    rw [State.findStart, if_pos free, here]
  | succ n ih =>
    obtain ⟨count, rfl⟩ := Nat.exists_eq_succ_of_ne_zero (Nat.ne_of_gt (Nat.zero_lt_of_lt within))
    have taken := before 0 (Nat.succ_pos n)
    rw [here] at taken
    rw [State.findStart, if_neg (by rw [taken]; nofun), ih (Nat.lt_of_succ_lt_succ within), candidate_succ]
    · rw [candidate_succ]
      exact free
    · intro m less
      rw [candidate_succ]
      exact before _ (Nat.succ_lt_succ less)
    · rw [candidate, Nat.mul_zero, BitVec.add_zero]

/-- The search finds nothing when no candidate is free. -/
theorem State.findStart_none {count : Nat} {base : LineTime}
    (taken : ∀ m, m < count → s.candidateFree length (candidate base m) = false) : s.findStart length count base = none := by
  induction count generalizing base with
  | zero => rfl
  | succ count ih =>
    have first := taken 0 (Nat.succ_pos count)
    rw [candidate, Nat.mul_zero, BitVec.add_zero] at first
    rw [State.findStart, if_neg (by rw [first]; nofun)]
    refine ih fun m less => ?_
    rw [candidate_succ]
    exact taken _ (Nat.succ_lt_succ less)

/-- The search start, written out (R155). -/
def State.searchFrom (s : State) (earliest : Option LineTime) : LineTime :=
  let base := s.tmu.lineTime + BitVec.ofNat 32 (1024 * ((s.config.settleMs * 1000 + 10000 + 1023) / 1024))
  let from_ := match earliest with
    | some e => if later e base then e else base
    | none => base
  BitVec.ofNat 32 ((from_.toNat + 1023) / 1024 * 1024)

theorem ceilDiv_granules (x : Nat) : ceilDiv x 1024 = (x + 1023) / 1024 := by
  rw [ceilDiv, Nat.add_sub_assoc (by decide)]

theorem State.searchStart_eq (earliest : Option LineTime) : s.searchStart earliest = s.searchFrom earliest := by
  unfold State.searchStart State.planLead State.searchFrom
  rw [ceilDiv_granules]
  dsimp only
  generalize (s.config.settleMs * 1000 + 10000 + 1023) / 1024 = lead
  rw [roundUpGranule, ceilDiv_granules]
  rfl

/-- An earliest time that has been reached is absent (R153, R155). -/
theorem State.openEarliest_eq (earliest : Option LineTime) :
    s.openEarliest earliest = earliest.filter fun t => later t s.tmu.lineTime := by
  rw [State.openEarliest]
  refine congrArg (fun f => Option.filter f earliest) (funext fun t => ?_)
  rw [reached, Bool.not_not]
  rfl

theorem State.openEarliest_twice (earliest : Option LineTime) : s.openEarliest (s.openEarliest earliest) = s.openEarliest earliest := by
  rw [State.openEarliest, State.openEarliest, Option.filter_filter]
  simp only [Bool.and_self]

end Search

end Sys2Proof.Machine
end

section
/-! PROOFS. Start Pump takes a slot and plans it (R153, R155, R156). -/

namespace Sys2Proof.Machine

section Take

variable (s : State) (k : SlotNo) (u : UnitNo) (time : Option LineTime)

/-- The slot that Start Pump takes for a unit, in a state. -/
def State.takenSlot (state : SlotState) : Slot :=
  { state := state, unit := u, earliest := s.openEarliest time, withdrawals := 0 }

/-- The reason with which a unit's new slot waits under a hold (R166, R167). -/
def State.holdReason? : Option WaitReason :=
  if s.spl.tripHold then some .tripHold
  else if s.spl.scalingHold && s.units[u].config.scalingBound then some .scalingHold
  else none

/-- Where the search finds a start for a unit's new slot (R156). -/
def State.startFound? : Option LineTime :=
  s.findStart s.units[u].config.windowLength Params.candidateCount (s.searchFrom (s.openEarliest time))

/-- What the taken slot becomes (R153, R156). -/
theorem State.takeSlot_eq : s.takeSlot k u time =
    match s.holdReason? u, s.startFound? u time with
    | some reason, _ => s.putSlot k (s.takenSlot u time (.waiting reason))
    | none, none => s.putSlot k (s.takenSlot u time (.waiting .noWindow))
    | none, some start => (s.putSlot k (s.takenSlot u time (.waiting .noWindow))).announce k u start s.units[u].config.windowLength := by
  let w := s.putSlot k (s.takenSlot u time (.waiting .noWindow))
  have got : w.spl.slots[k] = s.takenSlot u time (.waiting .noWindow) := (s.putSlot_get k k _).trans (if_pos rfl)
  have unit : w.spl.slots[k].unit = u := congrArg Slot.unit got
  have config : w.units[w.spl.slots[k].unit].config = s.units[u].config := congrArg (fun n : UnitNo => s.units[n].config) unit
  have waits : (w.slotState k).isWaiting = true := by
    rw [State.slotState, got]
    rfl
  have again : w.openEarliest (s.openEarliest time) = s.openEarliest time := s.openEarliest_twice time
  have opened : w.openSlot k = s.takenSlot u time (.waiting .noWindow) := by
    rw [State.openSlot, got]
    exact congrArg (Slot.mk _ _ · _) again
  have found : w.planned? k = s.startFound? u time := by
    rw [State.planned?, State.planLength, opened, config, State.searchStart_eq, State.startFound?]
    have start : w.searchFrom (s.takenSlot u time (.waiting .noWindow)).earliest = s.searchFrom (s.openEarliest time) := rfl
    rw [start]
    generalize Params.candidateCount = count
    exact State.findStart_congr (s := s) (t := w) rfl rfl _ _ _
  have waitReason : w.planWait? k = match s.holdReason? u, s.startFound? u time with
      | some reason, _ => some reason
      | none, none => some .noWindow
      | none, some _ => none := by
    rw [State.planWait?, found, config]
    show (if s.spl.tripHold then some WaitReason.tripHold
      else if s.spl.scalingHold && s.units[u].config.scalingBound then some .scalingHold
      else if s.startFound? u time = none then some .noWindow else none) = _
    unfold State.holdReason?
    split
    · rfl
    · split
      · rfl
      · cases s.startFound? u time <;> rfl
  show w.planSlot k = _
  rw [w.planSlot_of_waiting k waits, waitReason, found, opened, State.planLength, config, unit]
  cases s.holdReason? u with
  | some reason => exact State.putSlot_twice ..
  | none => cases s.startFound? u time with
    | none => exact State.putSlot_twice ..
    | some start => exact congrArg (State.announce · k u start _) (State.putSlot_twice ..)

end Take

/-! The refusals of Start Pump in their order (R153). -/

section Refusals

variable {s : State} {u : UnitNo} {time : Option LineTime}

theorem State.tooFarAhead_iff : s.tooFarAhead time = true ↔
    ∃ t, time = some t ∧ later t s.tmu.lineTime = true ∧ 600000000 < (t - s.tmu.lineTime).toNat := by
  rw [State.tooFarAhead, Option.any_eq_true]
  refine exists_congr fun t => and_congr_right fun _ => ?_
  rw [laterBeyond, Bool.and_eq_true, decide_eq_true_eq]
  rfl

theorem State.servingSlot?_isSome_iff :
    (s.servingSlot? u).isSome = true ↔ ∃ k : SlotNo, s.slotState k ≠ .free ∧ s.spl.slots[k].unit = u := by
  rw [State.servingSlot?, List.find?_isSome]
  refine exists_congr fun k => ?_
  rw [Bool.and_eq_true, bne_iff_ne, decide_eq_true_eq]
  exact and_iff_right (mem_slotNumbers k)

theorem State.freeSlot?_eq_none (taken₀ : s.slotState 0 ≠ .free) (taken₁ : s.slotState 1 ≠ .free) : s.freeSlot? = none := by
  refine List.find?_eq_none.mpr fun k _ free => ?_
  have free : s.slotState k = .free := of_decide_eq_true free
  match k with
  | 0 => exact taken₀ free
  | 1 => exact taken₁ free

/-- The lower FREE slot is the one that is taken. -/
theorem State.freeSlot?_eq_some {k : SlotNo} (free : s.slotState k = .free) (lower : k = 1 → s.slotState 0 ≠ .free) :
    s.freeSlot? = some k := by
  match k with
  | 0 => exact List.find?_cons_of_pos (decide_eq_true free)
  | 1 => exact (List.find?_cons_of_neg (by simpa using lower rfl)).trans (List.find?_cons_of_pos (decide_eq_true free))

/-- A unit of some definition is named, and the earliest time does not lie too far ahead. -/
theorem State.startRange_eq : (!s.units[u].configured || s.tooFarAhead time) = true ↔
    ¬(∃ d : DefNo, s.units[u].defs[d].enabled = true)
      ∨ ∃ t, time = some t ∧ later t s.tmu.lineTime = true ∧ 600000000 < (t - s.tmu.lineTime).toNat := by
  rw [Bool.or_eq_true, Bool.not_eq_true', ← Bool.not_eq_true, SwUnit.configured_iff, State.tooFarAhead_iff]

theorem State.startBusy_eq : (s.units[u].active || (s.servingSlot? u).isSome) = true ↔
    s.units[u].state ≠ .idle ∨ ∃ k : SlotNo, s.slotState k ≠ .free ∧ s.spl.slots[k].unit = u := by
  rw [Bool.or_eq_true, State.servingSlot?_isSome_iff, SwUnit.active, bne_iff_ne]

theorem State.startPump_of_range (bad : (!s.units[u].configured || s.tooFarAhead time) = true) :
    s.startPump u time = s.refuse .range := by
  rw [State.startPump, State.startRefusal?, if_pos bad]

theorem State.startPump_of_busy (good : ¬(!s.units[u].configured || s.tooFarAhead time) = true)
    (busy : (s.units[u].active || (s.servingSlot? u).isSome) = true) : s.startPump u time = s.refuse .busy := by
  rw [State.startPump, State.startRefusal?, if_neg good, if_pos busy]

theorem State.startPump_of_noSlot (good : ¬(!s.units[u].configured || s.tooFarAhead time) = true)
    (idle : ¬(s.units[u].active || (s.servingSlot? u).isSome) = true) (none_ : s.freeSlot? = none) :
    s.startPump u time = s.refuse .noSlot := by
  rw [State.startPump, State.startRefusal?, if_neg good, if_neg idle, none_]
  rfl

theorem State.startPump_of_free {k : SlotNo} (good : ¬(!s.units[u].configured || s.tooFarAhead time) = true)
    (idle : ¬(s.units[u].active || (s.servingSlot? u).isSome) = true) (free : s.freeSlot? = some k) :
    s.startPump u time = (s.takeSlot k u time).succeed ((s.takeSlot k u time).startReply k) := by
  rw [State.startPump, State.startRefusal?, if_neg good, if_neg idle, free]
  rfl

end Refusals

end Sys2Proof.Machine
end

section
/-! PROOFS. Start Pump, from its request to its reply (R153, R155, R156). -/

namespace Sys2Proof.Machine

section Taken

variable (s : State) (k : SlotNo)

theorem State.onlyChanges_putSlot (x : Slot) : s.onlyChanges (s.putSlot k x) [.spl] := by
  simp [State.onlyChanges, Part.all, Part.same]

theorem State.onlyChanges_announce (u : UnitNo) (start : LineTime) (length : Nat) :
    s.onlyChanges (s.announce k u start length) [.lif, .spl] := by
  simp [State.onlyChanges, Part.all, Part.same, State.announce]

theorem State.putSlot_elsewhere (x : Slot) : sameElsewhere k s.spl.slots (s.putSlot k x).spl.slots :=
  fun j other => (s.putSlot_get k j x).trans (if_neg other)

theorem State.startReply_of_waiting {reason : WaitReason} (waits : s.slotState k = .waiting reason) :
    s.startReply k = bytesOf 4 k.val ++ [1, BitVec.ofNat 8 reason.code] := by
  rw [State.startReply, State.entryBytes, waits]
  cases reason <;> rfl

theorem State.startReply_of_announced {c : Claim} (announced : s.slotState k = .announced) (own : s.ownEntry? k = some c) :
    s.startReply k = bytesOf 4 k.val ++ [2] ++ word4 c.start ++ bytesOf 4 c.length := by
  rw [State.startReply, State.entryBytes, announced, own]
  show bytesOf 4 k.val ++ [2] ++ [] ++ (word4 c.start ++ bytesOf 4 c.length) = _
  rw [List.append_nil, List.append_assoc, List.append_assoc, List.append_assoc]

/-- A claim that enters the table is found where no other fits. -/
theorem find?_insertClaim {test : Claim → Bool} {c : Claim} (fits : test c = true) {cs : List Claim}
    (others : ∀ d ∈ cs, test d = false) : (insertClaim c cs).find? test = some c := by
  induction cs with
  | nil => exact List.find?_cons_of_pos fits
  | cons d ds ih =>
    rw [insertClaim]
    split
    · exact List.find?_cons_of_pos fits
    · rw [List.find?_cons_of_neg (by rw [others d List.mem_cons_self]; nofun)]
      exact ih fun x mem => others x (List.mem_cons_of_mem _ mem)

/-- The entry with which a start is announced (R156). -/
def State.announcedEntry (u : UnitNo) (start : LineTime) (length : Nat) : Claim :=
  { station := s.stationNo, slot := SlotNo.inTag k, unit := u, start := start, length := length, firm := false }

/-- A slot without entries owns the claim that it announces. -/
theorem State.ownEntry?_announce (u : UnitNo) (start : LineTime) (length : Nat)
    (none_ : ∀ c ∈ s.spl.claims, s.isOwnEntry k c = false) :
    (s.announce k u start length).ownEntry? k = some (s.announcedEntry k u start length) := by
  have own : s.isOwnEntry k (s.announcedEntry k u start length) = true := by
    rw [State.isOwnEntry, Bool.and_eq_true]
    exact ⟨decide_eq_true rfl, decide_eq_true rfl⟩
  exact find?_insertClaim own none_

end Taken

theorem State.putSlot_announce_slots (s : State) (k : SlotNo) (x : Slot) (u : UnitNo) (start : LineTime) (length : Nat) :
    ((s.putSlot k x).announce k u start length).spl.slots = s.spl.slots.set k { x with state := .announced } := by
  have got : (s.putSlot k x).spl.slots[k] = x := (s.putSlot_get k k x).trans (if_pos rfl)
  rw [State.announce_spl, got]
  exact congrArg (fun t : State => t.spl.slots) (State.putSlot_twice s k x { x with state := .announced })

section Request

variable {s : State} {k : SlotNo} {u : UnitNo} {time : Option LineTime} (admits : s.admitsRun)

include admits

/-- Start Pump refused. -/
theorem State.startPump_refused {status : Status}
    (refused : (s.received 0x20 (pumpPayload u time)).startPump u time = (s.received 0x20 (pumpPayload u time)).refuse status) :
    s.replies (.startPump (pumpPayload u time)) 0x20 (pumpPayload u time) { status := status, payload := [] } := by
  refine State.replies_of_run admits (length_pumpPayload u time) (length_pumpPayload_le u time) rfl ?_
  rw [ranged_pumpPayload, timeField?_pumpPayload, refused]
  rfl

/-- Start Pump that takes a slot, by the state that it leaves behind the reply. -/
theorem State.startPump_takes {t : State} {parts : List Part}
    (takes : (s.received 0x20 (pumpPayload u time)).startPump u time = t.succeed (t.startReply k))
    (port : t.svp = (s.received 0x20 (pumpPayload u time)).svp)
    (only : (s.received 0x20 (pumpPayload u time)).onlyChanges t parts) :
    ∃ v, exec (.startPump (pumpPayload u time)) s = .next v ∧ v = t.putReply (success (t.startReply k))
      ∧ v.svp = s.answered 0x20 (pumpPayload u time) (success (t.startReply k)) ∧ s.onlyChanges v (.svp :: parts) := by
  refine State.runs_of_answer admits (length_pumpPayload u time) (length_pumpPayload_le u time) rfl ?_ port only
  rw [ranged_pumpPayload, timeField?_pumpPayload, takes]
  rfl

/-- Start Pump whose slot waits. -/
theorem State.startPump_waits {reason : WaitReason}
    (takes : (s.received 0x20 (pumpPayload u time)).startPump u time =
      ((s.received 0x20 (pumpPayload u time)).takeSlot k u time).succeed
        (((s.received 0x20 (pumpPayload u time)).takeSlot k u time).startReply k))
    (waits : (s.received 0x20 (pumpPayload u time)).takeSlot k u time =
      (s.received 0x20 (pumpPayload u time)).putSlot k ((s.received 0x20 (pumpPayload u time)).takenSlot u time (.waiting reason))) :
    ∃ t, exec (.startPump (pumpPayload u time)) s = .next t ∧ s.onlyChanges t [.svp, .spl]
      ∧ sameElsewhere k s.spl.slots t.spl.slots ∧ t.spl.claims = s.spl.claims
      ∧ t.spl.slots[k] = s.takenSlot u time (.waiting reason)
      ∧ t.svp = s.answered 0x20 (pumpPayload u time) (success (bytesOf 4 k.val ++ [1, BitVec.ofNat 8 reason.code])) := by
  rw [waits] at takes
  obtain ⟨t, ran, is, svp, only⟩ := State.startPump_takes admits takes rfl (State.onlyChanges_putSlot _ k _)
  have slot : ((s.received 0x20 (pumpPayload u time)).putSlot k
      ((s.received 0x20 (pumpPayload u time)).takenSlot u time (.waiting reason))).spl.slots[k] = s.takenSlot u time (.waiting reason) :=
    ((s.received 0x20 (pumpPayload u time)).putSlot_get k k _).trans (if_pos rfl)
  rw [State.startReply_of_waiting _ k (congrArg Slot.state slot)] at svp
  subst is
  exact ⟨_, ran, only, State.putSlot_elsewhere _ k _, rfl, slot, svp⟩

/-- Start Pump whose slot is announced. -/
theorem State.startPump_announces {start : LineTime} {length : Nat}
    (takes : (s.received 0x20 (pumpPayload u time)).startPump u time =
      ((s.received 0x20 (pumpPayload u time)).takeSlot k u time).succeed
        (((s.received 0x20 (pumpPayload u time)).takeSlot k u time).startReply k))
    (announces : (s.received 0x20 (pumpPayload u time)).takeSlot k u time =
      ((s.received 0x20 (pumpPayload u time)).putSlot k
        ((s.received 0x20 (pumpPayload u time)).takenSlot u time (.waiting .noWindow))).announce k u start length)
    (none_ : ∀ c ∈ s.spl.claims, s.isOwnEntry k c = false) :
    ∃ t, exec (.startPump (pumpPayload u time)) s = .next t ∧ s.onlyChanges t [.svp, .lif, .spl]
      ∧ sameElsewhere k s.spl.slots t.spl.slots ∧ t.spl.slots[k] = s.takenSlot u time .announced
      ∧ t.spl.claims = insertClaim (s.announcedEntry k u start length) s.spl.claims
      ∧ t.ownEntry? k = some (s.announcedEntry k u start length)
      ∧ (∃ e ∈ t.lif.queue, e.notice = .claim k u start length false)
      ∧ t.svp = s.answered 0x20 (pumpPayload u time)
          (success (bytesOf 4 k.val ++ [2] ++ bytesOf 4 start.toNat ++ bytesOf 4 length)) := by
  rw [announces] at takes
  let r := s.received 0x20 (pumpPayload u time)
  let x := r.takenSlot u time (.waiting .noWindow)
  have only : r.onlyChanges ((r.putSlot k x).announce k u start length) [.lif, .spl] :=
    State.onlyChanges_trans (State.onlyChanges_mono (r.onlyChanges_putSlot k x) (by decide)) ((r.putSlot k x).onlyChanges_announce k u start length)
  have svpSame : ((r.putSlot k x).announce k u start length).svp = r.svp := rfl
  obtain ⟨t, ran, is, svp, only⟩ := State.startPump_takes admits takes svpSame only
  have slots : ((r.putSlot k x).announce k u start length).spl.slots = s.spl.slots.set k { x with state := .announced } :=
    r.putSlot_announce_slots k x u start length
  have slot : ((r.putSlot k x).announce k u start length).spl.slots[k] = { x with state := .announced } :=
    (congrArg (fun v : Vector Slot 2 => v[k]) slots).trans ((s.putSlot_get k k _).trans (if_pos rfl))
  have own : ((r.putSlot k x).announce k u start length).ownEntry? k = some (s.announcedEntry k u start length) :=
    (r.putSlot k x).ownEntry?_announce k u start length none_
  rw [State.startReply_of_announced _ k (congrArg Slot.state slot) own] at svp
  subst is
  refine ⟨_, ran, only, ?_, slot, rfl, own, mem_queueIn_self _ rfl, svp⟩
  intro j other
  exact (congrArg (fun v : Vector Slot 2 => v[j]) slots).trans ((s.putSlot_get k j _).trans (if_neg other))

end Request

/-- Settles O38: the refusals in their order, then the plan of the slot that is taken. -/
theorem startPumpTakesAndPlans : Obligations.StartPumpTakesAndPlans := by
  intro s u time admits p
  have isPayload : p = pumpPayload u time := rfl
  clear_value p
  subst isPayload
  intro now ahead configured busy refused
  let r := s.received 0x20 (pumpPayload u time)
  have rangeIff : (!r.units[u].configured || r.tooFarAhead time) = true ↔ ¬configured ∨ ahead := State.startRange_eq
  have busyIff : (r.units[u].active || (r.servingSlot? u).isSome) = true ↔ busy := State.startBusy_eq
  have inRange (good : configured) (near : ¬ahead) : ¬(!r.units[u].configured || r.tooFarAhead time) = true :=
    fun bad => (rangeIff.mp bad).elim (· good) near
  refine ⟨fun b large => ?_, fun bad => ?_, fun good near isBusy => ?_, fun good near idle taken₀ taken₁ => ?_,
    fun k good near idle free lower => ?_⟩
  · have length : (b :: (pumpPayload u time).tail).length ∈ [1, 5] := length_pumpPayload u time
    have fits : (b :: (pumpPayload u time).tail).length ≤ 64 := length_pumpPayload_le u time
    refine State.replies_of_run admits length fits rfl ?_
    rw [ranged_pumpPayload_of_large _ large]
    rfl
  · exact State.startPump_refused admits (State.startPump_of_range (rangeIff.mpr bad))
  · exact State.startPump_refused admits (State.startPump_of_busy (inRange good near) (busyIff.mpr isBusy))
  · exact State.startPump_refused admits (State.startPump_of_noSlot (inRange good near) (mt busyIff.mp idle)
      (State.freeSlot?_eq_none taken₀ taken₁))
  · have takes : r.startPump u time = (r.takeSlot k u time).succeed ((r.takeSlot k u time).startReply k) :=
      State.startPump_of_free (inRange good near) (mt busyIff.mp idle) (State.freeSlot?_eq_some free lower)
    have becomes := r.takeSlot_eq k u time
    intro open_ lead base from_ start length isFree held waits
    have isOpen : s.openEarliest time = open_ := s.openEarliest_eq time
    have waiting (reason : WaitReason) (is : r.takeSlot k u time = r.putSlot k (r.takenSlot u time (.waiting reason))) :
        waits reason (BitVec.ofNat 8 reason.code) := by
      have := State.startPump_waits admits takes is
      rw [State.takenSlot, isOpen] at this
      exact this
    have freeIff (n : Nat) : r.candidateFree length (candidate (s.searchFrom (s.openEarliest time)) n) = true ↔ isFree n := by
      rw [isOpen]
      exact r.candidateFree_iff length (start n)
    have noHold (unheld : ¬held) : r.holdReason? u = none := by
      refine (if_neg fun trip => unheld (.inl trip)).trans (if_neg fun scaling => unheld (.inr ?_))
      exact Bool.and_eq_true_iff.mp scaling
    refine ⟨fun trip => waiting .tripHold ?_, fun noTrip isHeld => waiting .scalingHold ?_, fun unheld none_ => waiting .noWindow ?_,
      fun n unheld within free first none_ => ?_⟩
    · have reason : r.holdReason? u = some .tripHold := if_pos trip
      rw [becomes, reason]
    · have reason : r.holdReason? u = some .scalingHold := by
        refine (if_neg ?_).trans (if_pos ?_)
        · exact Bool.eq_false_iff.mp noTrip
        · exact Bool.and_eq_true_iff.mpr (isHeld.resolve_left (Bool.eq_false_iff.mp noTrip))
      rw [becomes, reason]
    · have found : r.startFound? u time = none :=
        State.findStart_none r length fun m less => Bool.eq_false_iff.mpr fun free => none_ m (Nat.le_of_lt_succ less) ((freeIff m).mp free)
      rw [becomes, noHold unheld, found]
    · have found : r.startFound? u time = some (start n) := by
        refine (State.findStart_first r length (n := n) (Nat.lt_succ_of_le within) ((freeIff n).mpr free) fun m less => ?_).trans ?_
        · exact Bool.eq_false_iff.mpr fun free => first m less ((freeIff m).mp free)
        · rw [isOpen]
          rfl
      have announces : r.takeSlot k u time =
          (r.putSlot k (r.takenSlot u time (.waiting .noWindow))).announce k u (start n) length := by
        rw [becomes, noHold unheld, found] <;> rfl
      have := State.startPump_announces admits takes announces none_
      rw [State.takenSlot, isOpen] at this
      exact this

end Sys2Proof.Machine
end

section
/-! PROOFS. The taking of edge queue entries: which are taken, in which order, and what a unit and its outputs are after
them (9.3, 9.6). -/

namespace Sys2Proof.Machine

/-! The entries that are taken, in queue order. -/

section Order

/-- The first entry that meets a test is the first of those that meet it. -/
theorem filter_of_find? {test : Edge → Bool} {q : List Edge} {e : Edge} (found : q.find? test = some e) :
    q.filter test = e :: (q.erase e).filter test ∧ (q.erase e).filter (!test ·) = q.filter (!test ·) := by
  induction q with
  | nil => cases found
  | cons d ds ih =>
    cases meets : test d with
    | true =>
      rw [List.find?_cons_of_pos meets] at found
      obtain rfl := Option.some.inj found
      rw [List.erase_cons_head, List.filter_cons_of_pos meets, List.filter_cons_of_neg (by simp [meets])]
      exact ⟨rfl, rfl⟩
    | false =>
      rw [List.find?_cons_of_neg (by simp [meets])] at found
      have apart : ¬(d == e) = true := by
        intro same
        rw [eq_of_beq same, List.find?_some found] at meets
        cases meets
      obtain ⟨taken, stays⟩ := ih found
      rw [List.erase_cons_tail apart, List.filter_cons_of_neg (by simp [meets]), List.filter_cons_of_neg (by simp [meets]),
        List.filter_cons_of_pos (by simp [meets]), List.filter_cons_of_pos (by simp [meets]), stays]
      exact ⟨taken, rfl⟩

/-- The entries that are taken are those that meet the test, in queue order, while each leaves the queue as it is taken and
the others stay; a rule that follows another as long as something holds is that other. -/
theorem State.takeEdges_eq {n : UnitNo} {test : LineTime → Bool} {rule other : State → Edge → State} (Q : State → Prop)
    (step : ∀ (s : State) (e : Edge), Q s → e ∈ s.units[n].queue → test e.due = true →
      rule s e = other s e ∧ Q (other s e) ∧ (other s e).units[n].queue = s.units[n].queue.erase e)
    {fuel : Nat} {s : State} (enough : (s.units[n].queue.filter fun e => test e.due).length ≤ fuel) (start : Q s) :
    s.takeEdges n test rule fuel = (s.units[n].queue.filter fun e => test e.due).foldl other s := by
  induction fuel generalizing s with
  | zero =>
    rw [List.length_eq_zero_iff.mp (Nat.le_zero.mp enough)]
    rfl
  | succ fuel ih =>
    rw [State.takeEdges]
    cases found : s.units[n].queue.find? fun e => test e.due with
    | none =>
      have nothing : s.units[n].queue.filter (fun e => test e.due) = [] :=
        List.filter_eq_nil_iff.mpr (List.find?_eq_none.mp found)
      rw [nothing]
      rfl
    | some e =>
      obtain ⟨taken, -⟩ := filter_of_find? found
      obtain ⟨same, keeps, queue⟩ :=
        step s e start (List.mem_of_find?_eq_some found) (List.find?_some (p := fun e : Edge => test e.due) found)
      rw [taken] at enough ⊢
      rw [List.foldl_cons, ← queue]
      show (rule s e).takeEdges n test rule fuel = _
      rw [same]
      refine ih ?_ keeps
      rw [queue]
      exact Nat.le_of_succ_le_succ enough

theorem State.edgeFuel_enough (s : State) (n : UnitNo) (test : Edge → Bool) :
    (s.units[n].queue.filter test).length ≤ s.edgeFuel n :=
  (List.length_filter_le _ _).trans (Nat.le_add_right _ _)

/-- When no entry meets the test, none is taken. -/
theorem State.takeEdges_of_none {n : UnitNo} {test : LineTime → Bool} {rule : State → Edge → State} {fuel : Nat} {s : State}
    (none_ : ∀ e ∈ s.units[n].queue, test e.due = false) : s.takeEdges n test rule fuel = s := by
  cases fuel with
  | zero => rfl
  | succ fuel =>
    have nothing : s.units[n].queue.find? (fun e => test e.due) = none :=
      List.find?_eq_none.mpr fun e mem => by rw [none_ e mem]; nofun
    rw [State.takeEdges, nothing]

end Order

/-! A unit as its entries are taken. -/

section Unit

/-- A unit that a late entry marks (R186, R187). -/
def SwUnit.marked (u : SwUnit) : Option LateEdge → SwUnit
  | none => u
  | some late => { u with lateCount := u.lateCount + 1, lastLate := some late }

/-- A unit after an entry has been taken that may be late (R179, R181, R186). -/
def SwUnit.takes (mark : Edge → Option LateEdge) (u : SwUnit) (e : Edge) : SwUnit := (u.marked (mark e)).afterOutput e

variable {mark : Edge → Option LateEdge}

theorem SwUnit.takes_queue (u : SwUnit) (e : Edge) : (u.takes mark e).queue = u.queue.erase e := by
  unfold SwUnit.takes
  cases mark e <;> rfl

theorem SwUnit.takes_state (u : SwUnit) (e : Edge) : (u.takes mark e).state =
    if (u.queue.erase e).isEmpty then (match e.origin with | .start => .running | .stop => .idle) else u.state := by
  unfold SwUnit.takes
  cases mark e <;> rfl

/-- The first start entry sets the edge mark (R165, R181). -/
theorem SwUnit.takes_edgeMark (u : SwUnit) (e : Edge) : (u.takes mark e).edgeMark = (u.edgeMark || e.origin = .start) := by
  have marks : (u.takes mark e).edgeMark = (u.edgeMark || (e.origin = .start && !u.edgeMark)) := by
    unfold SwUnit.takes
    cases mark e <;> rfl
  rw [marks]
  cases u.edgeMark
  · rw [Bool.not_false, Bool.and_true]
  · rfl

/-- What the taking of entries leaves of a unit. -/
structure SwUnit.sameTaken (u v : SwUnit) : Prop where
  config : v.config = u.config
  defs : v.defs = u.defs
  startNumber : v.startNumber = u.startNumber
  written : v.written = u.written
  discarded : v.discarded = u.discarded
  tripFlag : v.tripFlag = u.tripFlag
  lastOnset : v.lastOnset = u.lastOnset

theorem SwUnit.sameTaken.trans {u v w : SwUnit} (h : u.sameTaken v) (g : v.sameTaken w) : u.sameTaken w :=
  ⟨g.config.trans h.config, g.defs.trans h.defs, g.startNumber.trans h.startNumber, g.written.trans h.written,
    g.discarded.trans h.discarded, g.tripFlag.trans h.tripFlag, g.lastOnset.trans h.lastOnset⟩

theorem SwUnit.sameTaken_takes (u : SwUnit) (e : Edge) : u.sameTaken (u.takes mark e) := by
  unfold SwUnit.takes
  cases mark e <;> exact ⟨rfl, rfl, rfl, rfl, rfl, rfl, rfl⟩

/-- A unit after the entries that meet a test have been taken in queue order. -/
structure SwUnit.takenBy (u v : SwUnit) (mark : Edge → Option LateEdge) (test : Edge → Bool) : Prop where
  same : u.sameTaken v
  queue : v.queue = u.queue.filter (!test ·)
  outputCount : v.outputCount = u.outputCount + BitVec.ofNat 16 (u.queue.filter test).length
  edgeMark : v.edgeMark = (u.edgeMark || (u.queue.filter test).any (·.origin = .start))
  lateCount : v.lateCount = u.lateCount + BitVec.ofNat 16 ((u.queue.filter test).filter fun e => (mark e).isSome).length
  state : ∀ last, (u.queue.filter test).getLast? = some last →
    v.state = if u.queue.filter (!test ·) = [] then (match last.origin with | .start => .running | .stop => .idle) else u.state
  idle : u.queue.filter test = [] → v.state = u.state

theorem ofNat_length_cons (n : Nat) (c : Counter16) : c + 1 + BitVec.ofNat 16 n = c + BitVec.ofNat 16 (n + 1) := by
  rw [Nat.add_comm n, BitVec.ofNat_add, BitVec.add_assoc]
  rfl

theorem SwUnit.takenBy_foldl (test : Edge → Bool) {taken : List Edge} (u : SwUnit) (is : u.queue.filter test = taken) :
    u.takenBy (taken.foldl (SwUnit.takes mark) u) mark test := by
  induction taken generalizing u with
  | nil =>
    have stays : u.queue.filter (!test ·) = u.queue := List.filter_eq_self.mpr fun e mem => by
      simpa using List.filter_eq_nil_iff.mp is e mem
    refine ⟨⟨rfl, rfl, rfl, rfl, rfl, rfl, rfl⟩, stays.symm, ?_, ?_, ?_, ?_, fun _ => rfl⟩ <;> rw [is]
    · exact (BitVec.add_zero _).symm
    · exact (Bool.or_false _).symm
    · exact (BitVec.add_zero _).symm
    · nofun
  | cons e es ih =>
    have found : u.queue.find? test = some e := by rw [← List.head?_filter, is]; rfl
    obtain ⟨first, stays⟩ := filter_of_find? found
    have rest : (u.takes mark e).queue.filter test = es := by
      rw [SwUnit.takes_queue]
      exact (List.cons.inj (first.symm.trans is)).2
    have after := ih (u.takes mark e) rest
    have staysAfter : (u.takes mark e).queue.filter (!test ·) = u.queue.filter (!test ·) := by rw [SwUnit.takes_queue, stays]
    rw [List.foldl_cons]
    refine ⟨(u.sameTaken_takes e).trans after.same, after.queue.trans staysAfter, ?_, ?_, ?_, fun last isLast => ?_, fun none_ => ?_⟩
    · rw [after.outputCount, rest, is, List.length_cons, ← ofNat_length_cons]
      unfold SwUnit.takes
      cases mark e <;> rfl
    · rw [after.edgeMark, rest, is, List.any_cons, ← Bool.or_assoc, SwUnit.takes_edgeMark]
    · rw [after.lateCount, rest, is]
      unfold SwUnit.takes
      cases marked : mark e with
      | none => rw [List.filter_cons_of_neg (by simp [marked])]; rfl
      | some late =>
        rw [List.filter_cons_of_pos (by simp [marked]), List.length_cons, ← ofNat_length_cons]
        rfl
    · rw [is] at isLast
      cases es with
      | nil =>
        obtain rfl : e = last := Option.some.inj isLast
        have remains : u.queue.erase e = u.queue.filter (!test ·) := by
          have := u.takes_queue (mark := mark) e
          rw [← stays, ← this]
          refine (List.filter_eq_self.mpr fun d mem => ?_).symm
          simpa using List.filter_eq_nil_iff.mp rest d mem
        rw [after.idle rest, SwUnit.takes_state, remains]
        exact if_congr List.isEmpty_iff rfl rfl
      | cons x xs =>
        have busy : ¬(u.queue.erase e).isEmpty = true := by
          intro empty
          rw [SwUnit.takes_queue, List.isEmpty_iff.mp empty] at rest
          cases rest
        rw [after.state last (by rw [rest]; exact isLast), staysAfter, SwUnit.takes_state, if_neg busy]
    · rw [is] at none_
      cases none_

end Unit

end Sys2Proof.Machine
end

section
/-! PROOFS. The state as entries are taken from an edge queue: outputs, marks, causes and the report of the first start edge
(R179, R181, R186, R187). -/

namespace Sys2Proof.Machine

section Taking

/-- The mark of a reached entry: how late it is, beyond 0 (R186, R187). -/
def State.lateMark (s : State) (n : UnitNo) (e : Edge) : Option LateEdge :=
  if lateness e.due s.tmu.lineTime ≤ 0 then none
  else some { edge := e, lateness := lateness e.due s.tmu.lineTime
              lateStop := (s.units[n].config.catchUp : Int) < lateness e.due s.tmu.lineTime }

/-- A late entry is noted at its unit. -/
def State.lateNoted (s : State) (n : UnitNo) : Option LateEdge → State
  | none => s
  | some late => (s.putUnit n (s.units[n].marked (some late))).raise (.edgeLate n)

/-- An entry is taken: noted when it is late, and output. -/
def State.taking (mark : Edge → Option LateEdge) (n : UnitNo) (s : State) (e : Edge) : State := (s.lateNoted n (mark e)).outputEdge n e

/-- An entry that the catch-up rule outputs: a stop entry, or one late within the window (R186, R187). -/
def State.outputs? (s : State) (n : UnitNo) (e : Edge) : Prop :=
  e.origin = .start → lateness e.due s.tmu.lineTime ≤ s.units[n].config.catchUp

theorem State.catchUp_of_outputs {s : State} {n : UnitNo} {e : Edge} (outputs : s.outputs? n e) :
    s.catchUp n e = s.taking (s.lateMark n) n e := by
  unfold State.catchUp State.taking State.lateMark
  dsimp only
  by_cases due : lateness e.due s.tmu.lineTime ≤ 0
  · rw [if_pos due]
    exact if_pos due
  · rw [if_neg due]
    refine (if_neg due).trans ?_
    by_cases within : lateness e.due s.tmu.lineTime ≤ s.units[n].config.catchUp
    · refine (if_pos within).trans ?_
      rw [decide_eq_false (not_lt.mpr within)]
      rfl
    · refine (if_neg within).trans ?_
      rw [decide_eq_true (not_le.mp within)]
      cases origin : e.origin with
      | start => exact absurd (outputs origin) within
      | stop => rfl

variable {mark : Edge → Option LateEdge} {n : UnitNo} {s : State}

theorem State.outputEdge_units (e : Edge) : (s.outputEdge n e).units = s.units.set n (s.units[n].afterOutput e) := by
  unfold State.outputEdge
  dsimp only
  split
  · exact (State.report_frame _ n _).2.2.2.2.2.2.2.2.2.2.2.2.2.2.2.2.1
  · rfl

theorem State.outputEdge_outputs (e : Edge) : (s.outputEdge n e).outputs = s.outputs.set e.output e.high := by
  unfold State.outputEdge
  dsimp only
  split
  · exact (State.report_frame _ n _).2.2.2.2.2.2.2.2.2.2.2.2.2.2.2.2.2
  · rfl

theorem State.lateNoted_units (late : Option LateEdge) : (s.lateNoted n late).units = s.units.set n (s.units[n].marked late) := by
  cases late with
  | none => exact (Vector.set_getElem_self _).symm
  | some late => rfl

theorem State.taking_units (e : Edge) : (s.taking mark n e).units = s.units.set n (s.units[n].takes mark e) := by
  have noted := s.lateNoted_units (n := n) (mark e)
  have got : (s.lateNoted n (mark e)).units[n] = s.units[n].marked (mark e) :=
    (congrArg (fun v : Vector SwUnit 4 => v[n]) noted).trans ((s.putUnit_get n n _).trans (if_pos rfl))
  rw [State.taking, State.outputEdge_units, got, noted, Vector.set_set]
  rfl

theorem State.taking_unit (e : Edge) : (s.taking mark n e).units[n] = s.units[n].takes mark e :=
  (congrArg (fun v : Vector SwUnit 4 => v[n]) (s.taking_units e)).trans ((s.putUnit_get n n _).trans (if_pos rfl))

theorem State.taking_outputs (e : Edge) : (s.taking mark n e).outputs = s.outputs.set e.output e.high := by
  rw [State.taking, State.outputEdge_outputs]
  cases mark e <;> rfl

/-- What the report of the first start edge makes of the planner: a FIRM slot that serves the unit is STARTED (R165). -/
def Spl.firstEdge (p : Spl) (n : UnitNo) : Spl :=
  match slotNumbers.find? fun k => p.slots[k].state != .free && p.slots[k].unit = n with
  | none => p
  | some k => if p.slots[k].state = .firm then { p with slots := p.slots.set k { p.slots[k] with state := .started } } else p

theorem State.report_firstEdge (u : State) (n : UnitNo) : u.report n .firstEdge = u.putSpl (u.spl.firstEdge n) := by
  unfold State.report Spl.firstEdge
  show (match u.servingSlot? n with | none => u | some k => _) = u.putSpl (match u.servingSlot? n with | none => u.spl | some k => _)
  cases u.servingSlot? n with
  | none => rfl
  | some k =>
    dsimp only
    show _ = u.putSpl (if u.slotState k = .firm then _ else _)
    cases state : u.slotState k with
    | firm => rfl
    | _ => rfl

theorem State.outputEdge_eq (e : Edge) : s.outputEdge n e =
    if e.origin = .start ∧ s.units[n].edgeMark = false then
      ((s.putOutput e.output e.high).putUnit n (s.units[n].afterOutput e)).putSpl (s.spl.firstEdge n)
    else (s.putOutput e.output e.high).putUnit n (s.units[n].afterOutput e) := by
  unfold State.outputEdge
  dsimp only
  have first : (decide (e.origin = .start) && !s.units[n].edgeMark) = true ↔ e.origin = .start ∧ s.units[n].edgeMark = false := by
    rw [Bool.and_eq_true, decide_eq_true_eq, Bool.not_eq_true']
  rw [State.report_firstEdge]
  exact if_congr first rfl rfl

theorem State.outputEdge_spl (e : Edge) : (s.outputEdge n e).spl =
    if e.origin = .start ∧ s.units[n].edgeMark = false then s.spl.firstEdge n else s.spl := by
  rw [State.outputEdge_eq]
  split <;> rfl

theorem State.lateNoted_mark (late : Option LateEdge) :
    (s.lateNoted n late).spl = s.spl ∧ (s.lateNoted n late).units[n].edgeMark = s.units[n].edgeMark := by
  refine ⟨by cases late <;> rfl, ?_⟩
  have got : (s.lateNoted n late).units[n] = s.units[n].marked late :=
    (congrArg (fun v : Vector SwUnit 4 => v[n]) (s.lateNoted_units late)).trans ((s.putUnit_get n n _).trans (if_pos rfl))
  rw [got]
  cases late <;> rfl

theorem State.taking_spl (e : Edge) : (s.taking mark n e).spl =
    if e.origin = .start ∧ s.units[n].edgeMark = false then s.spl.firstEdge n else s.spl := by
  obtain ⟨spl, edgeMark⟩ := s.lateNoted_mark (n := n) (mark e)
  rw [State.taking, State.outputEdge_spl, spl, edgeMark]

theorem State.onlyChanges_taking (e : Edge) : s.onlyChanges (s.taking mark n e) [.attention, .spl, .units, .outputs] := by
  have output (u : State) : u.onlyChanges (u.outputEdge n e) [.attention, .spl, .units, .outputs] := by
    rw [State.outputEdge_eq]
    split <;> simp [State.onlyChanges, Part.all, Part.same]
  unfold State.taking
  cases mark e with
  | none => exact output s
  | some late =>
    refine State.onlyChanges_trans ?_ (output _)
    simp [State.onlyChanges, Part.all, Part.same, State.lateNoted]

theorem State.taking_attention_of_none (e : Edge) (onTime : mark e = none) : (s.taking mark n e).attention = s.attention := by
  rw [State.taking, onTime]
  exact (s.outputEdge_frame n e).2.2.2.2.1

theorem State.taking_keepsPending (e : Edge) : s.keepsPending (s.taking mark n e) := by
  have output (u : State) : u.keepsPending (u.outputEdge n e) := State.keepsPending_of_attention (u.outputEdge_frame n e).2.2.2.2.1
  unfold State.taking
  cases mark e with
  | none => exact output s
  | some late =>
    have noted : s.keepsPending (s.lateNoted n (some late)) :=
      (s.putUnit n (s.units[n].marked (some late))).keepsPending_raiseIn (.edgeLate n) none _
    exact State.keepsPending_trans noted (output (s.lateNoted n (some late)))

theorem State.taking_raises {e : Edge} {late : LateEdge} (isLate : mark e = some late) :
    (s.taking mark n e).isPending (.edgeLate n) = true := by
  rw [State.taking, isLate, State.isPending, (State.outputEdge_frame _ n e).2.2.2.2.1]
  exact State.isPending_raise _ _

end Taking

/-! The entries that are taken, all together. -/

section All

variable {mark : Edge → Option LateEdge} {n : UnitNo}

/-- The levels that entries give to the outputs, in their order (R179). -/
def edgeLevels (es : List Edge) (outputs : Vector Bool 8) : Vector Bool 8 := es.foldl (fun v d => v.set d.output d.high) outputs

variable (es : List Edge) (s : State)

theorem State.takings_units : (es.foldl (State.taking mark n) s).units = s.units.set n (es.foldl (SwUnit.takes mark) s.units[n]) := by
  induction es generalizing s with
  | nil => exact (Vector.set_getElem_self _).symm
  | cons e es ih =>
    rw [List.foldl_cons, ih, State.taking_unit, State.taking_units, Vector.set_set]
    rfl

theorem State.takings_outputs : (es.foldl (State.taking mark n) s).outputs = edgeLevels es s.outputs := by
  induction es generalizing s with
  | nil => rfl
  | cons e es ih => rw [List.foldl_cons, ih, State.taking_outputs]; rfl

theorem State.onlyChanges_takings : s.onlyChanges (es.foldl (State.taking mark n) s) [.attention, .spl, .units, .outputs] :=
  foldl_holds (State.taking mark n) (fun t => s.onlyChanges t [.attention, .spl, .units, .outputs])
    (fun t e h => State.onlyChanges_trans h (t.onlyChanges_taking e)) es s (State.onlyChanges_refl s _)

theorem State.takings_attention (onTime : ∀ e ∈ es, mark e = none) : (es.foldl (State.taking mark n) s).attention = s.attention := by
  induction es generalizing s with
  | nil => rfl
  | cons e es ih =>
    rw [List.foldl_cons, ih _ fun d mem => onTime d (List.mem_cons_of_mem _ mem)]
    exact s.taking_attention_of_none e (onTime e List.mem_cons_self)

theorem State.takings_keepsPending : s.keepsPending (es.foldl (State.taking mark n) s) :=
  foldl_holds (State.taking mark n) (fun t => s.keepsPending t) (fun t e h => State.keepsPending_trans h (t.taking_keepsPending e))
    es s fun _ pending => pending

theorem State.takings_raise {e : Edge} {late : LateEdge} (mem : e ∈ es) (isLate : mark e = some late) :
    (es.foldl (State.taking mark n) s).isPending (.edgeLate n) = true :=
  foldl_establishes (f := State.taking mark n) (Q := fun t => t.isPending (.edgeLate n) = true) (fun t => t.taking_raises isLate)
    (fun t d h => t.taking_keepsPending d _ h) mem s

/-- At most one of the entries reports the first start edge. -/
theorem State.takings_spl : (es.foldl (State.taking mark n) s).spl =
    if es.any (·.origin = .start) = true ∧ s.units[n].edgeMark = false then s.spl.firstEdge n else s.spl := by
  induction es generalizing s with
  | nil => rfl
  | cons e es ih =>
    rw [List.foldl_cons, ih, State.taking_unit, State.taking_spl, SwUnit.takes_edgeMark, List.any_cons]
    cases origin : e.origin <;> cases edgeMark : s.units[n].edgeMark <;> simp

end All

end Sys2Proof.Machine
end

section
/-! PROOFS. The reached entries of a unit, and the stop that a unit writes (R179, R182, R186, R187). -/

namespace Sys2Proof.Machine

/-! The outputs after entries (R179). -/

/-- Each output shows the last entry that names it. -/
theorem edgeLevels_get (es : List Edge) (outputs : Vector Bool 8) (o : OutputNo) : (edgeLevels es outputs)[o] =
    match (es.filter fun d => d.output = o).getLast? with
    | some d => d.high
    | none => outputs[o] := by
  induction es using List.reverseRecOn with
  | nil => rfl
  | append_singleton es e ih =>
    have step : edgeLevels (es ++ [e]) outputs = (edgeLevels es outputs).set e.output e.high := by
      rw [edgeLevels, List.foldl_concat]
      rfl
    rw [step, List.filter_append]
    by_cases here : e.output = o
    · subst here
      rw [List.filter_cons_of_pos (by simp), List.filter_nil, List.getLast?_concat]
      exact Vector.getElem_set_self _
    · rw [List.filter_cons_of_neg (by simpa using here), List.filter_nil, List.append_nil, ← ih]
      exact Vector.getElem_set_ne _ _ fun same => here (Fin.ext same)

/-! The catch-up rule on entries that it outputs. -/

section Caught

variable {s : State} {n : UnitNo} {test : LineTime → Bool}

theorem State.lateMark_congr {s t : State} (tmu : t.tmu = s.tmu) (config : t.units[n].config = s.units[n].config) :
    t.lateMark n = s.lateMark n := by
  funext e
  rw [State.lateMark, State.lateMark, tmu, config]

/-- The catch-up rule outputs the entries that meet a test, when it outputs each. -/
theorem State.catchUps_eq {fuel : Nat} (enough : (s.units[n].queue.filter fun e => test e.due).length ≤ fuel)
    (outputs : ∀ e ∈ s.units[n].queue, test e.due = true → s.outputs? n e) :
    s.takeEdges n test (fun s e => s.catchUp n e) fuel =
      (s.units[n].queue.filter fun e => test e.due).foldl (State.taking (s.lateMark n) n) s := by
  refine State.takeEdges_eq
    (fun t => t.tmu = s.tmu ∧ t.units[n].config = s.units[n].config ∧ ∀ e ∈ t.units[n].queue, e ∈ s.units[n].queue)
    (fun t e h mem meets => ?_) enough ⟨rfl, rfl, fun _ mem => mem⟩
  obtain ⟨tmu, config, within⟩ := h
  have outputs : t.outputs? n e := by
    unfold State.outputs?
    rw [tmu, config]
    exact outputs e (within e mem) meets
  have unit := t.taking_unit (mark := s.lateMark n) (n := n) e
  have queue : (t.taking (s.lateMark n) n e).units[n].queue = t.units[n].queue.erase e := by
    rw [unit, SwUnit.takes_queue]
  refine ⟨?_, ⟨?_, ?_, fun d mem => ?_⟩, queue⟩
  · rw [State.catchUp_of_outputs outputs, State.lateMark_congr tmu config]
  · exact ((t.onlyChanges_taking e).2 .tmu (by decide)).trans tmu
  · rw [unit]
    exact (SwUnit.sameTaken_takes _ e).config.trans config
  · rw [queue] at mem
    exact within d (List.mem_of_mem_erase mem)

/-- The unit after the catch-up rule has output the entries that meet a test. -/
theorem State.catchUps_unit (mark : Edge → Option LateEdge) :
    s.units[n].takenBy ((s.units[n].queue.filter fun e => test e.due).foldl (State.taking mark n) s).units[n] mark
      fun e => test e.due := by
  have unit : ((s.units[n].queue.filter fun e => test e.due).foldl (State.taking mark n) s).units[n] =
      (s.units[n].queue.filter fun e => test e.due).foldl (SwUnit.takes mark) s.units[n] :=
    (congrArg (fun v : Vector SwUnit 4 => v[n]) (State.takings_units _ s)).trans ((s.putUnit_get n n _).trans (if_pos rfl))
  rw [unit]
  exact SwUnit.takenBy_foldl _ _ rfl

end Caught

/-! The stop that a unit writes (R182). -/

section Stop

/-- What an entry shows outside: its output, its level and its due time. -/
def Edge.shown (e : Edge) : OutputNo × Bool × LineTime := (e.output, e.high, e.due)

/-- The stop entries of a unit's stop at a stop time, as they show outside (R174, R182). -/
def SwUnit.stopEdges (u : SwUnit) (stop : LineTime) : List (OutputNo × Bool × LineTime) :=
  (u.defsOf .stop).map fun d => (u.defs[d].output, u.defs[d].high, stop + BitVec.ofNat 32 (u.cumulativeOffset d))

/-- A unit that has written a stop. -/
structure SwUnit.stopsTo (u v : SwUnit) (stop : LineTime) : Prop where
  queue : (v.queue.map Edge.shown).Perm (u.stopEdges stop)
  stops : ∀ e ∈ v.queue, e.origin = .stop ∧ e.startNumber = u.startNumber
  state : v.state = .stopping
  discarded : v.discarded = u.discarded + BitVec.ofNat 16 u.queue.length
  written : v.written = u.written + BitVec.ofNat 16 (u.stopEdges stop).length
  outputCount : v.outputCount = u.outputCount
  edgeMark : v.edgeMark = u.edgeMark

/-- A unit in STARTING or RUNNING holds start entries only (9.4). -/
theorem SwUnit.sound.holdsStarts {u : SwUnit} (sound : u.sound) (active : u.state = .starting ∨ u.state = .running) :
    ∀ e ∈ u.queue, e.origin = .start := by
  rcases active with starting | running
  · exact sound.starting starting
  · rw [sound.running running]
    nofun

theorem SwUnit.stopsTo_stopped {u : SwUnit} (starts : ∀ e ∈ u.queue, e.origin = .start) (stop : LineTime) :
    u.stopsTo (u.stopped stop) stop := by
  have cleared : (u.discardWhere fun e => e.origin = .start).queue = [] :=
    List.filter_eq_nil_iff.mpr fun e mem => by simp [starts e mem]
  have writes := (u.discardWhere fun e => e.origin = .start).writes_writeEdges .stop stop
  have whole : u.queue.filter (fun e => e.origin = .start) = u.queue := List.filter_eq_self.mpr fun e mem => by simpa using starts e mem
  refine ⟨?_, fun e mem => ?_, rfl, ?_, ?_, writes.same.outputCount, writes.same.edgeMark⟩
  · have images := writes.queue.map fun i => (i.1, i.2.1, i.2.2.1)
    rw [cleared, List.map_map, List.map_nil, List.append_nil, SwUnit.images, List.map_map] at images
    exact images
  · rcases writes.mem mem with ⟨d, old, -⟩ | new
    · rw [cleared] at old
      cases old
    · exact new
  · refine writes.same.discarded.trans ?_
    show u.discarded + BitVec.ofNat 16 (u.queue.filter fun e => e.origin = .start).length = _
    rw [whole]
  · refine writes.written.trans ?_
    rw [SwUnit.stopEdges, List.length_map]
    rfl

/-- The entries of a list that show what meets a test. -/
theorem map_shown_filter (test : OutputNo × Bool × LineTime → Bool) (es : List Edge) :
    (es.filter fun e => test e.shown).map Edge.shown = (es.map Edge.shown).filter test := by
  rw [List.filter_map]
  rfl

variable {s : State} {n : UnitNo} {stop : LineTime}

/-- The state in which a unit has written its stop and reported it, before the reached entries are output (R182). -/
def State.stopWritten (s : State) (n : UnitNo) (stop : LineTime) : State :=
  if s.units[n].state = .starting && !s.units[n].edgeMark then (s.putUnit n (s.units[n].stopped stop)).report n .stopped
  else s.putUnit n (s.units[n].stopped stop)

theorem State.stopWritten_units : (s.stopWritten n stop).units = s.units.set n (s.units[n].stopped stop) := by
  unfold State.stopWritten
  split
  · exact (State.report_frame _ n _).2.2.2.2.2.2.2.2.2.2.2.2.2.2.2.2.1
  · rfl

theorem State.stopWritten_unit : (s.stopWritten n stop).units[n] = s.units[n].stopped stop :=
  (congrArg (fun v : Vector SwUnit 4 => v[n]) State.stopWritten_units).trans ((s.putUnit_get n n _).trans (if_pos rfl))

theorem State.onlyChanges_stopWritten : s.onlyChanges (s.stopWritten n stop) [.lif, .spl, .units, .freeNext] := by
  unfold State.stopWritten
  split <;> simp [State.onlyChanges, Part.all, Part.same]

/-- A unit that has written a stop holds stop entries only (R182). -/
theorem SwUnit.stopped_stops (u : SwUnit) (stop : LineTime) : ∀ e ∈ (u.stopped stop).queue, e.origin = .stop := by
  intro e mem
  rcases ((u.discardWhere fun e => e.origin = .start).writes_writeEdges .stop stop).mem mem with ⟨d, old, same, -⟩ | ⟨new, -⟩
  · obtain ⟨-, kept⟩ := List.mem_filter.mp old
    rw [← same]
    cases origin : d.origin with
    | start => simp [origin] at kept
    | stop => rfl
  · exact new

/-- A stop is written, and the entries already reached are output. -/
theorem State.writeStop_takes : s.writeStop n stop =
      ((s.units[n].stopped stop).queue.filter fun e => reached e.due s.tmu.lineTime).foldl
        (State.taking ((s.stopWritten n stop).lateMark n) n) (s.stopWritten n stop) := by
  have unit := s.stopWritten_unit (n := n) (stop := stop)
  have now : (s.stopWritten n stop).now = s.tmu.lineTime :=
    congrArg Tmu.lineTime (State.onlyChanges_stopWritten.2 .tmu (by decide))
  have taken := State.catchUps_eq (s := s.stopWritten n stop) (n := n) (test := fun due => reached due (s.stopWritten n stop).now)
    (State.edgeFuel_enough _ n _) fun e mem _ start => by
      rw [unit] at mem
      rw [s.units[n].stopped_stops stop e mem] at start
      cases start
  rw [unit, now] at taken
  exact (by rw [← now]; rfl : s.writeStop n stop = _).trans taken

end Stop

end Sys2Proof.Machine
end

section
/-! PROOFS. A stop, as it shows in the unit and its outputs (R179, R182). -/

namespace Sys2Proof.Machine

section Stop

variable {s : State} {n : UnitNo} {stop : LineTime}

/-- The unit after its stop has been written and the reached entries output. -/
theorem State.writeStop_unit :
    (s.units[n].stopped stop).takenBy (s.writeStop n stop).units[n] ((s.stopWritten n stop).lateMark n)
      fun e => reached e.due s.tmu.lineTime := by
  have unit := s.stopWritten_unit (n := n) (stop := stop)
  have taken := State.catchUps_unit (s := s.stopWritten n stop) (n := n) (test := fun due => reached due s.tmu.lineTime)
    ((s.stopWritten n stop).lateMark n)
  rw [unit] at taken
  rw [State.writeStop_takes]
  exact taken

theorem State.writeStop_elsewhere : sameElsewhere n s.units (s.writeStop n stop).units := by
  intro m other
  rw [State.writeStop_takes, State.takings_units]
  refine ((s.stopWritten n stop).putUnit_get n m _).trans ((if_neg other).trans ?_)
  exact (congrArg (fun v : Vector SwUnit 4 => v[m]) State.stopWritten_units).trans ((s.putUnit_get n m _).trans (if_neg other))

theorem State.writeStop_outputs : (s.writeStop n stop).outputs =
      edgeLevels ((s.units[n].stopped stop).queue.filter fun e => reached e.due s.tmu.lineTime) s.outputs := by
  rw [State.writeStop_takes, State.takings_outputs]
  exact congrArg _ (State.onlyChanges_stopWritten.2 .outputs (by decide))

/-- A stopping unit becomes IDLE as its last entry is taken (R181). -/
theorem SwUnit.takenBy.state_of_stop {x v : SwUnit} {mark : Edge → Option LateEdge} {test : Edge → Bool} (taken : x.takenBy v mark test)
    (stopping : x.state = .stopping) (stops : ∀ e ∈ x.queue, e.origin = .stop) :
    v.state = if x.queue ≠ [] ∧ v.queue = [] then .idle else .stopping := by
  rw [taken.queue]
  cases last : (x.queue.filter test).getLast? with
  | none =>
    have nothing := List.getLast?_eq_none_iff.mp last
    have all : x.queue.filter (!test ·) = x.queue := List.filter_eq_self.mpr fun e mem => by
      simpa using List.filter_eq_nil_iff.mp nothing e mem
    rw [all, if_neg fun h => h.1 h.2]
    exact (taken.idle nothing).trans stopping
  | some d =>
    have mem := List.mem_of_mem_filter (List.mem_of_getLast? last)
    have nonempty : x.queue ≠ [] := List.ne_nil_of_mem mem
    rw [taken.state d last, stops d mem, stopping]
    exact if_congr (and_iff_right nonempty).symm rfl rfl

theorem shown_mem {es : List Edge} {shown : List (OutputNo × Bool × LineTime)} (perm : (es.map Edge.shown).Perm shown) {d : Edge}
    (mem : d ∈ es) : d.shown ∈ shown := perm.mem_iff.mp (List.mem_map_of_mem mem)

/-- A unit that holds start entries only stops by writing its stop (R182). -/
theorem State.writeStop_stopsUnit (starts : ∀ e ∈ s.units[n].queue, e.origin = .start) : s.stopsUnit (s.writeStop n stop) n stop := by
  have stops := SwUnit.stopsTo_stopped starts stop
  have taken := s.writeStop_unit (n := n) (stop := stop)
  have outputs := s.writeStop_outputs (n := n) (stop := stop)
  have elsewhere := s.writeStop_elsewhere (n := n) (stop := stop)
  generalize s.writeStop n stop = t at taken outputs elsewhere
  generalize (s.stopWritten n stop).lateMark n = mark at taken
  generalize s.units[n].stopped stop = x at stops taken outputs
  unfold State.stopsUnit
  intro u v written waiting reached_
  have shownWaiting : (v.queue.map Edge.shown).Perm waiting := by
    have waits (e : Edge) : (!reached e.due s.tmu.lineTime) = later e.shown.2.2 s.tmu.lineTime := Bool.not_not _
    have stays : v.queue = x.queue.filter fun e => later e.shown.2.2 s.tmu.lineTime :=
      taken.queue.trans (congrArg (List.filter · x.queue) (funext waits))
    rw [stays, map_shown_filter fun i => later i.2.2 s.tmu.lineTime]
    exact stops.queue.filter _
  have shownReached : ((x.queue.filter fun e => reached e.due s.tmu.lineTime).map Edge.shown).Perm reached_ := by
    have shown := map_shown_filter (fun i => !later i.2.2 s.tmu.lineTime) x.queue
    rw [show (x.queue.filter fun e => reached e.due s.tmu.lineTime).map Edge.shown = _ from shown]
    exact stops.queue.filter _
  have named {d : Edge} (mem : d ∈ x.queue.filter fun e => reached e.due s.tmu.lineTime) : d.shown ∈ reached_ := by
    have shown := shown_mem shownReached mem
    exact shown
  have stopEntry {d : Edge} (mem : d ∈ x.queue.filter fun e => reached e.due s.tmu.lineTime) : d.origin = .stop :=
    (stops.stops d (List.mem_of_mem_filter mem)).1
  refine ⟨elsewhere, shownWaiting, fun e mem => ?_, ?_, ?_, ?_, ?_, ?_, fun o unnamed => ?_, fun e mem agree => ?_⟩
  · have mem : e ∈ x.queue := List.mem_of_mem_filter (taken.queue ▸ mem)
    exact stops.stops e mem
  · have emptyIff : waiting = [] ↔ v.queue = [] := by
      rw [← List.length_eq_zero_iff, ← shownWaiting.length_eq, List.length_map, List.length_eq_zero_iff]
    have lengths : written.length = x.queue.length := stops.queue.length_eq.symm.trans (List.length_map _)
    have writtenIff : written = [] ↔ x.queue = [] := by
      rw [← List.length_eq_zero_iff, lengths, List.length_eq_zero_iff]
    have state := taken.state_of_stop stops.state fun e mem => (stops.stops e mem).1
    exact state.trans (if_congr (and_congr (not_congr writtenIff).symm emptyIff.symm) rfl rfl)
  · exact taken.same.discarded.trans stops.discarded
  · exact taken.same.written.trans stops.written
  · refine taken.outputCount.trans ?_
    rw [stops.outputCount, ← shownReached.length_eq, List.length_map]
  · refine taken.edgeMark.trans ?_
    have noStart : ((x.queue.filter fun e => reached e.due s.tmu.lineTime).any fun e => e.origin = .start) = false :=
      List.any_eq_false.mpr fun d mem => by rw [stopEntry mem]; decide
    rw [stops.edgeMark, noStart, Bool.or_false]
  · rw [outputs, edgeLevels_get]
    have nobody : (x.queue.filter fun e => reached e.due s.tmu.lineTime).filter (fun d => d.output = o) = [] :=
      List.filter_eq_nil_iff.mpr fun d mem is => unnamed (List.mem_map.mpr ⟨_, named mem, of_decide_eq_true is⟩)
    rw [nobody]
    rfl
  · obtain ⟨d, memD, rfl⟩ := List.mem_map.mp (shownReached.mem_iff.mpr mem)
    rw [outputs, edgeLevels_get]
    cases last : ((x.queue.filter fun e => reached e.due s.tmu.lineTime).filter fun c => c.output = d.shown.1).getLast? with
    | none =>
      have nobody := List.filter_eq_nil_iff.mp (List.getLast?_eq_none_iff.mp last) d memD
      exact absurd (decide_eq_true rfl) nobody
    | some c =>
      obtain ⟨memC, same⟩ := List.mem_filter.mp (List.mem_of_getLast? last)
      exact agree c.shown (named memC) (of_decide_eq_true same)

end Stop

end Sys2Proof.Machine
end

section
/-! PROOFS. Stop Pump (R154, R182, R183). -/

namespace Sys2Proof.Machine

section Serving

variable {s : State} {n : UnitNo} {k : SlotNo}

/-- The slot in use that serves a unit is the one that serves it. -/
theorem State.servingSlot?_of_pumps (pumps : PumpsAgree s) (used : s.slotState k ≠ .free) (unit : s.spl.slots[k].unit = n) :
    s.servingSlot? n = some k := by
  have serves (j : SlotNo) (h : s.slotState j ≠ .free ∧ s.spl.slots[j].unit = n) : j = k := by
    match j, k, h, used, unit with
    | 0, 0, _, _, _ => rfl
    | 1, 1, _, _, _ => rfl
    | 0, 1, h, used, unit => exact absurd (h.2.trans unit.symm) (pumps.apart h.1 used)
    | 1, 0, h, used, unit => exact absurd (unit.trans h.2.symm) (pumps.apart used h.1)
  cases found : s.servingSlot? n with
  | none =>
    have none_ := List.find?_eq_none.mp found k (mem_slotNumbers k)
    exact absurd (Bool.and_eq_true_iff.mpr ⟨bne_iff_ne.mpr used, decide_eq_true unit⟩) none_
  | some j =>
    have fits := List.find?_some found
    rw [Bool.and_eq_true, bne_iff_ne, decide_eq_true_eq] at fits
    rw [serves j fits]

theorem SlotState.before_iff (x : SlotState) : x.before = x.abandonable := by cases x <;> rfl

/-- A slot that ends is FREE and holds no entry, and stays so when the others are planned (R154, R165). -/
theorem State.endSlot_replan (reason : ReleaseReason) : (s.endSlot k reason).replan.slotState k = .free
    ∧ (s.endSlot k reason).replan.spl.claims.filter (s.isOwnEntry k) = [] := by
  have slot : (s.endSlot k reason).spl.slots[k] = {} :=
    (((s.removeOwn k).queueRelease k s.spl.slots[k].unit reason).putSlot_get k k _).trans (if_pos rfl)
  have free : (s.endSlot k reason).slotState k = .free := congrArg Slot.state slot
  have same := (s.endSlot k reason).replan_settled k (by rw [free]; rfl)
  have station : (s.endSlot k reason).stationNo = s.stationNo := rfl
  refine ⟨same.state.trans free, ?_⟩
  have entries : (s.endSlot k reason).ownEntries k = [] := s.ownEntries_removeOwn k
  have after := same.entries.trans entries
  rw [State.ownEntries, State.isOwnEntry_congr (same.stationNo.trans station)] at after
  exact after

/-- An abandoned claim leaves its slot FREE and without an entry (R154). -/
theorem State.abandon_frees : (s.abandon k).slotState k = .free ∧ (s.abandon k).spl.claims.filter (s.isOwnEntry k) = [] := by
  unfold State.abandon
  split
  · exact s.endSlot_replan _
  · rename_i none_
    have none_ : s.ownEntry? k = none := Option.not_isSome_iff_eq_none.mp none_
    exact ⟨congrArg Slot.state ((s.putSlot_get k k _).trans (if_pos rfl)),
      List.filter_eq_nil_iff.mpr fun c mem => List.find?_eq_none.mp none_ c mem⟩

theorem State.onlyChanges_abandon : s.onlyChanges (s.abandon k) [.lif, .spl, .freeNext] := by
  unfold State.abandon
  split <;> simp [State.onlyChanges, Part.all, Part.same]

/-- A FIRM slot whose unit reports that its start stopped is FREE (R165). -/
theorem State.report_stopped (serves : s.servingSlot? n = some k) (firm : s.slotState k = .firm) :
    (s.report n .stopped).slotState k = .free := by
  have released : s.report n .stopped = s.releaseSlot k .stopped := by
    unfold State.report
    rw [serves]
    dsimp only
    rw [firm]
  rw [released]
  exact (s.endSlot_replan .stopped).1

end Serving

end Sys2Proof.Machine
end

section
/-! PROOFS. Stop Pump at a unit (R182, R183). -/

namespace Sys2Proof.Machine

section WrittenStop

variable {s : State} {n : UnitNo} {stop : LineTime}

/-- The entries of a stop do not reach the planner. -/
theorem State.writeStop_spl : (s.writeStop n stop).spl = (s.stopWritten n stop).spl := by
  have noStart : (((s.units[n].stopped stop).queue.filter fun e => reached e.due s.tmu.lineTime).any fun e => e.origin = .start) = false :=
    List.any_eq_false.mpr fun d mem => by
      rw [s.units[n].stopped_stops stop d (List.mem_of_mem_filter mem)]
      decide
  rw [State.writeStop_takes, State.takings_spl, if_neg]
  rintro ⟨start, -⟩
  rw [noStart] at start
  cases start

/-- The FIRM slot of a start that no edge began is FREE after the stop (R165, R182). -/
theorem State.writeStop_frees {k : SlotNo} (serves : s.servingSlot? n = some k) (starting : s.units[n].state = .starting) (noEdge : s.units[n].edgeMark = false)
    (firm : s.slotState k = .firm) : (s.writeStop n stop).slotState k = .free := by
  rw [State.slotState, State.writeStop_spl]
  have reports : (s.units[n].state = .starting && !s.units[n].edgeMark : Bool) = true := by
    rw [starting, noEdge]
    rfl
  have written : s.stopWritten n stop = (s.putUnit n (s.units[n].stopped stop)).report n .stopped := if_pos reports
  rw [written]
  exact State.report_stopped (s := s.putUnit n (s.units[n].stopped stop)) serves firm

theorem State.onlyChanges_writeStop : s.onlyChanges (s.writeStop n stop) [.attention, .lif, .spl, .units, .outputs, .freeNext] := by
  rw [State.writeStop_takes]
  exact State.onlyChanges_trans (State.onlyChanges_mono State.onlyChanges_stopWritten (by decide))
    (State.onlyChanges_mono (State.onlyChanges_takings _ _) (by decide))

/-- A stop whose entries all lie ahead outputs nothing yet. -/
theorem State.writeStop_ahead (starts : ∀ e ∈ s.units[n].queue, e.origin = .start)
    (ahead : ∀ d ∈ s.units[n].defsOf .stop, later (stop + BitVec.ofNat 32 (s.units[n].cumulativeOffset d)) s.tmu.lineTime = true) :
    s.writeStop n stop = s.stopWritten n stop := by
  have stops := SwUnit.stopsTo_stopped starts stop
  have nothing : (s.units[n].stopped stop).queue.filter (fun e => reached e.due s.tmu.lineTime) = [] := by
    refine List.filter_eq_nil_iff.mpr fun e mem => ?_
    have shown := shown_mem stops.queue mem
    obtain ⟨d, memD, same⟩ := List.mem_map.mp shown
    have due : stop + BitVec.ofNat 32 (s.units[n].cumulativeOffset d) = e.due := congrArg (fun i => i.2.2) same
    have later_ := ahead d memD
    rw [due] at later_
    rw [reached, later_]
    decide
  rw [State.writeStop_takes, nothing]
  rfl

end WrittenStop

/-- A RUNNING unit and one with a start edge output report nothing. -/
theorem State.stopWritten_of_begun {s : State} {n : UnitNo} {stop : LineTime} (begun : s.units[n].state = .running ∨ s.units[n].edgeMark = true) :
    s.stopWritten n stop = s.putUnit n (s.units[n].stopped stop) := by
  refine if_neg ?_
  rcases begun with running | edge
  · rw [running]
    nofun
  · rw [edge, Bool.not_true, Bool.and_false]
    nofun

section StopPump

variable {s : State} {n : UnitNo} {time : Option LineTime}

theorem State.stopTime_eq : s.stopTime time =
    match time with
    | some t => if later t s.tmu.lineTime then t else s.tmu.lineTime
    | none => s.tmu.lineTime := by
  rw [State.stopTime, State.openEarliest_eq]
  cases time with
  | none => rfl
  | some t =>
    rw [Option.filter_some]
    show _ = if later t s.tmu.lineTime then t else s.tmu.lineTime
    split <;> rfl

/-- No slot whose start is not handed over serves the unit. -/
theorem State.abandonSlot?_eq_none (none_ : ∀ k : SlotNo, (s.slotState k).before = true → s.spl.slots[k].unit ≠ n) :
    s.abandonSlot? n = none := by
  unfold State.abandonSlot?
  cases found : s.servingSlot? n with
  | none => rfl
  | some k =>
    have fits := List.find?_some found
    rw [Bool.and_eq_true, decide_eq_true_eq] at fits
    refine Option.filter_eq_none_iff.mpr fun j is abandonable => ?_
    obtain rfl := Option.some.inj is
    rw [← SlotState.before_iff] at abandonable
    exact none_ _ abandonable fits.2

theorem State.abandonSlot?_eq_some (pumps : PumpsAgree s) {k : SlotNo} (before : (s.slotState k).before = true)
    (unit : s.spl.slots[k].unit = n) : s.abandonSlot? n = some k := by
  have used : s.slotState k ≠ .free := by
    intro free
    rw [free] at before
    cases before
  unfold State.abandonSlot?
  rw [State.servingSlot?_of_pumps pumps used unit, Option.filter_some, ← SlotState.before_iff, if_pos before]

theorem State.stopPump_unit (none_ : s.abandonSlot? n = none) : s.stopPump n time = s.stopUnit n time := by
  rw [State.stopPump, none_]

theorem State.stopUnit_of_far (far : s.tooFarAhead time = true) : s.stopUnit n time = s.refuse .range := if_pos far

theorem State.stopUnit_of_idle (near : ¬s.tooFarAhead time = true) (idle : s.units[n].state = .idle) :
    s.stopUnit n time = s.refuse .notActive := by
  refine (if_neg near).trans ?_
  rw [idle]

theorem State.stopUnit_of_stopping (near : ¬s.tooFarAhead time = true) (stopping : s.units[n].state = .stopping) :
    s.stopUnit n time = s.refuse .busy := by
  refine (if_neg near).trans ?_
  rw [stopping]

theorem State.stopUnit_of_active (near : ¬s.tooFarAhead time = true)
    (active : s.units[n].state = .starting ∨ s.units[n].state = .running) : s.stopUnit n time =
      (s.writeStop n (s.stopTime time)).succeed ((s.writeStop n (s.stopTime time)).stopReply n (s.stopTime time)
        (s.units[n].queue.filter (·.origin = .start)).length (s.units[n].defsOf .stop).length) := by
  refine (if_neg near).trans ?_
  rcases active with state | state <;> rw [state]

theorem State.stopReply_eq (state : s.units[n].state = .idle ∨ s.units[n].state = .stopping) (stop : LineTime) (discarded written : Nat) :
    s.stopReply n stop discarded written =
      (if s.units[n].state = .idle then 0 else 3) :: bytesOf 4 stop.toNat ++ bytesOf 4 discarded ++ bytesOf 4 written := by
  rw [State.stopReply]
  rcases state with is | is <;> rw [is] <;> rfl

section Request

variable (admits : s.admitsRun)

include admits

/-- Stop Pump refused. -/
theorem State.stopPump_refused {status : Status}
    (refused : (s.received 0x21 (pumpPayload n time)).stopPump n time = (s.received 0x21 (pumpPayload n time)).refuse status) :
    s.replies (.stopPump (pumpPayload n time)) 0x21 (pumpPayload n time) { status := status, payload := [] } := by
  refine State.replies_of_run admits (length_pumpPayload n time) (length_pumpPayload_le n time) rfl ?_
  rw [ranged_pumpPayload, timeField?_pumpPayload, refused]
  rfl

/-- Stop Pump carried out. -/
theorem State.stopPump_done {t : State} {payload : List Byte} {parts : List Part}
    (done : (s.received 0x21 (pumpPayload n time)).stopPump n time = t.succeed payload)
    (port : t.svp = (s.received 0x21 (pumpPayload n time)).svp)
    (only : (s.received 0x21 (pumpPayload n time)).onlyChanges t parts) :
    ∃ v, exec (.stopPump (pumpPayload n time)) s = .next v ∧ v = t.putReply (success payload)
      ∧ v.svp = s.answered 0x21 (pumpPayload n time) (success payload) ∧ s.onlyChanges v (.svp :: parts) := by
  refine State.runs_of_answer admits (length_pumpPayload n time) (length_pumpPayload_le n time) rfl ?_ port only
  rw [ranged_pumpPayload, timeField?_pumpPayload, done]
  rfl

end Request

end StopPump

/-- Settles O44: an abandoned claim, the refusals, and the stop that a unit writes. -/
theorem stopPumpStops : Obligations.StopPumpStops := by
  intro s n time admits pumps p
  have isPayload : p = pumpPayload n time := rfl
  clear_value p
  subst isPayload
  intro now u refused
  let r := s.received 0x21 (pumpPayload n time)
  have pumpsR : PumpsAgree r := ⟨pumps.entry, pumps.none, pumps.apart, pumps.idle, pumps.units⟩
  refine ⟨fun b large => ?_, fun k before unit => ?_, fun noneBefore => ⟨fun far => ?_, fun near => ?_⟩⟩
  · have length : (b :: (pumpPayload n time).tail).length ∈ [1, 5] := length_pumpPayload n time
    have fits : (b :: (pumpPayload n time).tail).length ≤ 64 := length_pumpPayload_le n time
    refine State.replies_of_run admits length fits rfl ?_
    rw [ranged_pumpPayload_of_large _ large]
    rfl
  · have slot : r.abandonSlot? n = some k := State.abandonSlot?_eq_some pumpsR before unit
    have done : r.stopPump n time = (r.abandon k).succeed (flag1 true) := by
      rw [State.stopPump, slot]
    have only : r.onlyChanges (r.abandon k) [.lif, .spl, .freeNext] := State.onlyChanges_abandon
    have port : (r.abandon k).svp = r.svp := only.2 .svp (by decide)
    obtain ⟨t, ran, rfl, svp, only⟩ := State.stopPump_done admits done port only
    obtain ⟨free, entries⟩ := State.abandon_frees (s := r) (k := k)
    exact ⟨_, ran, only, svp, free, entries⟩
  · have none_ : r.abandonSlot? n = none := State.abandonSlot?_eq_none noneBefore
    have tooFar : r.tooFarAhead time = true := State.tooFarAhead_iff.mpr far
    exact State.stopPump_refused admits ((State.stopPump_unit none_).trans (State.stopUnit_of_far tooFar))
  · have none_ : r.abandonSlot? n = none := State.abandonSlot?_eq_none noneBefore
    have near : ¬r.tooFarAhead time = true := fun far => by
      obtain ⟨t, is, ahead, beyond⟩ := State.tooFarAhead_iff.mp far
      exact absurd beyond (Nat.not_lt.mpr (near t is ahead))
    refine ⟨fun idle => ?_, fun stopping => ?_, fun active => ?_⟩
    · exact State.stopPump_refused admits ((State.stopPump_unit none_).trans (State.stopUnit_of_idle near idle))
    · exact State.stopPump_refused admits ((State.stopPump_unit none_).trans (State.stopUnit_of_stopping near stopping))
    · intro stop ahead
      have isStop : r.stopTime time = stop := State.stopTime_eq
      have done := (State.stopPump_unit none_).trans (State.stopUnit_of_active near active)
      rw [isStop] at done
      have sound : r.units[n].sound := pumps.units n
      have held := sound.holdsStarts active
      have stops := State.writeStop_stopsUnit (stop := stop) held
      have only : r.onlyChanges (r.writeStop n stop) [.attention, .lif, .spl, .units, .outputs, .freeNext] :=
        State.onlyChanges_writeStop
      have port : (r.writeStop n stop).svp = r.svp := only.2 .svp (by decide)
      have starts : u.queue.filter (·.origin = .start) = u.queue := List.filter_eq_self.mpr fun e mem => decide_eq_true (held e mem)
      have states : (r.writeStop n stop).units[n].state = .idle ∨ (r.writeStop n stop).units[n].state = .stopping := by
        obtain ⟨-, -, -, state, -⟩ := stops
        rw [state]
        exact (em _).imp (fun h => if_pos h) fun h => if_neg h
      rw [State.stopReply_eq states, show (r.units[n].queue.filter (·.origin = .start)) = u.queue from starts] at done
      have waits (h : ahead) : r.writeStop n stop = r.stopWritten n stop := State.writeStop_ahead held h
      have frees (starting : u.state = .starting) (noEdge : u.edgeMark = false) (k : SlotNo) (firm : s.slotState k = .firm)
          (unit : s.spl.slots[k].unit = n) : (r.writeStop n stop).slotState k = .free :=
        State.writeStop_frees (State.servingSlot?_of_pumps pumpsR (by rw [show r.slotState k = .firm from firm]; decide) unit) starting noEdge firm
      obtain ⟨t, ran, is, svp, whole⟩ := State.stopPump_done admits done port only
      clear done
      generalize r.writeStop n stop = w at *
      refine ⟨t, ran, whole, ?_, fun h => ?_, fun h begun => ?_, ?_, ?_⟩
      · rw [is]
        exact stops
      · have written : r.onlyChanges w [.lif, .spl, .units, .freeNext] := by
          rw [waits h]
          exact State.onlyChanges_stopWritten
        rw [is]
        exact State.onlyChanges_answered written _
      · have put : r.onlyChanges w [.units] := by
          rw [waits h, State.stopWritten_of_begun (s := r) begun]
          exact State.onlyChanges_putUnit _ _ _
        rw [is]
        exact State.onlyChanges_answered put _
      · intro starting noEdge k firm unit
        rw [is]
        exact frees starting noEdge k firm unit
      · have units : t.units[n].state = w.units[n].state := by
          rw [is]
          rfl
        rw [svp, units]
        rfl

end Sys2Proof.Machine
end

section
/-! PROOFS. A trip view onset at a unit (R190, R191). -/

namespace Sys2Proof.Machine

section Shed

/-- The rank counts over all the rows, as the station's own row does not count (R191). -/
theorem State.rank_eq (s : State) : s.rank = ((List.finRange 16).filter fun m => m ≠ s.stationNo ∧ s.peers[m].heard = true
    ∧ s.peers[m].silent = false ∧ s.peers[m].roles.well = true ∧ m < s.stationNo ∧ 0 < s.peers[m].activeUnits).length := by
  unfold State.rank State.peerNumbers
  rw [List.filter_filter]
  refine congrArg (fun p => (List.filter p (List.finRange 16)).length) (funext fun m => ?_)
  simp only [State.countsForRank, State.isPeer, ne_eq, Bool.decide_and, Bool.decide_eq_true, decide_not, Bool.decide_eq_false]
  rw [Bool.eq_iff_iff]
  simp [bne_iff_ne]
  tauto

variable {s : State} {n : UnitNo} {trip : LineTime} {rank : Nat}

/-- A unit that a trip view onset only marks (R190). -/
def State.shedMarked (s : State) (n : UnitNo) (onset : UnitOnset) : State := s.putUnit n (s.units[n].flagged onset)

theorem State.shedMarked_unit (onset : UnitOnset) : (s.shedMarked n onset).units[n] = s.units[n].flagged onset :=
  (s.putUnit_get n n _).trans (if_pos rfl)

theorem State.shed_of_calm (calm : s.units[n].state = .idle ∨ s.units[n].state = .stopping
    ∨ s.units[n].state = .running ∧ s.units[n].config.shedEnable = false) :
    s.shed n trip rank = s.shedMarked n { rank := rank, time := trip } := by
  unfold State.shed
  dsimp only
  split
  · rfl
  · rfl
  · rename_i starting
    rw [starting] at calm
    simp at calm
  · rename_i running
    rw [running] at calm
    simp only [reduceCtorEq, false_or, true_and] at calm
    exact if_neg (ne_true_of_eq_false calm)

theorem State.shed_of_active (active : s.units[n].state = .starting
    ∨ s.units[n].state = .running ∧ s.units[n].config.shedEnable = true) :
    s.shed n trip rank = (s.shedMarked n { rank := rank, time := trip }).writeStop n
      (if s.units[n].config.shedEnable then shedTime s.units[n].config n rank trip else s.tmu.lineTime) := by
  unfold State.shed
  dsimp only
  split
  · rename_i idle
    rw [idle] at active
    simp at active
  · rename_i stopping
    rw [stopping] at active
    simp at active
  · rfl
  · rename_i running
    rw [running] at active
    simp only [reduceCtorEq, false_or, true_and] at active
    rw [if_pos active, if_pos active]
    rfl

/-- A stop at a marked unit is one of the unit as it was (R182). -/
theorem State.stopsUnit_of_marked {onset : UnitOnset} {t : State} {stop : LineTime} (stops : (s.shedMarked n onset).stopsUnit t n stop) :
    s.stopsUnit t n stop := by
  have unit := s.shedMarked_unit (n := n) onset
  have tmu : (s.shedMarked n onset).tmu = s.tmu := rfl
  have outputs : (s.shedMarked n onset).outputs = s.outputs := rfl
  have elsewhere : sameElsewhere n s.units (s.shedMarked n onset).units := fun m other => (s.putUnit_get n m _).trans (if_neg other)
  unfold State.stopsUnit at stops ⊢
  rw [unit, tmu, outputs] at stops
  exact ⟨fun m other => (stops.1 m other).trans (elsewhere m other), stops.2⟩

end Shed

/-- Settles O47: a calm unit is only marked; an active one writes its stop at its shed time. -/
theorem shedFollowsTheOnset : Obligations.ShedFollowsTheOnset := by
  intro s n trip rank u t time
  have marked := s.shedMarked_unit (n := n) { rank := rank, time := trip }
  have elsewhere : sameElsewhere n s.units (s.shedMarked n { rank := rank, time := trip }).units :=
    fun m other => (s.putUnit_get n m _).trans (if_neg other)
  have cases_ : (u.state = .idle ∨ u.state = .stopping ∨ u.state = .running ∧ u.config.shedEnable = false)
      ∨ u.state = .starting ∨ u.state = .running ∧ u.config.shedEnable = true := by
    cases u.state <;> cases u.config.shedEnable <;> simp
  refine ⟨s.shed_tripFlag n trip rank, (s.shed_lastOnset n n trip rank).trans (if_pos rfl), ?_, fun e mem starting => ?_,
    fun calm => ?_, fun active sound => ⟨?_, ?_, fun starting noEdge pumps k firm unit => ?_⟩, s.rank_eq⟩
  · rcases cases_ with calm | active
    · show sameElsewhere n s.units (s.shed n trip rank).units
      rw [State.shed_of_calm calm]
      exact elsewhere
    · show sameElsewhere n s.units (s.shed n trip rank).units
      rw [State.shed_of_active active]
      exact fun m other => (State.writeStop_elsewhere m other).trans (elsewhere m other)
  · have done : t = _ := State.shed_of_active (s := s) (n := n) (trip := trip) (rank := rank) (.inl starting)
    rw [done] at mem
    rw [(State.writeStop_unit).queue] at mem
    exact SwUnit.stopped_stops _ _ e (List.mem_of_mem_filter mem)
  · have done : t = _ := State.shed_of_calm (s := s) (n := n) (trip := trip) (rank := rank) calm
    rw [done]
    exact ⟨marked, State.onlyChanges_putUnit _ _ _⟩
  · have done : t = _ := State.shed_of_active (s := s) (n := n) (trip := trip) (rank := rank) active
    have starts : ∀ e ∈ (s.shedMarked n { rank := rank, time := trip }).units[n].queue, e.origin = .start := by
      rw [marked]
      exact sound.holdsStarts (active.imp_right And.left)
    rw [done]
    exact State.stopsUnit_of_marked (State.writeStop_stopsUnit starts)
  · have done : t = _ := State.shed_of_active (s := s) (n := n) (trip := trip) (rank := rank) active
    rw [done]
    exact State.onlyChanges_trans (State.onlyChanges_mono (State.onlyChanges_putUnit _ _ _) (by decide)) State.onlyChanges_writeStop
  · have done : t = _ := State.shed_of_active (s := s) (n := n) (trip := trip) (rank := rank) (.inl starting)
    rw [done]
    have serves : s.servingSlot? n = some k := State.servingSlot?_of_pumps pumps (by rw [firm]; decide) unit
    have state : (s.shedMarked n { rank := rank, time := trip }).units[n].state = .starting := by rw [marked]; exact starting
    have edge : (s.shedMarked n { rank := rank, time := trip }).units[n].edgeMark = false := by rw [marked]; exact noEdge
    exact State.writeStop_frees (s := s.shedMarked n { rank := rank, time := trip }) serves state edge firm

end Sys2Proof.Machine
end

section
/-! PROOFS. The due edges of a unit (R165, R179, R181). -/

namespace Sys2Proof.Machine

/-! A queue whose reached entries stand in front. -/

theorem filter_front {test : Edge → Bool} {front rest : List Edge} (meets : ∀ d ∈ front, test d = true) (fails : ∀ d ∈ rest, test d = false) :
    (front ++ rest).filter test = front ∧ (front ++ rest).filter (!test ·) = rest := by
  rw [List.filter_append, List.filter_append, List.filter_eq_self.mpr meets,
    List.filter_eq_nil_iff.mpr fun d mem => by rw [fails d mem]; nofun,
    List.filter_eq_nil_iff.mpr fun d mem => by rw [meets d mem]; nofun,
    List.filter_eq_self.mpr fun d mem => by rw [fails d mem]; rfl]
  exact ⟨List.append_nil _, rfl⟩

/-- A part that is as it was leaves the list of those that may have changed. -/
theorem State.onlyChanges_without {s t : State} {p : Part} {parts : List Part} (h : s.onlyChanges t (p :: parts)) (same : p.same s t) :
    s.onlyChanges t parts := by
  refine ⟨h.1, fun q out => ?_⟩
  by_cases is : q = p
  · rw [is]
    exact same
  · exact h.2 q fun mem => (List.mem_cons.mp mem).elim is out

theorem or_decide_and (b : Bool) (p : Prop) [Decidable p] [Decidable (p ∧ b = false)] : (b || decide p) = (b || decide (p ∧ b = false)) := by
  cases b with
  | false => exact decide_eq_decide.mpr (and_iff_left rfl).symm
  | true => rfl

section Due

variable {s : State} {n : UnitNo}

/-- Entries that are due are taken without a mark. -/
theorem State.dueEdges_eq :
    s.takeEdges n (fun due => reached due s.tmu.lineTime) (fun s e => s.outputEdge n e) (s.edgeFuel n) =
      (s.units[n].queue.filter fun e => reached e.due s.tmu.lineTime).foldl (State.taking (fun _ => none) n) s := by
  refine State.takeEdges_eq (other := State.taking (fun _ => none) n) (fun _ => True) (fun t e _ _ _ => ?_)
    (s.edgeFuel_enough n _) trivial
  have same : t.outputEdge n e = t.taking (fun _ => none) n e := rfl
  have unit := t.taking_unit (mark := fun _ => none) (n := n) e
  generalize t.taking (fun _ => none) n e = w at same unit
  refine ⟨same, trivial, ?_⟩
  rw [unit, SwUnit.takes_queue]

theorem State.edgeIsDue_of_head {e : Edge} {rest : List Edge} (run : s.svp.station = .run) (queue : s.units[n].queue = e :: rest) :
    s.edgeIsDue n = reached e.due s.tmu.lineTime := by
  rw [State.edgeIsDue, queue, show s.inRun = true from decide_eq_true run, Bool.true_and]
  rfl

/-- A unit whose entries are taken without a mark keeps its last late edge. -/
theorem SwUnit.takes_lastLate (es : List Edge) (u : SwUnit) : (es.foldl (SwUnit.takes fun _ => none) u).lastLate = u.lastLate :=
  foldl_holds (SwUnit.takes fun _ => none) (fun v => v.lastLate = u.lastLate) (fun _ _ h => h) es u rfl

/-- The report of the first start edge makes the FIRM slot that serves the unit STARTED (R165). -/
theorem State.firstEdge_started {k : SlotNo} (serves : s.servingSlot? n = some k) (firm : s.slotState k = .firm) :
    (s.spl.firstEdge n).slots[k].state = .started := by
  have slots : s.spl.firstEdge n = { s.spl with slots := s.spl.slots.set k { s.spl.slots[k] with state := .started } } := by
    show (match s.servingSlot? n with | none => s.spl | some k => _) = _
    rw [serves]
    exact if_pos firm
  rw [slots]
  exact congrArg Slot.state (Vector.getElem_set_self _)

end Due

/-- Settles O45: the reached entries in front of the queue are taken one after another. -/
theorem dueEdgeIsOutput : Obligations.DueEdgeIsOutput := by
  intro s n run u
  refine ⟨fun e rest queue later_ => ?_, fun due last rest queue dueReached restLater => ?_⟩
  · have waits : ¬s.edgeIsDue n = true := by
      rw [State.edgeIsDue_of_head run queue, reached, later_]
      nofun
    exact congrArg Host.Outcome.next (if_neg waits)
  · intro first
    have front : u.queue = (due ++ [last]) ++ rest := by rw [queue, List.append_assoc]; rfl
    obtain ⟨taken, stays⟩ := filter_front (test := fun e => reached e.due s.tmu.lineTime) (front := due ++ [last]) (rest := rest)
      (fun d mem => by rw [reached, dueReached d mem]; rfl) (fun d mem => by rw [reached, restLater d mem]; rfl)
    rw [← front] at taken stays
    have isDue : s.edgeIsDue n = true := by
      cases due with
      | nil => rw [State.edgeIsDue_of_head run queue, reached, dueReached last (by simp)]; rfl
      | cons d ds => rw [State.edgeIsDue_of_head run queue, reached, dueReached d (by simp)]; rfl
    have done : exec (.edgeDue n) s = .next ((due ++ [last]).foldl (State.taking (fun _ => none) n) s) := by
      rw [← taken]
      exact congrArg Host.Outcome.next ((if_pos isDue).trans State.dueEdges_eq)
    have unit := SwUnit.takenBy_foldl (mark := fun _ => none) _ u taken
    have lastLate := SwUnit.takes_lastLate (due ++ [last]) u
    have units := State.takings_units (mark := fun _ => none) (n := n) (due ++ [last]) s
    have outputs := State.takings_outputs (mark := fun _ => none) (n := n) (due ++ [last]) s
    have spl := State.takings_spl (mark := fun _ => none) (n := n) (due ++ [last]) s
    have attention := State.takings_attention (mark := fun _ => none) (n := n) (due ++ [last]) s fun _ _ => rfl
    have only := State.onlyChanges_takings (mark := fun _ => none) (n := n) (due ++ [last]) s
    generalize (due ++ [last]).foldl (State.taking (fun _ => none) n) s = t at done units outputs spl attention only
    generalize (due ++ [last]).foldl (SwUnit.takes fun _ => none) u = v at unit lastLate units
    have anyIff : ((due ++ [last]).any fun e => decide (e.origin = .start)) = decide (∃ d ∈ due ++ [last], d.origin = .start) := by
      rw [Bool.eq_iff_iff, List.any_eq_true, decide_eq_true_eq]
      simp only [decide_eq_true_eq]
    refine ⟨t, done, outputs, fun m other => ?_, ?_, fun notFirst => ?_, fun isFirst => ⟨?_, fun k pumps firm unit => ?_⟩⟩
    · rw [units]
      exact (s.putUnit_get n m v).trans (if_neg other)
    · have isV : t.units[n] = v :=
        (congrArg (fun x : Vector SwUnit 4 => x[n]) units).trans ((s.putUnit_get n n v).trans (if_pos rfl))
      have edgeMark : v.edgeMark = (u.edgeMark || decide first) := by
        rw [unit.edgeMark, taken, anyIff]
        exact or_decide_and u.edgeMark _
      have state := unit.state last (by rw [taken]; exact List.getLast?_concat)
      have queue := unit.queue
      rw [stays] at queue state
      have count := unit.outputCount
      rw [taken, List.length_append] at count
      have lateCount : v.lateCount = u.lateCount := by
        rw [unit.lateCount, List.filter_eq_nil_iff.mpr fun _ _ => by nofun]
        exact BitVec.add_zero _
      rw [isV]
      obtain ⟨config, defs, startNumber, written, discarded, tripFlag, lastOnset⟩ := unit.same
      cases v
      simp only [SwUnit.mk.injEq]
      exact ⟨config, defs, state, queue, written, count, discarded, lateCount, startNumber, edgeMark, tripFlag, lastLate, lastOnset⟩
    · rw [if_neg (by rw [anyIff, decide_eq_true_eq]; exact notFirst)] at spl
      exact State.onlyChanges_without (State.onlyChanges_without only attention) spl
    · exact State.onlyChanges_without only attention
    · rw [if_pos (by rw [anyIff, decide_eq_true_eq]; exact isFirst)] at spl
      rw [State.slotState, spl]
      exact State.firstEdge_started (State.servingSlot?_of_pumps pumps (by rw [firm]; decide) unit) firm

end Sys2Proof.Machine
end

section
/-! PROOFS. The end of a start that is late beyond its window: missed or aborted (R188). -/

namespace Sys2Proof.Machine

section Ended

/-- A unit whose start a late entry ends: aborted once an edge of it has been output, missed before (R188). -/
def SwUnit.ended (u : SwUnit) (e : Edge) (now : LineTime) : SwUnit :=
  let cleared := u.discardWhere fun d => d.origin = .start && d.startNumber = e.startNumber
  if u.edgeMark then { cleared.writeAbort now with state := .stopping } else { cleared with state := .idle }

/-- An entry that is due no earlier than the others is placed last (R178). -/
theorem insertEdge_last {e : Edge} {q : List Edge} (last : ∀ d ∈ q, later d.due e.due = false) : insertEdge e q = q ++ [e] := by
  induction q with
  | nil => rfl
  | cons d ds ih =>
    rw [insertEdge, if_neg (ne_true_of_eq_false (last d List.mem_cons_self)), ih fun x mem => last x (List.mem_cons_of_mem _ mem)]
    rfl

theorem later_self (t : LineTime) : later t t = false := by simp [later]

/-- The stop entries of an aborted start stand in the order of their definitions. -/
theorem SwUnit.foldl_abort {now : LineTime} (ds : List DefNo) (u : SwUnit) (due : ∀ e ∈ u.queue, e.due = now) :
    (ds.foldl (fun u d => u.writeEdge .stop now d) u).queue.map Edge.image =
      u.queue.map Edge.image ++ u.images .stop (fun _ => now) ds := by
  induction ds generalizing u with
  | nil => exact (List.append_nil _).symm
  | cons d ds ih =>
    have queue : (u.writeEdge .stop now d).queue = u.queue ++ [u.entry .stop now d] :=
      insertEdge_last (e := u.entry .stop now d) fun x mem => by
        rw [due x mem]
        exact later_self now
    have dueAfter : ∀ e ∈ (u.writeEdge .stop now d).queue, e.due = now := by
      rw [queue]
      intro e mem
      rcases List.mem_append.mp mem with old | new
      · exact due e old
      · rw [List.mem_singleton.mp new]
        rfl
    rw [List.foldl_cons, ih _ dueAfter, queue, List.map_append, List.append_assoc]
    rfl

/-- A unit that has aborted its start: its entries are discarded, and the stop entries are due at the line time then (R188). -/
structure SwUnit.abortsTo (u v : SwUnit) (now : LineTime) : Prop where
  queue : v.queue.map Edge.image = u.images .stop (fun _ => now) (u.defsOf .stop)
  state : v.state = .stopping
  discarded : v.discarded = u.discarded + BitVec.ofNat 16 u.queue.length
  written : v.written = u.written + BitVec.ofNat 16 (u.defsOf .stop).length
  outputCount : v.outputCount = u.outputCount
  lateCount : v.lateCount = u.lateCount

variable {u : SwUnit} {e : Edge} {now : LineTime}
  (whole : ∀ d ∈ u.queue, d.origin = .start ∧ d.startNumber = e.startNumber)

include whole

/-- Where every entry belongs to the start, all are discarded. -/
theorem SwUnit.discardWhere_whole : (u.discardWhere fun d => d.origin = .start && d.startNumber = e.startNumber) =
    { u with queue := [], discarded := u.discarded + BitVec.ofNat 16 u.queue.length } := by
  have all : ∀ d ∈ u.queue, (decide (d.origin = .start) && decide (d.startNumber = e.startNumber)) = true := fun d mem => by
    obtain ⟨start, same⟩ := whole d mem
    rw [decide_eq_true start, decide_eq_true same]
    rfl
  have none_ : ∀ d ∈ u.queue, ¬(!(decide (d.origin = .start) && decide (d.startNumber = e.startNumber))) = true := fun d mem => by
    rw [all d mem]
    nofun
  rw [SwUnit.discardWhere, List.filter_eq_self.mpr all, List.filter_eq_nil_iff.mpr none_]

theorem SwUnit.ended_missed (noEdge : u.edgeMark = false) :
    u.ended e now = { u with queue := [], discarded := u.discarded + BitVec.ofNat 16 u.queue.length, state := .idle } := by
  rw [SwUnit.ended, SwUnit.discardWhere_whole whole]
  exact if_neg (ne_true_of_eq_false noEdge)

theorem SwUnit.ended_aborted (edge : u.edgeMark = true) : u.abortsTo (u.ended e now) now := by
  have is : u.ended e now = { SwUnit.writeAbort
      { u with queue := [], discarded := u.discarded + BitVec.ofNat 16 u.queue.length } now with state := .stopping } := by
    rw [SwUnit.ended, SwUnit.discardWhere_whole whole]
    exact if_pos edge
  have writes := SwUnit.writes_writeAbort { u with queue := [], discarded := u.discarded + BitVec.ofNat 16 u.queue.length } now
  have queue := SwUnit.foldl_abort (now := now) (u.defsOf .stop)
    { u with queue := [], discarded := u.discarded + BitVec.ofNat 16 u.queue.length } nofun
  rw [is]
  exact ⟨queue, rfl, writes.same.discarded, writes.written, writes.same.outputCount, writes.same.lateCount⟩

end Ended

section EndStart

variable {s : State} {n : UnitNo} (e : Edge)

theorem State.endStart_eq : s.endStart n e = ((s.putUnit n (s.units[n].ended e s.tmu.lineTime)).raise
    (if s.units[n].edgeMark then .startAborted n else .startMissed n)).report n .missed := by
  unfold State.endStart SwUnit.ended
  dsimp only
  by_cases edge : s.units[n].edgeMark = true
  · rw [if_pos edge, if_pos edge]
    exact if_pos edge
  · rw [if_neg edge, if_neg edge]
    exact if_neg edge

theorem State.endStart_units : (s.endStart n e).units = s.units.set n (s.units[n].ended e s.tmu.lineTime) := by
  rw [State.endStart_eq]
  exact (State.report_frame _ n _).2.2.2.2.2.2.2.2.2.2.2.2.2.2.2.2.1

theorem State.endStart_unit : (s.endStart n e).units[n] = s.units[n].ended e s.tmu.lineTime :=
  (congrArg (fun v : Vector SwUnit 4 => v[n]) (s.endStart_units e)).trans ((s.putUnit_get n n _).trans (if_pos rfl))

/-- A missed start raises START_MISSED, an aborted one START_ABORTED (R188). -/
theorem State.endStart_raises :
    (s.endStart n e).isPending (if s.units[n].edgeMark then .startAborted n else .startMissed n) = true := by
  rw [State.endStart_eq, State.isPending, (State.report_frame _ n _).2.2.2.2.1]
  exact State.isPending_raise _ _

/-- A start entry late beyond the window ends its start (R188). -/
theorem State.catchUp_of_ended {e : Edge} (late : (s.units[n].config.catchUp : Int) < lateness e.due s.tmu.lineTime)
    (start : e.origin = .start) : s.catchUp n e = s.endStart n e := by
  have positive : ¬lateness e.due s.tmu.lineTime ≤ 0 := by omega
  unfold State.catchUp
  dsimp only
  refine (if_neg positive).trans ((if_neg (not_le.mpr late)).trans ?_)
  rw [start]

/-- The catch-up rule leaves the other units (9.6). -/
theorem State.catchUp_elsewhere : sameElsewhere n s.units (s.catchUp n e).units := by
  intro m other
  by_cases outputs : s.outputs? n e
  · rw [State.catchUp_of_outputs outputs, State.taking_units]
    exact (s.putUnit_get n m _).trans (if_neg other)
  · obtain ⟨start, late⟩ := Classical.not_imp.mp outputs
    rw [State.catchUp_of_ended (not_le.mp late) start, State.endStart_units]
    exact (s.putUnit_get n m _).trans (if_neg other)

/-- A step leaves the other units (R189). -/
theorem State.unitStep_elsewhere (f : StepEvent) : sameElsewhere n s.units (s.unitStep n f).units :=
  State.takeEdges_holds (fun t => sameElsewhere n s.units t.units) n _ _
    (fun t e _ so m other => (t.catchUp_elsewhere e m other).trans (so m other)) _ s fun _ _ => rfl

theorem State.onlyChanges_unitStep (f : StepEvent) :
    s.onlyChanges (s.unitStep n f) [.attention, .lif, .spl, .units, .outputs, .freeNext] := by
  simp [State.onlyChanges, Part.all, Part.same]

end EndStart

end Sys2Proof.Machine
end

section
/-! PROOFS. The catch-up rule at one entry and at a time step (R186 to R189). -/

namespace Sys2Proof.Machine

section One

variable {s : State} {n : UnitNo} {e : Edge} {rest : List Edge}

/-- A late entry that is output: its level, its cause, its count and its record (R186, R187). -/
theorem State.taking_late {mark : Edge → Option LateEdge} {late : LateEdge} (queue : s.units[n].queue = e :: rest)
    (isLate : mark e = some late) :
    (s.taking mark n e).outputs[e.output] = e.high ∧ sameElsewhere e.output s.outputs (s.taking mark n e).outputs
      ∧ (s.taking mark n e).isPending (.edgeLate n) = true ∧ sameElsewhere n s.units (s.taking mark n e).units
      ∧ (s.taking mark n e).units[n].queue = rest ∧ (s.taking mark n e).units[n].outputCount = s.units[n].outputCount + 1
      ∧ (s.taking mark n e).units[n].lateCount = s.units[n].lateCount + 1
      ∧ (s.taking mark n e).units[n].lastLate = some late := by
  have unit := s.taking_unit (mark := mark) (n := n) e
  have takes : s.units[n].takes mark e = (s.units[n].marked (some late)).afterOutput e := by rw [SwUnit.takes, isLate]
  have erased : (s.units[n].takes mark e).queue = rest := by rw [SwUnit.takes_queue, queue, List.erase_cons_head]
  refine ⟨?_, fun o other => ?_, s.taking_raises isLate, fun m other => ?_, ?_, ?_, ?_, ?_⟩
  · rw [State.taking_outputs]
    exact Vector.getElem_set_self _
  · rw [State.taking_outputs]
    exact Vector.getElem_set_ne _ _ fun same => other (Fin.ext same.symm)
  · rw [State.taking_units]
    exact (s.putUnit_get n m _).trans (if_neg other)
  all_goals rw [unit]
  · exact erased
  all_goals rw [takes]; rfl

theorem State.lateMark_of_late (late : 0 < lateness e.due s.tmu.lineTime) : s.lateMark n e =
    some { edge := e, lateness := lateness e.due s.tmu.lineTime
           lateStop := (s.units[n].config.catchUp : Int) < lateness e.due s.tmu.lineTime } := if_neg (not_le.mpr late)

theorem State.lateMark_isSome : (s.lateMark n e).isSome = decide (0 < lateness e.due s.tmu.lineTime) := by
  unfold State.lateMark
  split
  · rename_i onTime
    exact (decide_eq_false (not_lt.mpr onTime)).symm
  · rename_i late
    exact (decide_eq_true (not_le.mp late)).symm

theorem lateness_self (t : LineTime) : lateness t t = 0 := by
  rw [lateness, BitVec.sub_self]
  rfl

end One

/-! The entries that a step reaches. -/

section Step

variable {s : State} {n : UnitNo} {f : StepEvent}

theorem StepEvent.reaches_eq (f : StepEvent) (after due : LineTime) : f.reaches after due =
    if f.backward then !later due after
    else 1 ≤ (due - f.before).toNat && (due - f.before).toNat ≤ f.advance.toNat := by
  unfold StepEvent.reaches StepEvent.inSpan
  cases f.backward <;> rfl

/-- The step at a unit when the catch-up rule outputs every entry that it reaches. -/
theorem State.unitStep_outputs (outputs : ∀ e ∈ s.units[n].queue, f.reaches s.tmu.lineTime e.due = true → s.outputs? n e) :
    s.unitStep n f = (s.units[n].queue.filter fun e => f.reaches s.tmu.lineTime e.due).foldl (State.taking (s.lateMark n) n) s :=
  State.catchUps_eq (s.edgeFuel_enough n _) outputs

/-- The step at a unit whose first reached entry ends its start. -/
theorem State.unitStep_ends {e : Edge} (first : (s.units[n].queue.filter fun e => f.reaches s.tmu.lineTime e.due).head? = some e)
    (start : e.origin = .start) (late : (s.units[n].config.catchUp : Int) < lateness e.due s.tmu.lineTime) :
    s.unitStep n f = (s.endStart n e).takeEdges n (f.reaches s.tmu.lineTime) (fun s d => s.catchUp n d) (s.units[n].queue.length + 5) := by
  rw [List.head?_filter] at first
  have turn : s.unitStep n f = match s.units[n].queue.find? (fun e => f.reaches s.tmu.lineTime e.due) with
      | none => s
      | some e => (s.catchUp n e).takeEdges n (f.reaches s.tmu.lineTime) (fun s d => s.catchUp n d) (s.units[n].queue.length + 5) := rfl
  rw [turn, first, ← State.catchUp_of_ended late start]

/-- At most six stop entries are written. -/
theorem SwUnit.length_defsOf (u : SwUnit) (origin : Origin) : (u.defsOf origin).length ≤ 6 := List.length_filter_le _ _

/-- The step at a unit whose first reached entry aborts its start: the stop entries that it reaches are output in turn. -/
theorem State.takeEdges_aborted {w : State} {u : SwUnit} {now : LineTime} {fuel : Nat} (test : LineTime → Bool)
    (aborts : u.abortsTo w.units[n] now) (enough : 6 ≤ fuel) :
    w.takeEdges n test (fun s d => s.catchUp n d) fuel =
      (w.units[n].queue.filter fun e => test e.due).foldl (State.taking (w.lateMark n) n) w := by
  have lengths := congrArg List.length aborts.queue
  rw [List.length_map, SwUnit.images, List.length_map] at lengths
  have few : w.units[n].queue.length ≤ fuel := lengths ▸ (u.length_defsOf .stop).trans enough
  refine State.catchUps_eq ((List.length_filter_le _ _).trans few) fun e mem _ start => ?_
  have image := List.mem_map_of_mem (f := Edge.image) mem
  rw [aborts.queue] at image
  obtain ⟨d, -, is⟩ := List.mem_map.mp image
  have origin : Origin.stop = e.origin := congrArg (fun i => i.2.2.2.1) is
  rw [← origin] at start
  cases start

/-- All of an aborted start's stop entries are due at the line time then: they are output at once, none of them late. -/
theorem State.takings_aborted {w : State} {u : SwUnit} {test : LineTime → Bool} (aborts : u.abortsTo w.units[n] w.tmu.lineTime)
    (reaches : test w.tmu.lineTime = true) :
    let v := (w.units[n].queue.filter fun e => test e.due).foldl (State.taking (w.lateMark n) n) w
    v.units[n].queue = [] ∧ v.units[n].state = (if u.defsOf .stop = [] then .stopping else .idle)
      ∧ v.units[n].written = w.units[n].written
      ∧ v.units[n].outputCount = w.units[n].outputCount + BitVec.ofNat 16 (u.defsOf .stop).length
      ∧ v.units[n].lateCount = w.units[n].lateCount
      ∧ v.outputs = (u.defsOf .stop).foldl (fun outputs d => outputs.set u.defs[d].output u.defs[d].high) w.outputs := by
  intro v
  have shows : ∀ e ∈ w.units[n].queue, e.due = w.tmu.lineTime ∧ e.origin = .stop := fun e mem => by
    have image := List.mem_map_of_mem (f := Edge.image) mem
    rw [aborts.queue] at image
    obtain ⟨d, -, is⟩ := List.mem_map.mp image
    exact ⟨(congrArg (fun i => i.2.2.1) is).symm, (congrArg (fun i => i.2.2.2.1) is).symm⟩
  have lengths : w.units[n].queue.length = (u.defsOf .stop).length := by
    have same := congrArg List.length aborts.queue
    rwa [List.length_map, SwUnit.images, List.length_map] at same
  have all : w.units[n].queue.filter (fun e => test e.due) = w.units[n].queue := List.filter_eq_self.mpr fun e mem => by
    rw [(shows e mem).1, reaches]
  have rest : w.units[n].queue.filter (fun e => !test e.due) = [] := List.filter_eq_nil_iff.mpr fun e mem => by
    rw [(shows e mem).1, reaches]
    nofun
  have taken := State.catchUps_unit (s := w) (n := n) (test := test) (w.lateMark n)
  have queue : v.units[n].queue = [] := taken.queue.trans rest
  refine ⟨queue, ?_, taken.same.written, ?_, ?_, ?_⟩
  · rw [taken.state_of_stop aborts.state fun e mem => (shows e mem).2]
    by_cases none_ : u.defsOf .stop = []
    · have empty : w.units[n].queue = [] := by
        rw [← List.length_eq_zero_iff, lengths, none_]
        rfl
      rw [if_pos none_, if_neg fun h => h.1 empty]
    · have some_ : w.units[n].queue ≠ [] := by
        intro empty
        rw [empty] at lengths
        exact none_ (List.length_eq_zero_iff.mp lengths.symm)
      rw [if_neg none_, if_pos ⟨some_, queue⟩]
  · rw [taken.outputCount, all, lengths]
  · have onTime : w.units[n].queue.filter (fun e => (w.lateMark n e).isSome) = [] := List.filter_eq_nil_iff.mpr fun e mem => by
      rw [State.lateMark_isSome, (shows e mem).1, lateness_self]
      decide
    rw [taken.lateCount, all, onTime]
    exact BitVec.add_zero _
  · have levels (es : List Edge) (outputs : Vector Bool 8) : edgeLevels es outputs =
        (es.map Edge.image).foldl (fun v i => v.set i.1 i.2.1) outputs := by
      rw [List.foldl_map]
      rfl
    rw [State.takings_outputs, all, levels, aborts.queue, SwUnit.images, List.foldl_map]

end Step

/-- Settles O46: the entries that are output fold over the queue, and a start that ends discards its entries first. -/
theorem lateEdgesAreCaughtUp : Obligations.LateEdgesAreCaughtUp := by
  refine ⟨fun s n e rest queue => ?_, fun s n f => ?_⟩
  · intro u t late output
    refine ⟨fun isLate within => ?_, fun isLate beyond stop => ?_, fun isLate beyond start others => ?_⟩
    · have mark := State.lateMark_of_late (n := n) isLate
      rw [decide_eq_false (not_lt.mpr within)] at mark
      have done : t = s.taking (s.lateMark n) n e := State.catchUp_of_outputs fun _ => within
      show _ ∧ _
      rw [done]
      exact State.taking_late queue mark
    · have mark := State.lateMark_of_late (n := n) isLate
      rw [decide_eq_true beyond] at mark
      have done : t = s.taking (s.lateMark n) n e := State.catchUp_of_outputs fun start => by rw [stop] at start; cases start
      show _ ∧ _
      rw [done]
      exact State.taking_late queue mark
    · have done : t = s.endStart n e := State.catchUp_of_ended beyond start
      have whole : ∀ d ∈ u.queue, d.origin = .start ∧ d.startNumber = e.startNumber := by
        intro d mem
        rw [show u.queue = e :: rest from queue] at mem
        rcases List.mem_cons.mp mem with rfl | mem
        · exact ⟨start, rfl⟩
        · exact others d mem
      have unit := s.endStart_unit (n := n) e
      have raises := s.endStart_raises (n := n) e
      have length : u.queue.length = rest.length + 1 := congrArg List.length queue
      rw [done, unit]
      refine ⟨(s.endStart_frame n e).2.2.2.2.2.2.2.2.2.2.2.2.2.2.2, fun m other => ?_, ?_⟩
      · rw [State.endStart_units]
        exact (s.putUnit_get n m _).trans (if_neg other)
      · rw [← length]
        cases edge : u.edgeMark with
        | false =>
          rw [show s.units[n].edgeMark = false from edge, if_neg Bool.false_ne_true] at raises
          rw [SwUnit.ended_missed whole edge]
          exact ⟨rfl, rfl, rfl, fun _ => ⟨rfl, rfl, raises⟩, nofun⟩
        | true =>
          rw [show s.units[n].edgeMark = true from edge, if_pos rfl] at raises
          have aborts := SwUnit.ended_aborted (now := s.tmu.lineTime) whole edge
          exact ⟨aborts.discarded, aborts.outputCount, aborts.lateCount, nofun, fun _ => ⟨aborts.state, raises, aborts.queue⟩⟩
  · intro u t takes taken stays late
    have reaches (due : LineTime) : f.reaches s.tmu.lineTime due = takes due := f.reaches_eq _ _
    have isTaken : s.units[n].queue.filter (fun e => f.reaches s.tmu.lineTime e.due) = taken :=
      congrArg (List.filter · u.queue) (funext fun e => reaches e.due)
    have isStays : s.units[n].queue.filter (fun e => !f.reaches s.tmu.lineTime e.due) = stays :=
      congrArg (List.filter · u.queue) (funext fun e => congrArg not (reaches e.due))
    refine ⟨State.unitStep_elsewhere f, State.onlyChanges_unitStep f, fun nothing => ?_, fun outputs => ?_, fun d first start beyond whole => ?_⟩
    · refine State.takeEdges_of_none fun e mem => ?_
      exact (reaches _).trans (Bool.eq_false_iff.mpr (List.filter_eq_nil_iff.mp nothing e mem))
    · have done := State.unitStep_outputs (s := s) (n := n) (f := f) fun e mem reached start =>
        outputs e (isTaken ▸ List.mem_filter.mpr ⟨mem, reached⟩) start
      have unit := State.catchUps_unit (s := s) (n := n) (test := f.reaches s.tmu.lineTime) (s.lateMark n)
      have levels := State.takings_outputs (mark := s.lateMark n) (n := n) taken s
      have raise (e : Edge) (mem : e ∈ taken) (isLate : 0 < late e) :=
        State.takings_raise (s := s) (n := n) taken mem (State.lateMark_of_late (s := s) (n := n) isLate)
      have isDone : t = taken.foldl (State.taking (s.lateMark n) n) s := by rw [← isTaken]; exact done
      rw [isTaken, ← isDone] at unit
      rw [← isDone] at levels raise
      generalize t = w at *
      have queue := unit.queue
      have count := unit.outputCount
      have lateCount := unit.lateCount
      have state := unit.state
      rw [isTaken] at count lateCount state
      rw [isStays] at queue state
      refine ⟨queue, unit.same.discarded, unit.same.written, count, ?_, fun ⟨e, mem, isLate⟩ => raise e mem isLate, state, fun o => ?_⟩
      · rw [lateCount]
        exact congrArg (fun p => u.lateCount + BitVec.ofNat 16 (taken.filter p).length) (funext fun e => State.lateMark_isSome)
      · rw [levels]
        exact edgeLevels_get _ _ _
    · have ends := State.unitStep_ends (s := s) (n := n) (f := f) (by rw [isTaken]; exact first) start beyond
      have unit := s.endStart_unit (n := n) d
      have raises := s.endStart_raises (n := n) d
      have outputs : (s.endStart n d).outputs = s.outputs := (s.endStart_frame n d).2.2.2.2.2.2.2.2.2.2.2.2.2.2.2
      have tmu : (s.endStart n d).tmu = s.tmu := (s.endStart_frame n d).2.2.2.2.2.2.1
      have isT : t = _ := ends
      generalize s.endStart n d = w at unit raises outputs tmu isT
      refine ⟨fun noEdge => ?_, fun edge => ?_⟩
      · rw [show s.units[n].edgeMark = false from noEdge, if_neg Bool.false_ne_true] at raises
        rw [SwUnit.ended_missed whole noEdge] at unit
        have same : t = w := by
          rw [isT]
          exact State.takeEdges_of_empty _ _ _ (by rw [unit])
        rw [same, unit]
        exact ⟨outputs, rfl, rfl, rfl, raises⟩
      · rw [show s.units[n].edgeMark = true from edge, if_pos rfl] at raises
        have aborts := SwUnit.ended_aborted (now := s.tmu.lineTime) whole edge
        rw [← show w.units[n] = _ from unit, ← tmu] at aborts
        have some_ : 1 ≤ s.units[n].queue.length := by
          have mem := List.mem_of_mem_filter (List.mem_of_head? first)
          exact List.length_pos_of_mem mem
        rw [State.takeEdges_aborted (f.reaches s.tmu.lineTime) aborts (by omega)] at isT
        have taken := State.catchUps_unit (s := w) (n := n) (test := f.reaches s.tmu.lineTime) (w.lateMark n)
        have keeps := State.takings_keepsPending (mark := w.lateMark n) (n := n)
          (w.units[n].queue.filter fun e => f.reaches s.tmu.lineTime e.due) w
        have all := State.takings_aborted (n := n) (w := w) (test := f.reaches s.tmu.lineTime) aborts
        rw [← isT] at taken keeps all
        refine ⟨keeps _ raises, taken.same.discarded.trans aborts.discarded, fun now => ?_⟩
        obtain ⟨queue, state, written, count, lateCount, levels⟩ := all (by rw [tmu, reaches]; exact now)
        rw [outputs] at levels
        exact ⟨queue, state, written.trans aborts.written, count.trans (congrArg (· + _) aborts.outputCount),
          lateCount.trans aborts.lateCount, levels⟩

end Sys2Proof.Machine
end

section
/-! PROOFS. What a plan makes of its own slot, and what a withdrawn claim leaves (8.5, 8.7, 8.10). -/

namespace Sys2Proof.Machine

section Planned

variable (s : State) (k : SlotNo)

/-- A planned slot waits again, or is announced. -/
def SlotState.planned (x : SlotState) : Prop := x = .announced ∨ ∃ why, x = .waiting why

theorem SlotState.waiting_of_isWaiting {x : SlotState} (waits : x.isWaiting = true) : ∃ why, x = .waiting why := by
  cases x with
  | waiting why => exact ⟨why, rfl⟩
  | _ => cases waits

/-- What a plan makes of a waiting slot: it is announced, or waits with the plan's reason (R156). -/
theorem State.planSlot_slot (waits : (s.slotState k).isWaiting = true) : ∃ x : SlotState, x.planned
    ∧ (∀ why, s.planWait? k = some why → x = .waiting why) ∧ (s.planSlot k).spl.slots[k] = { s.openSlot k with state := x } := by
  have plan := s.planSlot_of_waiting k waits
  have never : s.planWait? k = none → s.planned? k = none → False := fun free nowhere => by
    rw [State.planWait?, nowhere] at free
    revert free
    split
    · nofun
    · split <;> nofun
  generalize s.planSlot k = t at plan
  generalize s.planWait? k = wait at plan never
  generalize s.planned? k = found at plan never
  match wait, found with
  | some why, _ =>
    refine ⟨.waiting why, .inr ⟨why, rfl⟩, fun r is => by rw [Option.some.inj is], ?_⟩
    have plan : t = s.putSlot k { s.openSlot k with state := .waiting why } := plan
    rw [plan]
    exact (s.putSlot_get k k _).trans (if_pos rfl)
  | none, some start =>
    refine ⟨.announced, .inl rfl, nofun, ?_⟩
    have opened : (s.putSlot k (s.openSlot k)).spl.slots[k] = s.openSlot k := (s.putSlot_get k k _).trans (if_pos rfl)
    have plan : t = (s.putSlot k (s.openSlot k)).announce k s.spl.slots[k].unit start (s.planLength k) := plan
    have announced := State.putSlot_get (s.putSlot k (s.openSlot k)) k k
      { (s.putSlot k (s.openSlot k)).spl.slots[k] with state := .announced }
    rw [if_pos rfl, opened] at announced
    rw [plan, State.announce_spl, opened]
    exact announced
  | none, none => exact (never rfl rfl).elim

/-- A plan keeps the holds. -/
theorem State.planSlot_holds : (s.planSlot k).spl.tripHold = s.spl.tripHold ∧ (s.planSlot k).spl.scalingHold = s.spl.scalingHold := by
  cases waits : (s.slotState k).isWaiting with
  | false =>
    rw [s.planSlot_of_settled k waits]
    exact ⟨rfl, rfl⟩
  | true =>
    rw [s.planSlot_of_waiting k waits]
    split
    · exact ⟨rfl, rfl⟩
    · rw [State.announce_spl]
      exact ⟨rfl, rfl⟩
    · exact ⟨rfl, rfl⟩

/-- The state in which a slot is planned, as all are planned in turn, has that slot, the holds and the units as before. -/
theorem State.replan_from : ∃ u : State, s.sameSlot u k ∧ u.spl.tripHold = s.spl.tripHold ∧ u.spl.scalingHold = s.spl.scalingHold
    ∧ u.units = s.units ∧ u.tmu = s.tmu ∧ (u.planSlot k).sameSlot s.replan k := by
  match k with
  | 0 => exact ⟨s, .refl s 0, rfl, rfl, rfl, rfl, (s.planSlot 0).planSlot_other 1 (by decide)⟩
  | 1 =>
    obtain ⟨trip, scaling⟩ := s.planSlot_holds 0
    exact ⟨s.planSlot 0, s.planSlot_other 0 (by decide), trip, scaling, by simp, by simp, .refl _ 1⟩

/-- A waiting slot after the new plans: it is announced or waits, with its unit and its count of withdrawals (R157). -/
theorem State.replan_slot (waits : (s.slotState k).isWaiting = true) : (s.replan.slotState k).planned
    ∧ s.replan.spl.slots[k].withdrawals = s.spl.slots[k].withdrawals ∧ s.replan.spl.slots[k].unit = s.spl.slots[k].unit := by
  obtain ⟨u, same, -, -, -, -, after⟩ := s.replan_from k
  obtain ⟨x, planned, -, slot⟩ := u.planSlot_slot k (by rw [same.state]; exact waits)
  have withdrawals : u.spl.slots[k].withdrawals = s.spl.slots[k].withdrawals := congrArg Slot.withdrawals same.slot
  have unit : u.spl.slots[k].unit = s.spl.slots[k].unit := congrArg Slot.unit same.slot
  rw [State.slotState, after.slot, slot]
  exact ⟨planned, withdrawals, unit⟩

/-- A slot that was planned stays so when all are planned again. -/
theorem State.replan_planned (planned : (s.slotState k).planned) : (s.replan.slotState k).planned
    ∧ s.replan.spl.slots[k].withdrawals = s.spl.slots[k].withdrawals := by
  rcases planned with announced | ⟨why, waiting⟩
  · have same := s.replan_settled k (by rw [announced]; rfl)
    rw [same.state, same.slot]
    exact ⟨.inl announced, rfl⟩
  · obtain ⟨planned, withdrawals, -⟩ := s.replan_slot k (by rw [waiting]; rfl)
    exact ⟨planned, withdrawals⟩

/-- A waiting slot under a hold waits for it after the new plans (R167, R168). -/
theorem State.replan_held {why : WaitReason} (waits : (s.slotState k).isWaiting = true)
    (held : s.spl.tripHold = true ∧ why = .tripHold ∨ s.spl.tripHold = false ∧ s.spl.scalingHold = true
      ∧ s.units[s.spl.slots[k].unit].config.scalingBound = true ∧ why = .scalingHold) :
    s.replan.slotState k = .waiting why ∧ s.replan.spl.slots[k].withdrawals = s.spl.slots[k].withdrawals := by
  obtain ⟨u, same, trip, scaling, units, -, after⟩ := s.replan_from k
  obtain ⟨x, -, reason, slot⟩ := u.planSlot_slot k (by rw [same.state]; exact waits)
  have withdrawals : u.spl.slots[k].withdrawals = s.spl.slots[k].withdrawals := congrArg Slot.withdrawals same.slot
  have unit : u.units[u.spl.slots[k].unit].config.scalingBound = s.units[s.spl.slots[k].unit].config.scalingBound := by
    rw [units]
    exact congrArg (fun x : Slot => s.units[x.unit].config.scalingBound) same.slot
  have wait : u.planWait? k = some why := by
    rw [State.planWait?, trip, scaling, unit]
    rcases held with ⟨isTrip, rfl⟩ | ⟨noTrip, isScaling, bound, rfl⟩
    · exact if_pos isTrip
    · rw [noTrip, isScaling, bound]
      rfl
  rw [State.slotState, after.slot, slot]
  exact ⟨reason why wait, withdrawals⟩

end Planned

section Withdrawn

variable (s : State) (k : SlotNo)

/-- The ninth withdrawal frees the slot and raises CLAIM_FAILED (R161). -/
theorem State.withdraw_ninth (ninth : 9 ≤ s.spl.slots[k].withdrawals + 1) :
    (s.withdraw k).slotState k = .free ∧ (s.withdraw k).isPending (.claimFailed k) = true := by
  have only : s.withdrawOnly k = (((s.removeOwn k).queueRelease k s.spl.slots[k].unit .withdrawn).freeSlot k).raiseClaimFailed k
      .contended := if_pos ninth
  have free : (s.withdrawOnly k).slotState k = .free := by
    rw [only]
    exact congrArg Slot.state ((((s.removeOwn k).queueRelease k s.spl.slots[k].unit .withdrawn).putSlot_get k k {}).trans (if_pos rfl))
  have stays : s.withdraw k = s.withdrawOnly k := State.planSlot_of_settled _ k (by rw [free]; rfl)
  rw [stays]
  refine ⟨free, ?_⟩
  rw [only]
  exact State.isPending_raiseClaimFailed _ _ _

/-- A withdrawal before the ninth is counted, and the claim planned again (R161). -/
theorem State.withdraw_counted (fewer : s.spl.slots[k].withdrawals + 1 < 9) :
    ((s.withdraw k).slotState k).planned ∧ (s.withdraw k).spl.slots[k].withdrawals = s.spl.slots[k].withdrawals + 1 := by
  have only : s.withdrawOnly k = ((s.removeOwn k).queueRelease k s.spl.slots[k].unit .withdrawn).putSlot k
      { s.spl.slots[k] with state := .waiting .noWindow, withdrawals := s.spl.slots[k].withdrawals + 1 } := if_neg (not_le.mpr fewer)
  have slot : (s.withdrawOnly k).spl.slots[k] =
      { s.spl.slots[k] with state := .waiting .noWindow, withdrawals := s.spl.slots[k].withdrawals + 1 } := by
    rw [only]
    exact (((s.removeOwn k).queueRelease k s.spl.slots[k].unit .withdrawn).putSlot_get k k _).trans (if_pos rfl)
  obtain ⟨x, planned, -, after⟩ := (s.withdrawOnly k).planSlot_slot k (by rw [State.slotState, slot]; rfl)
  have withdrawals : (s.withdrawOnly k).spl.slots[k].withdrawals = s.spl.slots[k].withdrawals + 1 := congrArg Slot.withdrawals slot
  rw [State.slotState, State.withdraw, after]
  exact ⟨planned, withdrawals⟩

end Withdrawn

end Sys2Proof.Machine
end

section
/-! PROOFS. The settle end (R163). -/

namespace Sys2Proof.Machine

/-! The judgement at the settle end. -/

section Judged

variable {s : State} {k : SlotNo} {own : Claim}

theorem State.settleDue_of_settling {began : Count} (run : s.svp.station = .run) (settling : s.slotState k = .settling began)
    (passed : 8000 * s.config.settleMs ≤ (s.tmu.localCount - began).toNat) : s.settleDue k = true := by
  have passed : s.config.settleMs * Params.perMillisecond ≤ (s.tmu.localCount - began).toNat := by
    rw [Nat.mul_comm]
    exact passed
  rw [State.settleDue, settling]
  exact Bool.and_eq_true_iff.mpr ⟨decide_eq_true run, (s.expired_iff _ _).mpr passed⟩

/-- A SETTLING slot's own entry names the unit that the slot serves (R152). -/
theorem State.ownUnit_of_pumps (pumps : PumpsAgree s) (holds : (s.slotState k).holdsEntry = true) (entry : s.ownEntry? k = some own) :
    own.unit = s.spl.slots[k].unit := by
  obtain ⟨c, one, unit⟩ := pumps.entry k holds
  have found : s.ownEntry? k = some c := by rw [State.ownEntry?, ← List.head?_filter, one]; rfl
  rw [entry] at found
  rw [Option.some.inj found]
  exact unit

theorem State.settleEnd_of_trip (entry : s.ownEntry? k = some own) (trip : s.spl.tripHold = true) :
    s.settleEnd k = (s.holdBack k .tripHold).replan := by
  rw [State.settleEnd, entry]
  exact if_pos trip

theorem State.settleEnd_of_scaling (entry : s.ownEntry? k = some own) (noTrip : s.spl.tripHold = false)
    (scaling : (s.spl.scalingHold && s.units[own.unit].config.scalingBound) = true) :
    s.settleEnd k = (s.holdBack k .scalingHold).replan := by
  rw [State.settleEnd, entry]
  exact (if_neg (ne_true_of_eq_false noTrip)).trans (if_pos scaling)

theorem State.settleEnd_of_beaten (entry : s.ownEntry? k = some own) (noTrip : s.spl.tripHold = false)
    (noScaling : (s.spl.scalingHold && s.units[own.unit].config.scalingBound) = false)
    (beaten : (s.spl.claims.any (s.blocksFirm own) || windowBlocked s.spl.windows own.length own.start) = true) :
    s.settleEnd k = (s.withdraw k).replan := by
  rw [State.settleEnd, entry]
  exact (if_neg (ne_true_of_eq_false noTrip)).trans ((if_neg (ne_true_of_eq_false noScaling)).trans (if_pos beaten))

theorem State.settleEnd_of_firm (entry : s.ownEntry? k = some own) (noTrip : s.spl.tripHold = false)
    (noScaling : (s.spl.scalingHold && s.units[own.unit].config.scalingBound) = false)
    (unbeaten : (s.spl.claims.any (s.blocksFirm own) || windowBlocked s.spl.windows own.length own.start) = false) :
    s.settleEnd k = s.makeFirm k own := by
  rw [State.settleEnd, entry]
  exact (if_neg (ne_true_of_eq_false noTrip)).trans
    ((if_neg (ne_true_of_eq_false noScaling)).trans (if_neg (ne_true_of_eq_false unbeaten)))

/-- What beats a claim at its settle end (R163). -/
theorem State.beaten_iff : (s.spl.claims.any (s.blocksFirm own) || windowBlocked s.spl.windows own.length own.start) = true ↔
    (∃ c ∈ s.spl.claims, (c.station < s.stationNo ∨ c.firm = true ∧ c.station ≠ s.stationNo) ∧ c.overlaps own = true)
      ∨ ∃ w ∈ s.spl.windows, ∃ i, i < own.length ∧ w.activeAt (own.start + BitVec.ofNat 32 (1024 * i)) = true := by
  rw [Bool.or_eq_true, windowBlocked_iff, List.any_eq_true]
  refine or_congr_left (exists_congr fun c => and_congr_right fun _ => ?_)
  rw [State.blocksFirm, Bool.and_eq_true, Bool.or_eq_true, Bool.and_eq_true, decide_eq_true_eq, bne_iff_ne]

/-- A claim that a hold stops waits for it, uncounted (R167, R168). -/
theorem State.holdBack_replan {why : WaitReason} (held : s.spl.tripHold = true ∧ why = .tripHold ∨ s.spl.tripHold = false
      ∧ s.spl.scalingHold = true ∧ s.units[s.spl.slots[k].unit].config.scalingBound = true ∧ why = .scalingHold) :
    (s.holdBack k why).replan.slotState k = .waiting why
      ∧ (s.holdBack k why).replan.spl.slots[k].withdrawals = s.spl.slots[k].withdrawals := by
  have slot : (s.holdBack k why).spl.slots[k] = { s.spl.slots[k] with state := .waiting why } :=
    (((s.removeOwn k).queueRelease k s.spl.slots[k].unit .withdrawn).putSlot_get k k _).trans (if_pos rfl)
  have unit : (s.holdBack k why).spl.slots[k].unit = s.spl.slots[k].unit := (congrArg Slot.unit slot).trans rfl
  have withdrawals : (s.holdBack k why).spl.slots[k].withdrawals = s.spl.slots[k].withdrawals :=
    (congrArg Slot.withdrawals slot).trans rfl
  have scaling : (s.holdBack k why).units[(s.holdBack k why).spl.slots[k].unit].config.scalingBound =
      s.units[s.spl.slots[k].unit].config.scalingBound :=
    (congrArg (fun n : UnitNo => (s.holdBack k why).units[n].config.scalingBound) unit).trans rfl
  have waits : ((s.holdBack k why).slotState k).isWaiting = true := by rw [State.slotState, slot]; rfl
  rw [← scaling] at held
  rw [← withdrawals]
  exact State.replan_held _ k waits held

end Judged

/-! The claim that becomes firm. -/

section Firm

variable (s : State) (k : SlotNo)

/-- The confirmed claim stands in the table with its firm flag. -/
theorem State.confirmed_entry {own : Claim} (entry : s.ownEntry? k = some own) :
    (s.confirmed k).ownEntry? k = some { own with firm := true } := by
  have isOwn : s.isOwnEntry k own = true := List.find?_some entry
  have keeps (c : Claim) : s.isOwnEntry k (if s.isOwnEntry k c then { c with firm := true } else c) = s.isOwnEntry k c := by
    split
    · rfl
    · rfl
  show (s.spl.claims.map _).find? (s.isOwnEntry k) = _
  rw [List.find?_map, show s.isOwnEntry k ∘ _ = s.isOwnEntry k from funext keeps, show s.spl.claims.find? (s.isOwnEntry k) = some own from entry,
    Option.map_some, if_pos isOwn]

theorem State.confirmed_slots : (s.confirmed k).slotState k = .firm ∧ sameElsewhere k s.spl.slots (s.confirmed k).spl.slots :=
  ⟨congrArg Slot.state ((State.putSlot_get (s.putClaims _) k k _).trans (if_pos rfl)),
    fun j other => (State.putSlot_get (s.putClaims _) k j _).trans (if_neg other)⟩

/-- What is written into an empty queue. -/
theorem SwUnit.writes.queue_of_empty {u v : SwUnit} {origin : Origin} {due : DefNo → LineTime} {ds : List DefNo}
    (writes : u.writes v origin due ds) (empty : u.queue = []) : (v.queue.map Edge.image).Perm (u.images origin due ds) := by
  have queue := writes.queue
  rwa [empty, List.map_nil, List.append_nil] at queue

/-- A unit that takes a start: its start entries at that time (R174, R180). -/
theorem SwUnit.starts_idle {u : SwUnit} (empty : u.queue = []) (start : LineTime) :
    (u.starts start).state = .starting ∧ (u.starts start).startNumber = u.startNumber + 1 ∧ (u.starts start).edgeMark = false
      ∧ (u.starts start).written = u.written + BitVec.ofNat 16 (u.defsOf .start).length
      ∧ ((u.starts start).queue.map Edge.image).Perm ((u.defsOf .start).map fun d => (u.defs[d].output, u.defs[d].high,
          start + BitVec.ofNat 32 (u.cumulativeOffset d), Origin.start, u.startNumber + 1)) := by
  have writes := SwUnit.writes_writeEdges { u with startNumber := u.startNumber + 1, edgeMark := false } .start start
  exact ⟨rfl, writes.same.startNumber, writes.same.edgeMark, writes.written, writes.queue_of_empty empty⟩

end Firm

/-- Settles O40: the holds, then what beats the claim, and otherwise the start that its unit takes. -/
theorem settleEndJudgesTheClaim : Obligations.SettleEndJudgesTheClaim := by
  intro s k began own run settling entry pumps passed u held beaten
  have due := State.settleDue_of_settling run settling passed
  have unit := State.ownUnit_of_pumps pumps (by rw [settling]; rfl) entry
  have done (t : State) (ends : s.settleEnd k = t) : exec (.settleTimerExpiry k) s = .next t := by
    rw [← ends]
    exact congrArg Host.Outcome.next (if_pos due)
  have noTrip (free : ¬held) : s.spl.tripHold = false := Bool.eq_false_iff.mpr fun h => free (.inl h)
  have noScaling (free : ¬held) : (s.spl.scalingHold && s.units[own.unit].config.scalingBound) = false :=
    Bool.eq_false_iff.mpr fun h => free (.inr (Bool.and_eq_true_iff.mp h))
  refine ⟨fun isHeld => ?_, fun free isBeaten => ?_, fun free unbeaten clear ahead => ?_⟩
  · cases trip : s.spl.tripHold with
    | true =>
      obtain ⟨state, withdrawals⟩ := State.holdBack_replan (s := s) (k := k) (.inl ⟨trip, rfl⟩)
      exact ⟨_, .tripHold, done _ (State.settleEnd_of_trip entry trip), by simp [State.onlyChanges, Part.all, Part.same],
        state, withdrawals, rfl⟩
    | false =>
      have scaling := isHeld.resolve_left (ne_true_of_eq_false trip)
      have bound : s.units[s.spl.slots[k].unit].config.scalingBound = true :=
        (congrArg (fun n : UnitNo => s.units[n].config.scalingBound) unit).symm.trans scaling.2
      obtain ⟨state, withdrawals⟩ := State.holdBack_replan (s := s) (k := k) (.inr ⟨trip, scaling.1, bound, rfl⟩)
      exact ⟨_, .scalingHold, done _ (State.settleEnd_of_scaling entry trip (Bool.and_eq_true_iff.mpr scaling)),
        by simp [State.onlyChanges, Part.all, Part.same], state, withdrawals, rfl⟩
  · refine ⟨_, done _ (State.settleEnd_of_beaten entry (noTrip free) (noScaling free) (State.beaten_iff.mpr isBeaten)),
      by simp [State.onlyChanges, Part.all, Part.same], fun ninth => ?_, fun fewer => ?_⟩
    · obtain ⟨freed, raised⟩ := s.withdraw_ninth k ninth
      have same := (s.withdraw k).replan_settled k (by rw [freed]; rfl)
      refine ⟨same.state.trans freed, ?_⟩
      rw [State.isPending, show (s.withdraw k).replan.attention = (s.withdraw k).attention by simp]
      exact raised
    · obtain ⟨planned, withdrawals⟩ := s.withdraw_counted k fewer
      obtain ⟨plannedAgain, same⟩ := (s.withdraw k).replan_planned k planned
      exact ⟨same.trans withdrawals, plannedAgain⟩
  · have unbeaten := Bool.eq_false_iff.mpr (mt State.beaten_iff.mp unbeaten)
    have idle : u.state = .idle := by
      have isIdle := pumps.idle k (by rw [settling]; rfl)
      exact (congrArg (fun n : UnitNo => s.units[n].state) unit).trans isIdle
    have empty : u.queue = [] := (pumps.units own.unit).idle idle
    obtain ⟨state, number, edgeMark, written, queue⟩ := SwUnit.starts_idle empty own.start
    let w := (s.confirmed k).queueNotice (.claim k own.unit own.start own.length true)
    have same : w.units = s.units := by simp [w, State.confirmed]
    let v := w.putUnit own.unit (u.starts own.start)
    have isUnit : v.units[own.unit] = u.starts own.start :=
      (State.putUnit_get _ own.unit own.unit _).trans (if_pos rfl)
    have waits : v.takeReached own.unit = v := by
      refine State.takeEdges_of_none fun e mem => ?_
      rw [isUnit] at mem
      have image := queue.mem_iff.mp (List.mem_map_of_mem (f := Edge.image) mem)
      obtain ⟨d, isDef, is⟩ := List.mem_map.mp image
      have dueTime : own.start + BitVec.ofNat 32 (u.cumulativeOffset d) = e.due := congrArg (fun i => i.2.2.1) is
      have later_ := ahead d isDef
      rw [dueTime] at later_
      show (!later e.due s.tmu.lineTime) = false
      rw [later_]
      rfl
    have ends : s.settleEnd k = v := by
      have sameUnit : w.units[own.unit] = u := congrArg (fun x : Vector SwUnit 4 => x[own.unit]) same
      have taken := State.handOver_of_clear (s := w) (n := own.unit) own.start (by rw [sameUnit]; exact clear)
      rw [sameUnit] at taken
      rw [State.settleEnd_of_firm entry (noTrip free) (noScaling free) unbeaten, State.makeFirm_eq]
      exact taken.trans waits
    obtain ⟨firm, others⟩ := s.confirmed_slots k
    refine ⟨v, done _ ends, ?_, firm, s.confirmed_entry k entry, others, mem_queueIn_self s.lif.queue rfl, fun m other => ?_, ?_⟩
    · simp [v, w, State.onlyChanges, Part.all, Part.same, State.confirmed]
    · exact (State.putUnit_get _ own.unit m _).trans (if_neg other)
    · rw [isUnit]
      exact ⟨state, number, edgeMark, written, queue⟩

end Sys2Proof.Machine
end

section
/-! PROOFS. A main output of a channel (R46 to R51, R54, R61). -/

namespace Sys2Proof.Machine

/-! Rounding and clamping. -/

theorem clampInt_eq {lo hi : Int} (order : lo ≤ hi) (x : Int) : clampInt lo hi x = max lo (min hi x) := by
  unfold clampInt
  split
  · omega
  · split <;> omega

/-- The rounded quotient is the nearest integer, and the one away from zero of two. -/
theorem roundDiv_roundsTo (a : Int) {b : Nat} (positive : 0 < b) : roundsTo a b (roundDiv a b) := by
  let m := (2 * a.natAbs + b) / (2 * b)
  have low : m * (2 * b) ≤ 2 * a.natAbs + b := Nat.div_mul_le_self _ _
  have high : 2 * a.natAbs + b < m * (2 * b) + 2 * b := by
    have lt : 2 * a.natAbs + b < 2 * b * (m + 1) := Nat.lt_mul_div_succ (2 * a.natAbs + b) (by omega : 0 < 2 * b)
    rwa [Nat.mul_add, Nat.mul_one, Nat.mul_comm (2 * b)] at lt
  have double : m * (2 * b) = 2 * (m * b) := by rw [Nat.mul_left_comm]
  have is : roundDiv a b = if a < 0 then -(m : Int) else m := rfl
  have product : (m : Int) * b = (m * b : Nat) := (Nat.cast_mul _ _).symm
  unfold roundsTo
  rw [is]
  split
  · rw [Int.neg_mul, product, Int.natAbs_neg, Int.natAbs_natCast]
    constructor <;> omega
  · rw [product, Int.natAbs_natCast]
    constructor <;> omega

/-! A channel that has sampled bits. -/

section Channel

variable {s : State} {c : ChannelNo} {bits : List Bool}

theorem State.putChannel_elsewhere (x : Channel) : sameElsewhere c s.channels (s.putChannel c x).channels :=
  fun n other => (s.putChannel_get c n x).trans (if_neg other)

theorem State.putChannel_self (x : Channel) : (s.putChannel c x).channels[c] = x := (s.putChannel_get c c x).trans (if_pos rfl)

theorem Channel.mainIsDue_iff (x : Channel) : (x.sampled bits).mainIsDue = true ↔ x.running = true
    ∧ x.mainEdges + bits.length = 2 ^ x.config.k ∧ x.guardEdges + bits.length ≤ 2 ^ x.config.j := by
  rw [Channel.mainIsDue, Bool.and_eq_true, Bool.and_eq_true, decide_eq_true_eq, decide_eq_true_eq, and_assoc]
  rfl

theorem Channel.guardIsDue_iff (x : Channel) : (x.sampled bits).guardIsDue = true ↔ x.running = true
    ∧ x.guardEdges + bits.length = 2 ^ x.config.j ∧ x.mainEdges + bits.length ≤ 2 ^ x.config.k := by
  rw [Channel.guardIsDue, Bool.and_eq_true, Bool.and_eq_true, decide_eq_true_eq, decide_eq_true_eq, and_assoc]
  rfl

/-- What a saturated output notes at its channel (R50). -/
theorem State.noteSaturation_channels (saturated : Bool) : (s.noteSaturation c saturated).channels =
    s.channels.set c { s.channels[c] with saturationFlag := s.channels[c].saturationFlag || saturated } := by
  cases saturated with
  | true =>
    rw [Bool.or_true]
    rfl
  | false =>
    rw [Bool.or_false]
    exact (Vector.set_getElem_self _).symm

theorem State.noteSaturation_pending (saturated : Bool) :
    (saturated = true → (s.noteSaturation c saturated).isPending (.saturation c) = true)
      ∧ (saturated = false → (s.noteSaturation c saturated).attention = s.attention) := by
  cases saturated with
  | true => exact ⟨fun _ => State.isPending_raise _ _, nofun⟩
  | false => exact ⟨nofun, fun _ => rfl⟩

/-- A valid main output as it shows in its channel (R50, R51). -/
def Channel.takesMain (x : Channel) (r : Int) : Channel :=
  { x with
    lastMain := some { value := normaliseMain x.config.k r, reading := x.config.reading (normaliseMain x.config.k r) }
    saturationFlag := x.saturationFlag || decide (r.natAbs = x.config.mainDecimation ^ 3) }

/-- The state with a valid main output, before it enters an open set. -/
theorem State.validMain_eq (r : Int) : ∃ u : State, s.validMain c r =
      u.addToSet c (normaliseMain s.channels[c].config.k r) (r.natAbs = s.channels[c].config.mainDecimation ^ 3)
    ∧ u.channels = s.channels.set c (s.channels[c].takesMain r) ∧ u.groups = s.groups
    ∧ s.onlyChanges u [.attention, .channels]
    ∧ (r.natAbs = s.channels[c].config.mainDecimation ^ 3 → u.isPending (.saturation c) = true)
    ∧ (r.natAbs ≠ s.channels[c].config.mainDecimation ^ 3 → u.attention = s.attention) := by
  let saturated : Bool := r.natAbs = s.channels[c].config.mainDecimation ^ 3
  have channels := s.noteSaturation_channels (c := c) saturated
  obtain ⟨pending, same⟩ := s.noteSaturation_pending (c := c) saturated
  have got : (s.noteSaturation c saturated).channels[c] =
      { s.channels[c] with saturationFlag := s.channels[c].saturationFlag || saturated } :=
    (congrArg (fun v : Vector Channel 8 => v[c]) channels).trans ((s.putChannel_get c c _).trans (if_pos rfl))
  refine ⟨_, rfl, ?_, ?_, ?_, fun full => ?_, fun below => ?_⟩
  · show (s.noteSaturation c saturated).channels.set c { (s.noteSaturation c saturated).channels[c] with lastMain := _ } = _
    rw [got, channels, Vector.set_set]
    rfl
  · exact (s.noteSaturation_frame c saturated).2.2.2.2.2.2.2.2.2.2.1
  · simp [State.onlyChanges, Part.all, Part.same]
  · exact pending (decide_eq_true full)
  · exact same (decide_eq_false below)

/-- A valid main output enters the open set of its channel's group (R61). -/
theorem State.addToSet_of_open {v : Int} {saturated : Bool} {g : GroupNo} {o : OpenSet} (group : s.channels[c].config.group = some g)
    (isOpen : s.groups[g].openSet = some o) : s.addToSet c v saturated = s.putGroup g { s.groups[g] with openSet := some { o with
      members := o.members.map fun m => if m.channel = c then m.add v saturated else m } } := by
  unfold State.addToSet
  rw [group]
  dsimp only
  rw [isOpen]

theorem State.addToSet_of_none {v : Int} {saturated : Bool} (group : s.channels[c].config.group = none) :
    s.addToSet c v saturated = s := by
  unfold State.addToSet
  rw [group]

end Channel

/-- Settles O25: the discarded outputs, and the normalised one in its channel and set. -/
theorem mainOutputIsTaken : Obligations.MainOutputIsTaken := by
  intro s c bits x D inputs y due
  have none_ (h : x.running = false ∨ ¬due) : (!(x.sampled bits).mainIsDue) = true := by
    rw [Bool.not_eq_true', Bool.eq_false_iff]
    intro isDue
    obtain ⟨runs, isDue⟩ := (Channel.mainIsDue_iff x).mp isDue
    rcases h with stopped | notDue
    · rw [stopped] at runs
      cases runs
    · exact notDue isDue
  refine ⟨fun h => congrArg Host.Outcome.next (if_pos (none_ h)), fun runs isDue low high => ⟨fun early => ?_, fun valid => ?_⟩⟩
  · have isMain : ¬(!(x.sampled bits).mainIsDue) = true := by
      rw [(Channel.mainIsDue_iff x).mpr ⟨runs, isDue⟩]
      nofun
    refine ⟨s.putChannel c { y with mainDiscarded := x.mainDiscarded + 1 }, ?_, State.onlyChanges_putChannel _ _ _,
      State.putChannel_elsewhere _, State.putChannel_self _⟩
    exact congrArg Host.Outcome.next ((if_neg isMain).trans (if_pos early))
  · have isMain : ¬(!(x.sampled bits).mainIsDue) = true := by
      rw [(Channel.mainIsDue_iff x).mpr ⟨runs, isDue⟩]
      nofun
    let r := weightedSum (sincCoefficients 3 D) inputs
    have done : exec (.mainOutput c bits) s = .next ((s.putChannel c y).validMain c r) :=
      congrArg Host.Outcome.next ((if_neg isMain).trans (if_neg (not_lt.mpr valid)))
    have got : (s.putChannel c y).channels[c] = y := State.putChannel_self _
    obtain ⟨u, is, channels, groups, only, full, below⟩ := State.validMain_eq (s := s.putChannel c y) (c := c) r
    rw [got] at is channels full below
    rw [is] at done
    have change : s.onlyChanges u [.attention, .channels] :=
      State.onlyChanges_trans (State.onlyChanges_mono (State.onlyChanges_putChannel _ _ _) (by decide)) only
    have twice : u.channels = s.channels.set c (y.takesMain r) := by
      rw [channels]
      exact Vector.set_set _ _
    have isChannel : u.channels[c] = y.takesMain r :=
      (congrArg (fun v : Vector Channel 8 => v[c]) twice).trans ((s.putChannel_get c c _).trans (if_pos rfl))
    have config : u.channels[c].config = x.config := by rw [isChannel]; rfl
    let v := normaliseMain x.config.k r
    let saturated : Bool := r.natAbs = D ^ 3
    have sameChannels : (u.addToSet c v saturated).channels = u.channels := by simp
    have sameAttention : (u.addToSet c v saturated).attention = u.attention := by simp
    have whole : s.onlyChanges (u.addToSet c v saturated) [.attention, .channels, .groups] :=
      State.onlyChanges_trans (State.onlyChanges_mono change (by decide)) (by simp [State.onlyChanges, Part.all, Part.same])
    refine ⟨u.addToSet c v saturated, v, x.config.reading v, done, whole, ?_⟩
    refine ⟨⟨_, roundDiv_roundsTo r (Nat.two_pow_pos _), clampInt_eq (by decide) _⟩,
      ⟨_, roundDiv_roundsTo (v * x.config.span) (by decide), clampInt_eq (by decide) _⟩, fun n other => ?_, ?_, fun full_ => ?_,
      fun below_ => ?_, fun noGroup => ?_, fun g o group isOpen => ?_⟩
    · rw [sameChannels, twice]
      exact (s.putChannel_get c n _).trans (if_neg other)
    · rw [sameChannels, isChannel]
      rfl
    · rw [State.isPending, sameAttention]
      exact full full_
    · rw [sameAttention]
      exact below below_
    · rw [State.addToSet_of_none (by rw [config]; exact noGroup)]
      exact groups
    · have isOpen : u.groups[g].openSet = some o := by rw [groups]; exact isOpen
      rw [State.addToSet_of_open (by rw [config]; exact group) isOpen, groups]
      exact ⟨fun n other => (State.putGroup_get u g n _).trans ((if_neg other).trans (congrArg (fun v : Vector Group 2 => v[n]) groups)),
        (State.putGroup_get u g g _).trans (if_pos rfl)⟩

end Sys2Proof.Machine
end

section
/-! PROOFS. A guard output of a channel, and the stop of a bound unit (R46, R47, R52 to R58, R184). -/

namespace Sys2Proof.Machine

section StopNow

variable {s : State} {n : UnitNo}

/-- A unit in STARTING or RUNNING is stopping or IDLE after its stop (R182). -/
theorem State.writeStop_state (stop : LineTime) :
    (s.writeStop n stop).units[n].state = .stopping ∨ (s.writeStop n stop).units[n].state = .idle := by
  have state := (State.writeStop_unit (s := s) (n := n) (stop := stop)).state_of_stop rfl (s.units[n].stopped_stops stop)
  rw [state]
  split
  · exact .inr rfl
  · exact .inl rfl

theorem State.stopNow_of_active (active : s.units[n].state = .starting ∨ s.units[n].state = .running) :
    s.stopNow n = s.writeStop n s.tmu.lineTime := by
  unfold State.stopNow
  rcases active with is | is <;> rw [is] <;> rfl

theorem State.stopNow_of_calm (calm : s.units[n].state = .idle ∨ s.units[n].state = .stopping) : s.stopNow n = s := by
  unfold State.stopNow
  rcases calm with is | is <;> rw [is]

theorem State.stopNow_elsewhere : sameElsewhere n s.units (s.stopNow n).units := by
  unfold State.stopNow
  split
  · exact State.writeStop_elsewhere
  · exact State.writeStop_elsewhere
  · exact fun _ _ => rfl
  · exact fun _ _ => rfl

theorem State.stopNow_keepsPending : s.keepsPending (s.stopNow n) := Plans.keepsPending (s.stopNow_plans n)

end StopNow

section Guard

variable {s : State} {c : ChannelNo}

/-- A channel after a valid guard output (R52, R53, R55). -/
def Channel.takesGuard (x : Channel) (r : Int) : Channel :=
  { x with
    lastGuard := some (normaliseGuard x.config.j r)
    guardHistory := enterNewest Config.guardHistoryDepth x.guardHistory (normaliseGuard x.config.j r)
    guardWindow := (x.guardWindow.enter x.config.window x.config.count (x.config.excursion (normaliseGuard x.config.j r))).1
    saturationFlag := x.saturationFlag || decide (r.natAbs = x.config.guardDecimation ^ 2) }

/-- A valid guard output causes a guard limit event (R56). -/
def Channel.guardEvent (x : Channel) (r : Int) : Bool :=
  (x.guardWindow.enter x.config.window x.config.count (x.config.excursion (normaliseGuard x.config.j r))).2

/-- The state with a valid guard output, before the guard limit event that it may cause. -/
theorem State.validGuard_eq (r : Int) : ∃ u : State,
      s.validGuard c r = (if s.channels[c].guardEvent r then u.guardLimitEvent c else u)
    ∧ u.channels = s.channels.set c (s.channels[c].takesGuard r)
    ∧ s.onlyChanges u [.attention, .channels]
    ∧ (r.natAbs = s.channels[c].config.guardDecimation ^ 2 → u.isPending (.saturation c) = true)
    ∧ (r.natAbs ≠ s.channels[c].config.guardDecimation ^ 2 → u.attention = s.attention) := by
  let saturated : Bool := r.natAbs = s.channels[c].config.guardDecimation ^ 2
  have channels := s.noteSaturation_channels (c := c) saturated
  obtain ⟨pending, same⟩ := s.noteSaturation_pending (c := c) saturated
  have got : (s.noteSaturation c saturated).channels[c] =
      { s.channels[c] with saturationFlag := s.channels[c].saturationFlag || saturated } :=
    (congrArg (fun v : Vector Channel 8 => v[c]) channels).trans ((s.putChannel_get c c _).trans (if_pos rfl))
  have is : s.validGuard c r = (if s.channels[c].guardEvent r then
      ((s.noteSaturation c saturated).putChannel c (s.channels[c].takesGuard r)).guardLimitEvent c
      else (s.noteSaturation c saturated).putChannel c (s.channels[c].takesGuard r)) := by
    unfold State.validGuard
    dsimp only
    rw [show (s.noteSaturation c (decide (r.natAbs = s.channels[c].config.guardDecimation ^ 2))).channels[c] = _ from got]
    rfl
  refine ⟨_, is, ?_, ?_, fun full => ?_, fun below => ?_⟩
  · show (s.noteSaturation c saturated).channels.set c (s.channels[c].takesGuard r) = _
    rw [channels, Vector.set_set]
  · simp [State.onlyChanges, Part.all, Part.same]
  · exact pending (decide_eq_true full)
  · exact same (decide_eq_false below)

/-- A guard limit event without a bound unit: the flag and the cause (R56, R57). -/
def State.guardNoted (s : State) (c : ChannelNo) : State :=
  (s.putChannel c { s.channels[c] with guardLimitFlag := true }).raise (.guardLimit c)

theorem State.guardNoted_channel : (s.guardNoted c).channels[c] = { s.channels[c] with guardLimitFlag := true } :=
  (s.putChannel_get c c _).trans (if_pos rfl)

theorem State.guardLimitEvent_eq : s.guardLimitEvent c =
    match s.channels[c].config.bound with
    | some u => (s.guardNoted c).stopNow u
    | none => s.guardNoted c := by
  have bound : (s.guardNoted c).channels[c].config.bound = s.channels[c].config.bound := by rw [State.guardNoted_channel]
  show (match (s.guardNoted c).channels[c].config.bound with | some u => (s.guardNoted c).stopNow u | none => s.guardNoted c) = _
  rw [bound]

theorem normaliseGuard_eq (j : Nat) (r : Int) : normaliseGuard j r = min 32767 (r * 2 ^ (15 - 2 * j)) := by
  rw [normaliseGuard]
  push_cast
  rfl

/-- What a guard limit event changes, and what it leaves (R56, R57, R184). -/
theorem State.guardLimitEvent_stops : (s.guardLimitEvent c).channels = (s.guardNoted c).channels
    ∧ (s.guardLimitEvent c).isPending (.guardLimit c) = true ∧ s.keepsPending (s.guardLimitEvent c)
    ∧ (s.channels[c].config.bound = none → s.guardLimitEvent c = s.guardNoted c)
    ∧ ∀ u, s.channels[c].config.bound = some u → s.guardLimitEvent c = (s.guardNoted c).stopNow u := by
  have raises : (s.guardNoted c).isPending (.guardLimit c) = true := State.isPending_raise _ _
  have keeps : s.keepsPending (s.guardNoted c) :=
    (s.putChannel c { s.channels[c] with guardLimitFlag := true }).keepsPending_raiseIn (.guardLimit c) none _
  have is := s.guardLimitEvent_eq (c := c)
  cases bound : s.channels[c].config.bound with
  | none =>
    rw [bound] at is
    exact ⟨by rw [is], by rw [is]; exact raises, by rw [is]; exact keeps, fun _ => is, nofun⟩
  | some u =>
    rw [bound] at is
    refine ⟨by rw [is]; simp, ?_, ?_, nofun, fun v same => ?_⟩
    · rw [is]
      exact State.stopNow_keepsPending _ raises
    · rw [is]
      exact State.keepsPending_trans keeps State.stopNow_keepsPending
    · rw [← Option.some.inj same]
      exact is

end Guard

/-- Settles O26: the discarded output, and the normalised one in its history and window, with the stop that it may cause. -/
theorem guardOutputIsTaken : Obligations.GuardOutputIsTaken := by
  intro s c bits x D inputs y due
  have isGuard (runs : x.running = true) (isDue : due) : ¬(!(x.sampled bits).guardIsDue) = true := by
    rw [(Channel.guardIsDue_iff x).mpr ⟨runs, isDue⟩]
    nofun
  have none_ (h : x.running = false ∨ ¬due) : (!(x.sampled bits).guardIsDue) = true := by
    rw [Bool.not_eq_true', Bool.eq_false_iff]
    intro isDue
    obtain ⟨runs, isDue⟩ := (Channel.guardIsDue_iff x).mp isDue
    rcases h with stopped | notDue
    · rw [stopped] at runs
      cases runs
    · exact notDue isDue
  refine ⟨fun h => congrArg Host.Outcome.next (if_pos (none_ h)),
    fun runs isDue _ _ _ _ => ⟨fun early => ?_, fun valid => ?_⟩⟩
  · refine ⟨s.putChannel c { y with guardDiscarded := x.guardDiscarded + 1 }, ?_, State.onlyChanges_putChannel _ _ _,
      State.putChannel_elsewhere _, State.putChannel_self _⟩
    exact congrArg Host.Outcome.next ((if_neg (isGuard runs isDue)).trans (if_pos early))
  · let r := weightedSum (sincCoefficients 2 D) inputs
    have done : exec (.guardOutput c bits) s = .next ((s.putChannel c y).validGuard c r) :=
      congrArg Host.Outcome.next ((if_neg (isGuard runs isDue)).trans (if_neg (not_lt.mpr valid)))
    refine ⟨_, done, ?_⟩
    intro r v saturated excursion all results reached event
    have got : (s.putChannel c y).channels[c] = y := State.putChannel_self _
    obtain ⟨u, is, channels, only, full, below⟩ := State.validGuard_eq (s := s.putChannel c y) (c := c) r
    rw [got] at is channels full below
    have isV : normaliseGuard x.config.j r = v := normaliseGuard_eq _ _
    have isResults : x.guardWindow.after x.config.window excursion = results := by
      show (x.guardWindow.results ++ [excursion]).drop _ = all.drop (all.length - x.config.window)
      rw [show all.length = x.guardWindow.results.length + 1 from List.length_append]
    have window : x.guardWindow.enter x.config.window x.config.count (x.config.excursion (normaliseGuard x.config.j r)) =
        ({ results := results, armed := !reached }, event) := by
      have isReached : x.guardWindow.countReached x.config.window x.config.count excursion = reached := by
        rw [Window.countReached, isResults]
      rw [isV, Window.enter_eq, show x.config.excursion v = excursion from rfl, isReached, isResults]
    have isEvent : y.guardEvent r = event := congrArg Prod.snd window
    have taken : y.takesGuard r = { y with
        lastGuard := some v
        guardHistory := (x.guardHistory ++ [v]).drop (x.guardHistory.length + 1 - 8)
        guardWindow := { results := results, armed := !reached }
        saturationFlag := x.saturationFlag || decide saturated } := by
      unfold Channel.takesGuard
      rw [show y.guardWindow.enter y.config.window y.config.count (y.config.excursion (normaliseGuard y.config.j r)) = _ from window,
        show normaliseGuard y.config.j r = v from isV]
      rfl
    have twice : u.channels = s.channels.set c (y.takesGuard r) := by
      rw [channels]
      exact Vector.set_set _ _
    have isChannel : u.channels[c] = y.takesGuard r :=
      (congrArg (fun v : Vector Channel 8 => v[c]) twice).trans ((s.putChannel_get c c _).trans (if_pos rfl))
    rw [isEvent] at is
    rw [taken] at isChannel twice
    have elsewhere : sameElsewhere c s.channels u.channels := fun n other => by
      rw [twice]
      exact (s.putChannel_get c n _).trans (if_neg other)
    have change : s.onlyChanges u [.attention, .channels] :=
      State.onlyChanges_trans (State.onlyChanges_mono (State.onlyChanges_putChannel _ _ _) (by decide)) only
    cases eventIs : event with
    | false =>
      rw [eventIs, if_neg Bool.false_ne_true] at is
      rw [is]
      refine ⟨elsewhere, ?_, full, fun _ => below, nofun, fun _ => change, nofun⟩
      rw [Bool.or_false]
      exact isChannel
    | true =>
      rw [eventIs, if_pos rfl] at is
      obtain ⟨sameChannels, raises, keeps, alone, bound⟩ := u.guardLimitEvent_stops (c := c)
      have notedChannels : (u.guardNoted c).channels = u.channels.set c { u.channels[c] with guardLimitFlag := true } := rfl
      have config : u.channels[c].config.bound = x.config.bound := by rw [isChannel]
      have noted : s.onlyChanges (u.guardNoted c) [.attention, .channels] :=
        State.onlyChanges_trans change (by simp [State.onlyChanges, Part.all, Part.same, State.guardNoted])
      have notedUnits : (u.guardNoted c).units = s.units := noted.2 .units (by decide)
      have notedOutputs : (u.guardNoted c).outputs = s.outputs := noted.2 .outputs (by decide)
      rw [is, sameChannels, notedChannels]
      refine ⟨fun n other => ((State.putChannel_get u c n _).trans (if_neg other)).trans (elsewhere n other), ?_,
        fun saturated => keeps _ (full saturated), nofun, fun _ => raises, fun h => ?_, fun m _ isBound => ?_⟩
      · rw [Bool.or_true]
        refine ((State.putChannel_get u c c _).trans (if_pos rfl)).trans ?_
        rw [isChannel]
      · rw [alone (config.trans (h.resolve_left nofun))]
        exact noted
      · rw [bound m (config.trans isBound)]
        refine ⟨State.onlyChanges_trans (State.onlyChanges_mono noted (by decide)) (by simp [State.onlyChanges, Part.all, Part.same]),
          ?_, fun active => ?_, fun calm => ?_⟩
        · rw [← notedUnits]
          exact State.stopNow_elsewhere
        · rw [← notedUnits] at active
          rw [State.stopNow_of_active active]
          exact State.writeStop_state _
        · rw [← notedUnits] at calm ⊢
          rw [State.stopNow_of_calm calm, notedOutputs]
          exact ⟨rfl, rfl⟩

end Sys2Proof.Machine
end

section
/-! PROOFS. The close of a group's open set: the ring, the latest set values and the watch (R62 to R69, R126). -/

namespace Sys2Proof.Machine

/-! The ring (R67 to R69). -/

section Ring

variable {s : State} {g : GroupNo}

/-- A group whose ring mark has counted a set (R69). -/
def Group.countsMark (x : Group) : Group :=
  if x.ringMark = 0 then x
  else if x.ringMark ≤ x.markCounter + 1 then { x with markCounter := 0 } else { x with markCounter := x.markCounter + 1 }

theorem State.countMark_groups : (s.countMark g).groups = s.groups.set g s.groups[g].countsMark := by
  unfold State.countMark Group.countsMark
  dsimp only
  split
  · exact (Vector.set_getElem_self _).symm
  · split <;> rfl

theorem State.countMark_raises (marks : 0 < s.groups[g].ringMark) (full : s.groups[g].ringMark ≤ s.groups[g].markCounter + 1) :
    (s.countMark g).isPending (.ringMark g) = true := by
  have is : s.countMark g = (s.putGroup g { s.groups[g] with markCounter := 0 }).raise (.ringMark g) :=
    (if_neg (Nat.ne_of_gt marks)).trans (if_pos full)
  rw [is]
  exact State.isPending_raise _ _

theorem State.countMark_keepsPending : s.keepsPending (s.countMark g) := by
  unfold State.countMark
  dsimp only
  split
  · exact fun _ h => h
  · split
    · exact (s.putGroup g { s.groups[g] with markCounter := 0 }).keepsPending_raiseIn (.ringMark g) none _
    · exact fun _ h => h

theorem State.lossNoted_raises : (s.lossNoted g true).isPending (.ringOverrun g) = true := State.isPending_raise _ _

variable {x : Group} {record : SetRecord}

theorem State.enterRing_groups : ((s.putGroup g x).enterRing g record).groups = s.groups.set g (x.ringEntered record).countsMark := by
  have groups : (s.lossNoted g x.reportsLoss).groups = s.groups := by unfold State.lossNoted; split <;> rfl
  rw [State.enterRing_eq, State.countMark_groups, State.putGroup_get, if_pos rfl]
  show ((s.lossNoted g x.reportsLoss).groups.set g _).set g _ = _
  rw [Vector.set_set, groups]

/-- A loss that is reported raises RING_OVERRUN (R68). -/
theorem State.enterRing_overrun (reports : x.reportsLoss = true) :
    ((s.putGroup g x).enterRing g record).isPending (.ringOverrun g) = true := by
  rw [State.enterRing_eq, reports]
  exact State.countMark_keepsPending (s := (s.lossNoted g true).putGroup g (x.ringEntered record)) _ State.lossNoted_raises

theorem State.enterRing_marks (marks : 0 < x.ringMark) (full : x.ringMark ≤ x.markCounter + 1) :
    ((s.putGroup g x).enterRing g record).isPending (.ringMark g) = true := by
  have got : ((s.lossNoted g x.reportsLoss).putGroup g (x.ringEntered record)).groups[g] = x.ringEntered record :=
    (State.putGroup_get _ g g _).trans (if_pos rfl)
  rw [State.enterRing_eq]
  exact State.countMark_raises (by rw [got]; exact marks) (by rw [got]; exact full)

end Ring

/-! The latest set values (R66). -/

section Latest

/-- A channel that takes a reading as its latest set value. -/
def Channel.takesLatest (x : Channel) (r : Reading) : Channel := { x with latest := r.value, latestSaturated := r.saturated }

/-- Each channel takes its own reading; the others stay. -/
theorem State.takeLatest_channels {rs : List Reading} (apart : (rs.map Reading.channel).Nodup) (s : State) :
    (∀ r ∈ rs, (rs.foldl State.takeLatest s).channels[r.channel] = s.channels[r.channel].takesLatest r)
      ∧ ∀ c, c ∉ rs.map Reading.channel → (rs.foldl State.takeLatest s).channels[c] = s.channels[c] := by
  induction rs generalizing s with
  | nil => exact ⟨nofun, fun _ _ => rfl⟩
  | cons r rs ih =>
    obtain ⟨new, apart⟩ := List.nodup_cons.mp apart
    obtain ⟨taken, others⟩ := ih apart (s.takeLatest r)
    have put (c : ChannelNo) : (s.takeLatest r).channels[c] = if c = r.channel then s.channels[r.channel].takesLatest r else s.channels[c] :=
      s.putChannel_get r.channel c _
    refine ⟨fun x mem => ?_, fun c out => ?_⟩
    · rcases List.mem_cons.mp mem with rfl | mem
      · rw [List.foldl_cons, others _ new, put, if_pos rfl]
      · have other : x.channel ≠ r.channel := fun same => new (same ▸ List.mem_map_of_mem mem)
        rw [List.foldl_cons, taken x mem, put, if_neg other]
    · obtain ⟨other, out⟩ := not_or.mp (mt List.mem_cons.mpr out)
      rw [List.foldl_cons, others c out, put, if_neg other]

/-- The readings change the channels alone. -/
theorem State.onlyChanges_takeLatest (rs : List Reading) (s : State) : s.onlyChanges (rs.foldl State.takeLatest s) [.channels] :=
  foldl_holds State.takeLatest (fun t => s.onlyChanges t [.channels])
    (fun t r h => State.onlyChanges_trans h (State.onlyChanges_putChannel t r.channel _)) rs s (State.onlyChanges_refl s _)

end Latest

/-! The scaling watch (R126). -/

section Watch

/-- An accumulator that has looked for its channel in a set record. -/
def Accumulator.added (a : Accumulator) (record : SetRecord) (channel : Option ChannelNo) : Accumulator :=
  match channel.bind fun c => record.readings.find? (·.channel = c) with
  | some { channel := _, value := some v, saturated := false } => { sum := a.sum + v, count := a.count + 1 }
  | _ => a

theorem Accumulator.take_eq (a : Accumulator) (record : SetRecord) (channel : Option ChannelNo) :
    a.take record channel = a.added record channel := by
  unfold Accumulator.take Accumulator.added usableReading
  have bound (found : Option Reading) : (match found.bind fun r => if r.saturated then none else r.value with
      | some v => ({ sum := a.sum + v, count := a.count + 1 } : Accumulator)
      | none => a) = match found with
        | some { channel := _, value := some v, saturated := false } => { sum := a.sum + v, count := a.count + 1 }
        | _ => a := by
    match found with
    | none => rfl
    | some { channel := _, value := none, saturated := true } => rfl
    | some { channel := _, value := none, saturated := false } => rfl
    | some { channel := _, value := some _, saturated := true } => rfl
    | some { channel := _, value := some _, saturated := false } => rfl
  cases channel with
  | none => rfl
  | some c => exact bound (record.readings.find? (·.channel = c))

variable {s : State} {record : SetRecord}

theorem State.setToWatch_of_none (idle : s.scw.active = false ∨ s.scw.interval = none) : s.setToWatch record = s := by
  have none_ : s.watchInterval? = none := by
    unfold State.watchInterval?
    rcases idle with inactive | closed
    · exact if_neg (ne_true_of_eq_false inactive)
    · split
      · exact closed
      · rfl
  rw [State.setToWatch, none_]

theorem State.setToWatch_of_open {i : Interval} (active : s.scw.active = true) (isOpen : s.scw.interval = some i) :
    s.setToWatch record = s.putScw { s.scw with interval := some { i with
      hotIn := i.hotIn.added record s.scw.config.hotIn, hotOut := i.hotOut.added record s.scw.config.hotOut
      coldIn := i.coldIn.added record s.hmt.config.ret, coldOut := i.coldOut.added record s.hmt.config.supply
      pressure := i.pressure.added record s.scw.config.pressure } } := by
  rw [State.setToWatch, State.watchInterval?_of_open s active isOpen]
  simp only [Accumulator.take_eq]

theorem State.onlyChanges_setToWatch : s.onlyChanges (s.setToWatch record) [.scw] := by
  unfold State.setToWatch
  split
  · exact State.onlyChanges_refl s _
  · exact State.onlyChanges_putScw _ _

end Watch

end Sys2Proof.Machine
end

section
/-! PROOFS. The close of an open set as a whole, at its boundary and at a step (R62 to R69). -/

namespace Sys2Proof.Machine

section Marked

variable (x : Group)

/-- What the ring mark leaves of a group. -/
theorem Group.countsMark_same : x.countsMark.ring = x.ring ∧ x.countsMark.nextSequence = x.nextSequence
    ∧ x.countsMark.periodMs = x.periodMs ∧ x.countsMark.ringMark = x.ringMark ∧ x.countsMark.overrunCount = x.overrunCount
    ∧ x.countsMark.overrunMark = x.overrunMark ∧ x.countsMark.openSet = x.openSet := by
  unfold Group.countsMark
  split
  · exact ⟨rfl, rfl, rfl, rfl, rfl, rfl, rfl⟩
  · split <;> exact ⟨rfl, rfl, rfl, rfl, rfl, rfl, rfl⟩

theorem Group.countsMark_counter : (x.ringMark = 0 → x.countsMark.markCounter = x.markCounter)
    ∧ (0 < x.ringMark → x.markCounter + 1 < x.ringMark → x.countsMark.markCounter = x.markCounter + 1)
    ∧ (0 < x.ringMark → x.ringMark ≤ x.markCounter + 1 → x.countsMark.markCounter = 0) := by
  unfold Group.countsMark
  refine ⟨fun none_ => ?_, fun marks fewer => ?_, fun marks full => ?_⟩
  · rw [if_pos none_]
  · rw [if_neg (Nat.ne_of_gt marks), if_neg (Nat.not_le.mpr fewer)]
  · rw [if_neg (Nat.ne_of_gt marks), if_pos full]

/-- A loss: the oldest set of a full ring is unread (R68). -/
def Group.loses : Prop := 64 ≤ x.ring.length ∧ ∃ oldest, x.ring.head? = some oldest ∧ oldest.unread = true

theorem Group.reportsLoss_iff : x.reportsLoss = true ↔ x.loses ∧ x.overrunMark = false := by
  have unread : x.ring.head?.any (·.unread) = true ↔ ∃ oldest, x.ring.head? = some oldest ∧ oldest.unread = true := by
    rw [Option.any_eq_true]
  rw [Group.reportsLoss, Bool.and_eq_true, Bool.and_eq_true, decide_eq_true_eq, unread, Bool.not_eq_true']
  exact Iff.rfl

end Marked

section Closed

variable {s : State} {g : GroupNo} {o : OpenSet} {endTime : LineTime} {nextShort : Bool}

/-- A group whose set has closed: the next sequence number, and the next set open (R65, R67). -/
def State.groupClosed (s : State) (g : GroupNo) (endTime : LineTime) (nextShort : Bool) : Group :=
  { s.groups[g] with
    nextSequence := s.groups[g].nextSequence + 1
    openSet := some (openSetAt (s.members g) s.groups[g].periodUs endTime nextShort) }

/-- The record of the set that closes. -/
def State.closedRecord (s : State) (g : GroupNo) (o : OpenSet) (endTime : LineTime) : SetRecord :=
  s.setRecord o s.groups[g].nextSequence endTime

/-- The state in which the record has entered the ring. -/
def State.ringedSet (s : State) (g : GroupNo) (o : OpenSet) (endTime : LineTime) (nextShort : Bool) : State :=
  (s.putGroup g (s.groupClosed g endTime nextShort)).enterRing g (s.closedRecord g o endTime)

theorem State.closeSet_eq : s.closeSet g o endTime nextShort =
    ((s.closedRecord g o endTime).readings.foldl State.takeLatest (s.ringedSet g o endTime nextShort)).setToWatch
      (s.closedRecord g o endTime) := rfl

theorem State.closeSet_groups : (s.closeSet g o endTime nextShort).groups =
    s.groups.set g ((s.groupClosed g endTime nextShort).ringEntered (s.closedRecord g o endTime)).countsMark := by
  rw [State.closeSet_eq, (State.onlyChanges_setToWatch.2 .groups (by decide) : _ = _),
    ((State.onlyChanges_takeLatest _ _).2 .groups (by decide) : _ = _)]
  exact State.enterRing_groups

theorem State.closeSet_attention : (s.closeSet g o endTime nextShort).attention = (s.ringedSet g o endTime nextShort).attention := by
  rw [State.closeSet_eq, (State.onlyChanges_setToWatch.2 .attention (by decide) : _ = _)]
  exact (State.onlyChanges_takeLatest _ _).2 .attention (by decide)

theorem State.ringedSet_same : (s.ringedSet g o endTime nextShort).channels = s.channels
    ∧ (s.ringedSet g o endTime nextShort).scw = s.scw ∧ (s.ringedSet g o endTime nextShort).hmt = s.hmt := by
  simp [State.ringedSet]

/-- The members take their readings of the record as their latest set values (R66). -/
theorem State.closeSet_channels (apart : (o.members.map (·.channel)).Nodup) :
    (∀ r ∈ (s.closedRecord g o endTime).readings, (s.closeSet g o endTime nextShort).channels[r.channel] =
      s.channels[r.channel].takesLatest r)
    ∧ ∀ c, c ∉ o.members.map (·.channel) → (s.closeSet g o endTime nextShort).channels[c] = s.channels[c] := by
  have channels : (s.closedRecord g o endTime).readings.map Reading.channel = o.members.map (·.channel) :=
    List.map_map.trans (List.map_congr_left fun _ _ => rfl)
  obtain ⟨taken, others⟩ := State.takeLatest_channels (rs := (s.closedRecord g o endTime).readings) (by rw [channels]; exact apart)
    (s.ringedSet g o endTime nextShort)
  rw [State.ringedSet_same.1, channels] at others
  rw [State.ringedSet_same.1] at taken
  rw [State.closeSet_eq, (State.onlyChanges_setToWatch.2 .channels (by decide) : _ = _)]
  exact ⟨taken, others⟩

/-- The watch takes the readings of the record, when an interval of it is open (R126). -/
theorem State.closeSet_scw : (s.scw.active = false ∨ s.scw.interval = none → (s.closeSet g o endTime nextShort).scw = s.scw)
    ∧ ∀ i, s.scw.active = true → s.scw.interval = some i → (s.closeSet g o endTime nextShort).scw =
      { s.scw with interval := some { i with
        hotIn := i.hotIn.added (s.closedRecord g o endTime) s.scw.config.hotIn
        hotOut := i.hotOut.added (s.closedRecord g o endTime) s.scw.config.hotOut
        coldIn := i.coldIn.added (s.closedRecord g o endTime) s.hmt.config.ret
        coldOut := i.coldOut.added (s.closedRecord g o endTime) s.hmt.config.supply
        pressure := i.pressure.added (s.closedRecord g o endTime) s.scw.config.pressure } } := by
  obtain ⟨-, scw, hmt⟩ := State.ringedSet_same (s := s) (g := g) (o := o) (endTime := endTime) (nextShort := nextShort)
  have only := State.onlyChanges_takeLatest (s.closedRecord g o endTime).readings (s.ringedSet g o endTime nextShort)
  rw [State.closeSet_eq]
  generalize (s.closedRecord g o endTime).readings.foldl State.takeLatest (s.ringedSet g o endTime nextShort) = w at only
  have isScw : w.scw = s.scw := (only.2 .scw (by decide) : _ = _).trans scw
  have isHmt : w.hmt = s.hmt := (only.2 .hmt (by decide) : _ = _).trans hmt
  refine ⟨fun idle => ?_, fun i active isOpen => ?_⟩
  · rw [State.setToWatch_of_none (by rw [isScw]; exact idle)]
    exact isScw
  · rw [State.setToWatch_of_open (i := i) (by rw [isScw]; exact active) (by rw [isScw]; exact isOpen), isScw, isHmt]
    rfl

theorem State.onlyChanges_closeSet : s.onlyChanges (s.closeSet g o endTime nextShort) [.attention, .channels, .groups, .scw] := by
  simp [State.onlyChanges, Part.all, Part.same]

end Closed

/-- Settles O27: the group, the channels and the watch after the close. -/
theorem setsCloseAtBoundariesAndSteps : Obligations.SetsCloseAtBoundariesAndSteps := by
  intro s g o isOpen apart x closes
  have period : x.periodUs = 1000 * x.periodMs := Nat.mul_comm _ _
  have main (endTime : LineTime) (short nextShort : Bool) :
      closes (s.closeSet g { o with short := short } endTime nextShort) endTime short nextShort := by
    let record : SetRecord := s.closedRecord g { o with short := short } endTime
    let full : Prop := 64 ≤ x.ring.length
    let loss : Prop := full ∧ ∃ oldest, x.ring.head? = some oldest ∧ oldest.unread = true
    let y := (s.closeSet g { o with short := short } endTime nextShort).groups[g]
    have groups := State.closeSet_groups (s := s) (g := g) (o := { o with short := short }) (endTime := endTime) (nextShort := nextShort)
    have attention := State.closeSet_attention (s := s) (g := g) (o := { o with short := short }) (endTime := endTime) (nextShort := nextShort)
    have channels := State.closeSet_channels (s := s) (g := g) (o := { o with short := short }) (endTime := endTime) (nextShort := nextShort) apart
    have scw := State.closeSet_scw (s := s) (g := g) (o := { o with short := short }) (endTime := endTime) (nextShort := nextShort)
    have isRecord : s.closedRecord g { o with short := short } endTime = record := rfl
    rw [isRecord] at groups channels scw
    have isY : y = ((s.groupClosed g endTime nextShort).ringEntered record).countsMark :=
      (congrArg (fun v : Vector Group 2 => v[g]) groups).trans ((s.putGroup_get g g _).trans (if_pos rfl))
    obtain ⟨ring, sequence, periodMs, ringMark, overrunCount, overrunMark, openSet⟩ :=
      ((s.groupClosed g endTime nextShort).ringEntered record).countsMark_same
    obtain ⟨unmarked, fewer, marked⟩ := ((s.groupClosed g endTime nextShort).ringEntered record).countsMark_counter
    rw [← isY] at ring sequence periodMs ringMark overrunCount overrunMark openSet unmarked fewer marked
    have reports : (s.groupClosed g endTime nextShort).reportsLoss = true ↔ loss ∧ x.overrunMark = false :=
      (s.groupClosed g endTime nextShort).reportsLoss_iff
    have ringed : y.ring = (if full then x.ring.tail else x.ring) ++ [{ record := record, unread := true }] := by
      rw [ring]
      refine congrArg (· ++ [({ record := record, unread := true } : RingSet)]) ?_
      show (if x.ring.length < 64 then x.ring else x.ring.tail) = _
      by_cases isFull : full
      · rw [if_pos isFull, if_neg (Nat.not_lt.mpr isFull)]
      · rw [if_neg isFull, if_pos (Nat.not_le.mp isFull)]
    have opened : openSetAt (s.members g) x.periodUs endTime nextShort =
        { members := (s.members g).map fun c => { channel := c, sum := 0, count := 0, saturated := false }
          short := nextShort
          nextBoundary :=
            let next := (endTime.toNat / (1000 * x.periodMs) + 1) * (1000 * x.periodMs)
            if next < 2 ^ 32 then BitVec.ofNat 32 next else 0 } := by
      rw [period]
      rfl
    refine ⟨State.onlyChanges_closeSet, fun n other => ?_, ringed, sequence, periodMs, ringMark, fun isLoss => ⟨?_, fun unreported => ⟨?_, ?_⟩⟩,
      fun noReport => ⟨?_, ?_⟩, unmarked, fewer, fun marks isFull => ⟨marked marks isFull, ?_⟩, openSet.trans (congrArg some opened),
      channels.1, channels.2, scw.1, scw.2⟩
    · rw [groups]
      exact (s.putGroup_get g n _).trans (if_neg other)
    · rw [overrunMark]
      show (x.overrunMark || (s.groupClosed g endTime nextShort).reportsLoss) = true
      cases noted : x.overrunMark with
      | true => rfl
      | false => exact reports.mpr ⟨isLoss, noted⟩
    · rw [overrunCount]
      exact if_pos (reports.mpr ⟨isLoss, unreported⟩)
    · rw [State.isPending, attention]
      exact State.enterRing_overrun (reports.mpr ⟨isLoss, unreported⟩)
    · have silent : ¬(s.groupClosed g endTime nextShort).reportsLoss = true := fun is => by
        obtain ⟨isLoss, unreported⟩ := reports.mp is
        rw [unreported] at noReport
        exact noReport.elim (· isLoss) nofun
      rw [overrunCount]
      exact if_neg silent
    · rw [overrunMark]
      show (x.overrunMark || (s.groupClosed g endTime nextShort).reportsLoss) = x.overrunMark
      cases noted : x.overrunMark with
      | true => rfl
      | false =>
        rw [Bool.false_or, Bool.eq_false_iff]
        intro is
        rw [noted] at noReport
        exact noReport.elim (· (reports.mp is).1) nofun
    · rw [State.isPending, attention]
      exact State.enterRing_marks marks isFull
  refine ⟨fun run due => ⟨_, ?_, main o.nextBoundary o.short false⟩, fun run later_ => ?_, fun e => ?_⟩
  · have isDue : s.setIsDue g = true := by
      rw [State.setIsDue, isOpen, show s.inRun = true from decide_eq_true run]
      exact reached_iff.mpr due
    refine congrArg Host.Outcome.next ?_
    rw [isOpen]
    exact if_pos isDue
  · have waits : ¬s.setIsDue g = true := by
      rw [State.setIsDue, isOpen]
      intro isDue
      have due := reached_iff.mp (Bool.and_eq_true_iff.mp isDue).2
      exact Bool.false_ne_true (due.symm.trans later_)
    refine congrArg Host.Outcome.next ?_
    rw [isOpen]
    exact if_neg waits
  · intro crossed
    have crosses : e.crosses o.nextBoundary x.periodUs = true ↔ crossed := by
      rw [StepEvent.crosses_iff, period]
    have step : s.groupStep g e = if e.crosses o.nextBoundary x.periodUs then s.closeSet g { o with short := true } s.now true else s := by
      rw [State.groupStep, isOpen]
    rw [step]
    refine ⟨fun yes => ?_, fun no => if_neg (mt crosses.mp no)⟩
    rw [if_pos (crosses.mpr yes)]
    exact main s.tmu.lineTime true true

end Sys2Proof.Machine
end

section
/-! PROOFS. The pulse inputs, and a slave edge (R73, R76, R77, R92, R94). -/

namespace Sys2Proof.Machine

/-! The period's sample (R73). -/

section Sample

variable {s : State} {sample : BitVec 8}

theorem PulseInputs.admits_iff {p : PulseInputs} : p.admits sample = true ↔ p.now = none ∨ p.now = some sample := by
  unfold PulseInputs.admits
  cases p.now with
  | none => simp
  | some told => simp

theorem PulseInputs.not_admits {p : PulseInputs} (other : ∃ told, p.now = some told ∧ told ≠ sample) : (!p.admits sample) = true := by
  obtain ⟨told, is, apart⟩ := other
  rw [Bool.not_eq_true', Bool.eq_false_iff, Ne, PulseInputs.admits_iff, is]
  rintro (none_ | same)
  · cases none_
  · exact apart (Option.some.inj same)

/-- The told sample shows an edge exactly when that edge comes. -/
theorem State.told_shows_iff (admits : s.pulses.now = none ∨ s.pulses.now = some sample) (source : PulseSource) :
    (s.tellSample sample).pulses.shows source = true ↔ s.edgeComes source sample := by
  unfold State.edgeComes
  have told : (s.tellSample sample).pulses.shows source = match s.pulses.before with
      | some a => a.getLsbD source.input = source.falling && sample.getLsbD source.input = !source.falling
      | none => false := by
    unfold PulseInputs.shows
    show (match s.pulses.before, some sample with | some a, some b => _ | _, _ => false) = _
    cases s.pulses.before <;> rfl
  rw [told, and_iff_right admits]
  cases s.pulses.before with
  | none => simp
  | some a => simp

theorem State.lineStampOf_eq (source : PulseSource) : s.pulses.lineStampOf source.input s.tmu.lineTime = s.lineStamp source := by
  unfold PulseInputs.lineStampOf State.lineStamp
  cases s.pulses.lineStamps[source.input] <;> rfl

/-- The pulse inputs once a source has received its edge. -/
theorem State.received_eq (source : PulseSource) : s.pulses.received s.tmu.lineTime source =
    { s.pulses with lineStamps := s.stampsWith source } := by
  rw [PulseInputs.received, State.lineStampOf_eq]
  rfl

theorem State.told_slaveWaits_iff (admits : s.pulses.now = none ∨ s.pulses.now = some sample) (n : CaptureNo) :
    (s.tellSample sample).slaveEdgeWaits n = true ↔ s.captures[n].running = true
      ∧ (∃ source, s.captures[n].config.slave = some source ∧ s.edgeComes source sample) ∧ n ∉ s.pulses.slaves := by
  rw [State.slaveEdgeWaits_iff]
  refine and_congr_right fun _ => and_congr_left fun _ => exists_congr fun source => and_congr_right fun _ => ?_
  exact State.told_shows_iff admits source

theorem State.told_masterWaits_iff (admits : s.pulses.now = none ∨ s.pulses.now = some sample) (n : CaptureNo) :
    (s.tellSample sample).masterEdgeWaits n = true ↔ s.captures[n].running = true
      ∧ s.edgeComes s.captures[n].config.master sample ∧ n ∉ s.pulses.masters := by
  rw [State.masterEdgeWaits_iff]
  exact and_congr_right fun _ => and_congr_left fun _ => State.told_shows_iff admits _

theorem State.exec_slaveEdge (order : List Dependant) (n : CaptureNo) : exec (.slaveEdge n ⟨sample, order⟩) s = .next
    (if !s.pulses.admits sample then s
    else if (s.tellSample sample).slaveEdgeWaits n then ((s.tellSample sample).takeSlave n).slaveEdgeAt n order
    else s.tellSample sample) := rfl

theorem State.exec_masterEdge (order : List Dependant) (n : CaptureNo) : exec (.masterEdge n ⟨sample, order⟩) s = .next
    (if !s.pulses.admits sample then s
    else if (s.tellSample sample).masterEdgeWaits n then ((s.tellSample sample).takeMaster n).masterEdgeAt n order
    else s.tellSample sample) := rfl

theorem State.admitted (admits : s.pulses.now = none ∨ s.pulses.now = some sample) : ¬(!s.pulses.admits sample) = true := by
  rw [PulseInputs.admits_iff.mpr admits]
  nofun

theorem State.onlyChanges_putPulses (x : PulseInputs) : s.onlyChanges (s.putPulses x) [.pulses] := by
  simp [State.onlyChanges, Part.all, Part.same]

/-- The state in which a unit has taken its slave edge: the period's sample told, the edge with its line stamp (R73). -/
theorem State.takeSlave_eq {n : CaptureNo} {source : PulseSource} (slave : s.captures[n].config.slave = some source) :
    (s.tellSample sample).takeSlave n = s.putPulses { s.pulses with
      now := some sample, lineStamps := s.stampsWith source, slaves := s.pulses.slaves ++ [n] } := by
  have received := (s.tellSample sample).received_eq source
  unfold State.takeSlave
  rw [show (s.tellSample sample).captures[n].config.slave = some source from slave]
  show State.putPulses _ { (s.tellSample sample).pulses.received (s.tellSample sample).tmu.lineTime source with slaves := _ } = _
  rw [received]
  rfl

theorem State.takeMaster_eq (n : CaptureNo) : (s.tellSample sample).takeMaster n = s.putPulses { s.pulses with
    now := some sample, lineStamps := s.stampsWith s.captures[n].config.master, masters := s.pulses.masters ++ [n] } := by
  have received := (s.tellSample sample).received_eq s.captures[n].config.master
  show State.putPulses _ { (s.tellSample sample).pulses.received (s.tellSample sample).tmu.lineTime s.captures[n].config.master with
    masters := _ } = _
  rw [received]
  rfl

end Sample

/-! The speeds of periods (R91, R92). -/

theorem speedOf_eq (periods : Nat) : speedOf periods = if periods = 0 then 65535 else min 65535 (4800000000 / periods) := rfl

theorem toothSpeedOf_eq (p : Nat) {teeth : Nat} (some_ : 0 < teeth) : toothSpeedOf p teeth =
    if 2 ^ 31 ≤ p then 0 else if p = 0 then 65535 else min 65535 (4800000000 / (p * teeth)) := by
  have zero : p * teeth = 0 ↔ p = 0 := by
    rw [Nat.mul_eq_zero]
    exact or_iff_left (Nat.ne_of_gt some_)
  rw [toothSpeedOf, speedOf_eq]
  exact if_congr Iff.rfl rfl (if_congr zero rfl rfl)

theorem Tsv.toothInUse_iff (t : Tsv) : t.toothInUse = true ↔ 0 < t.effectiveTeeth := decide_eq_true_iff

theorem Tsv.overspeedCause_of_teeth {t : Tsv} (teeth : 0 < t.effectiveTeeth) : t.overspeedCause = .overspeedTooth :=
  if_pos (t.toothInUse_iff.mpr teeth)

theorem Tsv.overspeedCause_of_none {t : Tsv} (teeth : t.effectiveTeeth = 0) : t.overspeedCause = .overspeedRev :=
  if_neg (by rw [t.toothInUse_iff, teeth]; decide)

section Tooth

variable {s : State} {stamp : Count} {first : Bool} {order : List Dependant}

theorem State.toothStamp_of_none (teeth : s.tsv.effectiveTeeth = 0) : s.toothStamp stamp first order = s :=
  if_neg (by rw [Tsv.toothInUse_iff, teeth]; decide)

/-- A stamp that measures no tooth period is the reference of the next (R92). -/
theorem State.toothStamp_of_first (teeth : 0 < s.tsv.effectiveTeeth) (unmeasured : first = true ∨ s.tsv.toothReference = none) :
    s.toothStamp stamp first order = s.putTsv { s.tsv with toothReference := some stamp } := by
  refine (if_pos (s.tsv.toothInUse_iff.mpr teeth)).trans ?_
  cases reference : s.tsv.toothReference with
  | none => rfl
  | some r => exact if_pos (unmeasured.resolve_right (by rw [reference]; nofun))

/-- A stamp that measures a tooth period gives a value of the supervised speed (R92, R94). -/
theorem State.toothStamp_of_period (teeth : 0 < s.tsv.effectiveTeeth) (later_ : first = false) {r : Count}
    (reference : s.tsv.toothReference = some r) : s.toothStamp stamp first order =
      (s.putTsv { s.tsv with
        toothReference := some stamp, toothSpeed := toothSpeedOf (stamp - r).toNat s.tsv.effectiveTeeth }).superviseSpeed
        (toothSpeedOf (stamp - r).toNat s.tsv.effectiveTeeth) order := by
  refine (if_pos (s.tsv.toothInUse_iff.mpr teeth)).trans ?_
  rw [reference]
  exact if_neg (ne_true_of_eq_false later_)

end Tooth

/-- A unit after a slave edge, field by field (R76, R77). -/
theorem Capture.slaveEdge_eq (u : Capture) (stamp : Count) : u.slaveEdge stamp = { u with
    fifo := (u.fifo ++ [stamp]).drop (u.fifo.length + 1 - 16)
    slaveCount := u.slaveCount + 1
    betweenCount := min 65535 (u.betweenCount + 1)
    firstSlave := u.firstSlave && u.config.mode ≠ .speed } := by
  have first : (if u.config.mode = .speed then false else u.firstSlave) = (u.firstSlave && decide (u.config.mode ≠ .speed)) := by
    by_cases speed : u.config.mode = .speed
    · rw [if_pos speed, decide_eq_false (not_not_intro speed), Bool.and_false]
    · rw [if_neg speed, decide_eq_true speed, Bool.and_true]
  unfold Capture.slaveEdge
  rw [first]
  rfl

theorem State.slaveEdgeAt_eq (s : State) (n : CaptureNo) (order : List Dependant) : s.slaveEdgeAt n order =
    if s.captures[n].config.mode = .speed then
      (s.putCapture n (s.captures[n].slaveEdge s.tmu.localCount)).toothStamp s.tmu.localCount s.captures[n].firstSlave order
    else s.putCapture n (s.captures[n].slaveEdge s.tmu.localCount) := rfl

/-- Settles O28: the sample told, the edge taken, and the tooth speed of a SPEED unit. -/
theorem slaveEdgeIsTaken : Obligations.SlaveEdgeIsTaken := by
  intro s n sample order u stamp comes
  refine ⟨fun other => congrArg Host.Outcome.next (if_pos (PulseInputs.not_admits other)), fun admits idle => ?_,
    fun source runs isSource fresh => ?_⟩
  · have waits : ¬(s.tellSample sample).slaveEdgeWaits n = true := by
      rw [State.told_slaveWaits_iff admits]
      rintro ⟨runs, isSource, fresh⟩
      rcases idle with stopped | none_ | taken
      · exact Bool.false_ne_true (stopped.symm.trans runs)
      · exact none_ isSource
      · exact fresh taken
    exact ⟨_, congrArg Host.Outcome.next ((if_neg (State.admitted admits)).trans (if_neg waits)), State.onlyChanges_putPulses _, rfl⟩
  · have admits := isSource.2.1
    have waits := (State.told_slaveWaits_iff admits n).mpr ⟨runs, ⟨source, isSource⟩, fresh⟩
    let pulses := { s.pulses with now := some sample, lineStamps := s.stampsWith source, slaves := s.pulses.slaves ++ [n] }
    have done : exec (.slaveEdge n ⟨sample, order⟩) s = .next ((s.putPulses pulses).slaveEdgeAt n order) := by
      rw [State.exec_slaveEdge, if_neg (State.admitted admits), if_pos waits, State.takeSlave_eq isSource.1]
    let w := (s.putPulses pulses).putCapture n (u.slaveEdge stamp)
    have edge : (s.putPulses pulses).slaveEdgeAt n order =
        if u.config.mode = .speed then w.toothStamp stamp u.firstSlave order else w := State.slaveEdgeAt_eq _ _ _
    have pulsesSame : ((s.putPulses pulses).slaveEdgeAt n order).pulses = pulses := by
      rw [edge]
      split
      · simp [w]
      · rfl
    have capturesSame : ((s.putPulses pulses).slaveEdgeAt n order).captures = s.captures.set n (u.slaveEdge stamp) := by
      rw [edge]
      split
      · simp [w, State.putCapture]
      · rfl
    have onlyW : s.onlyChanges w [.pulses, .captures] :=
      State.onlyChanges_trans (State.onlyChanges_mono (State.onlyChanges_putPulses _) (by decide))
        (State.onlyChanges_mono (State.onlyChanges_putCapture _ _ _) (by decide))
    refine ⟨_, done, pulsesSame, fun m other => ?_, ?_, fun plain => ?_, fun speed teeth => ?_⟩
    · rw [capturesSame]
      exact (s.putCapture_get n m _).trans (if_neg other)
    · rw [capturesSame, ← Capture.slaveEdge_eq]
      exact (s.putCapture_get n n _).trans (if_pos rfl)
    · have same : (s.putPulses pulses).slaveEdgeAt n order = w := by
        rw [edge]
        split
        · rename_i speed
          exact State.toothStamp_of_none (plain.resolve_left (not_not_intro speed))
        · rfl
      rw [same]
      exact onlyW
    · rw [edge, if_pos speed]
      have onlyAll : w.onlyChanges (w.toothStamp stamp u.firstSlave order) [.attention, .lif, .tsv, .spl, .units, .outputs, .freeNext] := by
        simp [State.onlyChanges, Part.all, Part.same]
      by_cases unmeasured : u.firstSlave = true ∨ s.tsv.toothReference = none
      · have is := State.toothStamp_of_first (s := w) (stamp := stamp) (first := u.firstSlave) (order := order) teeth unmeasured
        rw [is]
        refine ⟨rfl, rfl, fun _ => ⟨rfl, ?_⟩, fun r later_ reference => ?_⟩
        · exact State.onlyChanges_trans (State.onlyChanges_mono onlyW (by decide))
            (State.onlyChanges_mono (State.onlyChanges_putTsv _ _) (by decide))
        · rw [later_, reference] at unmeasured
          exact absurd unmeasured (by simp)
      · obtain ⟨notFirst, some_⟩ := not_or.mp unmeasured
        obtain ⟨r, reference⟩ := Option.ne_none_iff_exists'.mp some_
        have is := State.toothStamp_of_period (s := w) (stamp := stamp) (first := u.firstSlave) (order := order) teeth
          (Bool.eq_false_iff.mpr notFirst) reference
        have speedIs := toothSpeedOf_eq (stamp - r).toNat teeth
        let x := w.putTsv { w.tsv with
          toothReference := some stamp, toothSpeed := toothSpeedOf (stamp - r).toNat w.tsv.effectiveTeeth }
        have takes := x.superviseSpeed_takes (toothSpeedOf (stamp - r).toNat w.tsv.effectiveTeeth) order
        have tsv := x.superviseSpeed_tsv (toothSpeedOf (stamp - r).toNat w.tsv.effectiveTeeth) order
        rw [show x.tsv.overspeedCause = .overspeedTooth from Tsv.overspeedCause_of_teeth teeth] at takes
        have takesS := takes.of_before (s := s) rfl rfl rfl rfl rfl rfl rfl rfl rfl rfl
        rw [← is] at takesS tsv
        have toothReference := congrArg Tsv.toothReference tsv
        have revolutionReference := congrArg Tsv.revolutionReference tsv
        have toothSpeed := congrArg Tsv.toothSpeed tsv
        refine ⟨toothReference, revolutionReference, fun h => absurd h unmeasured, fun q _ isQ => ?_⟩
        obtain rfl : r = q := Option.some.inj (reference.symm.trans isQ)
        refine ⟨?_, ?_, State.onlyChanges_trans (State.onlyChanges_mono onlyW (by decide)) (State.onlyChanges_mono onlyAll (by decide))⟩
        · rw [← speedIs]
          exact toothSpeed
        · rw [← speedIs]
          exact takesS

end Sys2Proof.Machine
end

section
/-! PROOFS. A capture record at the turbine supervisor (R91 to R96). -/

namespace Sys2Proof.Machine

section Wheel

variable {s : State}

/-- A record has entered the wheel window (R96). -/
def State.wheelEntered (s : State) (missed : Bool) : State :=
  s.putTsv { s.tsv with
    wheelWindow :=
      { results := s.tsv.wheelWindow.after s.tsv.config.wheelWindow missed
        armed := !s.tsv.wheelWindow.countReached s.tsv.config.wheelWindow s.tsv.config.wheelCount missed } }

/-- Whether that record causes a wheel fault event. -/
def State.wheelFaults (s : State) (missed : Bool) : Bool :=
  s.tsv.wheelWindow.countReached s.tsv.config.wheelWindow s.tsv.config.wheelCount missed && s.tsv.wheelWindow.armed

theorem State.checkWheel_eq (edges : Nat) {missed : Bool} (is : missed = decide (edges ≠ s.tsv.effectiveTeeth)) : s.checkWheel edges =
    if s.wheelFaults missed then
      ((s.wheelEntered missed).putTsv { (s.wheelEntered missed).tsv with wheelFaultFlag := true }).raise .wheelFault
    else s.wheelEntered missed := by
  have isMissed : (edges != s.tsv.effectiveTeeth) = missed := by
    rw [Bool.eq_iff_iff, bne_iff_ne, is, decide_eq_true_eq]
  unfold State.checkWheel
  simp only [isMissed, Window.enter_eq]
  rfl

theorem State.checkWheel_tsv (edges : Nat) {missed : Bool} (is : missed = decide (edges ≠ s.tsv.effectiveTeeth)) :
    (s.checkWheel edges).tsv = { s.tsv with
      wheelWindow := (s.wheelEntered missed).tsv.wheelWindow
      wheelFaultFlag := s.tsv.wheelFaultFlag || s.wheelFaults missed } := by
  rw [State.checkWheel_eq edges is]
  cases s.wheelFaults missed with
  | true =>
    rw [if_pos rfl, Bool.or_true]
    rfl
  | false =>
    rw [if_neg Bool.false_ne_true, Bool.or_false]
    rfl

theorem State.checkWheel_raises (edges : Nat) {missed : Bool} (is : missed = decide (edges ≠ s.tsv.effectiveTeeth))
    (faults : s.wheelFaults missed = true) : (s.checkWheel edges).isPending .wheelFault = true := by
  rw [State.checkWheel_eq edges is, if_pos faults]
  exact State.isPending_raise _ _

theorem State.onlyChanges_checkWheel (edges : Nat) : s.onlyChanges (s.checkWheel edges) [.attention, .tsv] := by
  unfold State.checkWheel
  dsimp only
  split <;> simp [State.onlyChanges, Part.all, Part.same]

theorem State.superviseSpeed_keepsPending (v : Nat) (order : List Dependant) : s.keepsPending (s.superviseSpeed v order) := by
  rw [State.superviseSpeed_eq]
  unfold State.tripCause State.latchTrip
  split
  · split
    · exact fun _ h => h
    · intro c pending
      refine State.evaluateView_keepsPending c ?_
      exact State.keepsPending_raiseIn (s.speedEntered v) .trip none _ c pending
  · exact fun _ h => h

end Wheel

section Record

/-- The revolution speed after a record: that of a measured period, or the one before (R91). -/
def Tsv.measuredSpeed (t : Tsv) (stamp : Count) (first : Bool) : Nat :=
  match t.revolutionPeriod? stamp first with
  | some n => revolutionSpeedOf n
  | none => t.revolutionSpeed

/-- The state in which a record has been noted: the reference, the stall timer and the revolution speed (R91, R93). -/
def State.revolutionNoted (s : State) (stamp : Count) (first : Bool) : State :=
  s.putTsv { s.tsv with
    revolutionReference := some stamp, stallTimer := some stamp, stalled := false
    revolutionSpeed := s.tsv.measuredSpeed stamp first }

variable {s : State} {r : CaptureRecord} {first : Bool} {order : List Dependant}

theorem Tsv.revolutionPeriod?_of_measured {t : Tsv} {stamp q : Count} (later_ : first = false) (reference : t.revolutionReference = some q) :
    t.revolutionPeriod? stamp first = some (stamp - q).toNat := by
  rw [Tsv.revolutionPeriod?, if_neg (ne_true_of_eq_false later_), reference]
  rfl

theorem Tsv.revolutionPeriod?_of_unmeasured {t : Tsv} {stamp : Count} (unmeasured : first = true ∨ t.revolutionReference = none) :
    t.revolutionPeriod? stamp first = none := by
  rw [Tsv.revolutionPeriod?]
  rcases unmeasured with isFirst | none_
  · exact if_pos isFirst
  · rw [none_]
    exact ite_self _

/-- The state in which a record's period, if it measures one, has given the revolution speed (R91). -/
def State.recordMeasured (s : State) (stamp : Count) (first : Bool) (order : List Dependant) : State :=
  match s.tsv.revolutionPeriod? stamp first with
  | some n => (s.noteRecord stamp).revolutionSpeed n order
  | none => s.noteRecord stamp

/-- The wheel check of a record that is not the first (R92, R96). -/
def State.wheelChecked (s : State) (edges : Nat) (order : List Dependant) : State :=
  if edges = 0 then (s.checkWheel edges).teethless order else s.checkWheel edges

theorem State.revolutionRecord_eq : s.revolutionRecord r first order =
    if (s.recordMeasured r.localCount first order).tsv.toothInUse && !first then
      (s.recordMeasured r.localCount first order).wheelChecked r.slaveEdges order
    else s.recordMeasured r.localCount first order := rfl

/-- With teeth, a record is noted, and one that is not the first is checked against the wheel (R92, R96). -/
theorem State.revolutionRecord_of_teeth (teeth : 0 < s.tsv.effectiveTeeth) : s.revolutionRecord r first order =
    if first then s.revolutionNoted r.localCount first
    else (s.revolutionNoted r.localCount first).wheelChecked r.slaveEdges order := by
  have inUse : s.tsv.toothInUse = true := s.tsv.toothInUse_iff.mpr teeth
  have noted : s.recordMeasured r.localCount first order = s.revolutionNoted r.localCount first := by
    unfold State.recordMeasured State.revolutionNoted Tsv.measuredSpeed
    cases s.tsv.revolutionPeriod? r.localCount first with
    | none => rfl
    | some n => exact if_pos inUse
  rw [State.revolutionRecord_eq, noted, show (s.revolutionNoted r.localCount first).tsv.toothInUse = true from inUse]
  cases first <;> rfl

/-- Without teeth, a record is noted, and a measured revolution speed is a value of the supervised speed (R91, R94). -/
theorem State.revolutionRecord_of_noTeeth (teeth : s.tsv.effectiveTeeth = 0) : s.revolutionRecord r first order =
    match s.tsv.revolutionPeriod? r.localCount first with
    | some n => (s.revolutionNoted r.localCount first).superviseSpeed (revolutionSpeedOf n) order
    | none => s.revolutionNoted r.localCount first := by
  have unused : s.tsv.toothInUse = false := by
    rw [Bool.eq_false_iff, Ne, Tsv.toothInUse_iff, teeth]
    decide
  have noted : s.recordMeasured r.localCount first order = match s.tsv.revolutionPeriod? r.localCount first with
      | some n => (s.revolutionNoted r.localCount first).superviseSpeed (revolutionSpeedOf n) order
      | none => s.revolutionNoted r.localCount first := by
    unfold State.recordMeasured State.revolutionNoted Tsv.measuredSpeed
    cases s.tsv.revolutionPeriod? r.localCount first with
    | none => rfl
    | some n => exact if_neg (ne_true_of_eq_false unused)
  have stays : (s.recordMeasured r.localCount first order).tsv.toothInUse = false := by
    rw [noted]
    cases s.tsv.revolutionPeriod? r.localCount first with
    | none => exact unused
    | some n => exact (congrArg Tsv.toothInUse (State.superviseSpeed_tsv _ _ _)).trans unused
  rw [State.revolutionRecord_eq, if_neg (by rw [stays]; nofun)]
  exact noted

/-! What a record makes of the supervisor. -/

/-- The reference, the stall timer and the revolution speed, which a record notes (R91, R93). -/
def Tsv.revolution (t : Tsv) : Option Count × Option Count × Bool × Nat :=
  (t.revolutionReference, t.stallTimer, t.stalled, t.revolutionSpeed)

theorem State.revolutionRecord_revolution : (s.revolutionRecord r first order).tsv.revolution =
    (some r.localCount, some r.localCount, false, s.tsv.measuredSpeed r.localCount first) := by
  by_cases teeth : s.tsv.effectiveTeeth = 0
  · rw [State.revolutionRecord_of_noTeeth teeth]
    cases s.tsv.revolutionPeriod? r.localCount first with
    | none => rfl
    | some n => exact (congrArg Tsv.revolution (State.superviseSpeed_tsv _ _ _)).trans rfl
  · rw [State.revolutionRecord_of_teeth (Nat.pos_of_ne_zero teeth)]
    cases first with
    | true => rfl
    | false =>
      unfold State.wheelChecked
      have checked := State.checkWheel_tsv (s := s.revolutionNoted r.localCount false) r.slaveEdges rfl
      have same : ((s.revolutionNoted r.localCount false).checkWheel r.slaveEdges).tsv.revolution =
          (some r.localCount, some r.localCount, false, s.tsv.measuredSpeed r.localCount false) :=
        (congrArg Tsv.revolution checked).trans rfl
      rw [if_neg Bool.false_ne_true]
      split
      · exact ((congrArg Tsv.revolution (State.superviseSpeed_tsv _ _ _)).trans rfl).trans same
      · exact same

end Record

end Sys2Proof.Machine
end

section
/-! PROOFS. The speeds, the wheel and the trips that a capture record gives (R91 to R96). -/

namespace Sys2Proof.Machine

section Record

variable {s : State} {r : CaptureRecord} {first : Bool} {order : List Dependant}

theorem Tsv.measuredSpeed_of_measured {t : Tsv} {stamp q : Count} (later_ : first = false) (reference : t.revolutionReference = some q) :
    t.measuredSpeed stamp first = if 2 ^ 31 ≤ (stamp - q).toNat then 0
      else if (stamp - q).toNat = 0 then 65535 else min 65535 (4800000000 / (stamp - q).toNat) := by
  rw [Tsv.measuredSpeed, Tsv.revolutionPeriod?_of_measured later_ reference]
  rfl

theorem Tsv.measuredSpeed_of_unmeasured {t : Tsv} {stamp : Count} (unmeasured : first = true ∨ t.revolutionReference = none) :
    t.measuredSpeed stamp first = t.revolutionSpeed := by
  rw [Tsv.measuredSpeed, Tsv.revolutionPeriod?_of_unmeasured unmeasured]

/-- Without teeth, a measured revolution speed is a value of the supervised speed (R91). -/
theorem State.revolutionRecord_takes (teeth : s.tsv.effectiveTeeth = 0) (later_ : first = false) {q : Count}
    (reference : s.tsv.revolutionReference = some q) :
    s.takesSpeed (s.revolutionRecord r first order) (s.tsv.measuredSpeed r.localCount first) .overspeedRev := by
  have period := Tsv.revolutionPeriod?_of_measured (t := s.tsv) (stamp := r.localCount) later_ reference
  have speed : s.tsv.measuredSpeed r.localCount first = revolutionSpeedOf (r.localCount - q).toNat := by
    rw [Tsv.measuredSpeed, period]
  have takes := (s.revolutionNoted r.localCount first).superviseSpeed_takes (revolutionSpeedOf (r.localCount - q).toNat) order
  rw [show (s.revolutionNoted r.localCount first).tsv.overspeedCause = .overspeedRev from Tsv.overspeedCause_of_none teeth] at takes
  rw [State.revolutionRecord_of_noTeeth teeth, period, speed]
  exact takes.of_before rfl rfl rfl rfl rfl rfl rfl rfl rfl rfl

/-- Without teeth, a record that measures no period is noted, and nothing else. -/
theorem State.revolutionRecord_of_unmeasured (teeth : s.tsv.effectiveTeeth = 0)
    (unmeasured : first = true ∨ s.tsv.revolutionReference = none) :
    s.revolutionRecord r first order = s.revolutionNoted r.localCount first := by
  rw [State.revolutionRecord_of_noTeeth teeth, Tsv.revolutionPeriod?_of_unmeasured unmeasured]

/-- The wheel window and the wheel fault flag. -/
def Tsv.wheel (t : Tsv) : Window × Bool := (t.wheelWindow, t.wheelFaultFlag)

/-- The overspeed window, the latch, the tooth speed and the supervised speed. -/
def Tsv.supervision (t : Tsv) : Window × Bool × Nat × Nat := (t.overWindow, t.latch, t.toothSpeed, t.supervisedSpeed)

/-- A record without teeth, or a first one, leaves the wheel window (R96). -/
theorem State.revolutionRecord_wheel (none_ : s.tsv.effectiveTeeth = 0 ∨ first = true) :
    (s.revolutionRecord r first order).tsv.wheel = s.tsv.wheel := by
  by_cases teeth : s.tsv.effectiveTeeth = 0
  · rw [State.revolutionRecord_of_noTeeth teeth]
    cases s.tsv.revolutionPeriod? r.localCount first with
    | none => rfl
    | some n => exact (congrArg Tsv.wheel (State.superviseSpeed_tsv _ _ _)).trans rfl
  · rw [State.revolutionRecord_of_teeth (Nat.pos_of_ne_zero teeth), if_pos (none_.resolve_left teeth)]
    rfl

variable {missed : Bool} (teeth : 0 < s.tsv.effectiveTeeth) (later_ : first = false)

include teeth later_

theorem State.revolutionRecord_checks : s.revolutionRecord r first order =
    (s.revolutionNoted r.localCount first).wheelChecked r.slaveEdges order := by
  rw [State.revolutionRecord_of_teeth teeth, if_neg (ne_true_of_eq_false later_)]

/-- With teeth, a record that is not the first enters the wheel window, and may set the fault flag (R96). -/
theorem State.revolutionRecord_enters (is : missed = decide (r.slaveEdges ≠ s.tsv.effectiveTeeth)) :
    (s.revolutionRecord r first order).tsv.wheel =
      ((s.wheelEntered missed).tsv.wheelWindow, s.tsv.wheelFaultFlag || s.wheelFaults missed) := by
  have checked := State.checkWheel_tsv (s := s.revolutionNoted r.localCount first) r.slaveEdges is
  have same : ((s.revolutionNoted r.localCount first).checkWheel r.slaveEdges).tsv.wheel =
      ((s.wheelEntered missed).tsv.wheelWindow, s.tsv.wheelFaultFlag || s.wheelFaults missed) := (congrArg Tsv.wheel checked).trans rfl
  rw [State.revolutionRecord_checks teeth later_]
  unfold State.wheelChecked
  split
  · exact ((congrArg Tsv.wheel (State.superviseSpeed_tsv _ _ _)).trans rfl).trans same
  · exact same

theorem State.revolutionRecord_raises (is : missed = decide (r.slaveEdges ≠ s.tsv.effectiveTeeth)) (faults : s.wheelFaults missed = true) :
    (s.revolutionRecord r first order).isPending .wheelFault = true := by
  have raises := State.checkWheel_raises (s := s.revolutionNoted r.localCount first) r.slaveEdges is faults
  rw [State.revolutionRecord_checks teeth later_]
  unfold State.wheelChecked
  split
  · exact State.superviseSpeed_keepsPending (s := State.putTsv _ _) 0 order _ raises
  · exact raises

/-- A teethless revolution gives a tooth speed of 0, which is a value of the supervised speed (R92). -/
theorem State.revolutionRecord_teethless (teethless : r.slaveEdges = 0) :
    (s.revolutionRecord r first order).tsv.toothSpeed = 0 ∧ s.takesSpeed (s.revolutionRecord r first order) 0 .overspeedTooth := by
  let w := (s.revolutionNoted r.localCount first).checkWheel r.slaveEdges
  have only : s.onlyChanges w [.attention, .tsv] :=
    State.onlyChanges_trans (State.onlyChanges_mono (State.onlyChanges_putTsv _ _) (by decide)) (State.onlyChanges_checkWheel _)
  have checked : w.tsv = _ := State.checkWheel_tsv (s := s.revolutionNoted r.localCount first) r.slaveEdges rfl
  let x := w.putTsv { w.tsv with toothSpeed := 0 }
  have is : s.revolutionRecord r first order = x.superviseSpeed 0 order := by
    rw [State.revolutionRecord_checks teeth later_]
    exact if_pos teethless
  have teethX : 0 < x.tsv.effectiveTeeth := by
    show 0 < w.tsv.effectiveTeeth
    rw [checked]
    exact teeth
  have takes := x.superviseSpeed_takes 0 order
  rw [Tsv.overspeedCause_of_teeth teethX] at takes
  have toothSpeed := congrArg Tsv.toothSpeed (x.superviseSpeed_tsv 0 order)
  obtain ⟨config, overWindow, latch, record, furtherCauses, viewActive⟩ : w.tsv.config = s.tsv.config
      ∧ w.tsv.overWindow = s.tsv.overWindow ∧ w.tsv.latch = s.tsv.latch ∧ w.tsv.record = s.tsv.record
      ∧ w.tsv.furtherCauses = s.tsv.furtherCauses ∧ w.tsv.viewActive = s.tsv.viewActive := by
    rw [checked]
    exact ⟨rfl, rfl, rfl, rfl, rfl, rfl⟩
  rw [is]
  exact ⟨toothSpeed, takes.of_before config overWindow latch record furtherCauses viewActive (only.2 .lif (by decide))
    (only.2 .spl (by decide)) (only.2 .units (by decide)) (congrArg Tmu.lineTime (only.2 .tmu (by decide) : w.tmu = s.tmu))⟩

/-- A revolution with slave edges leaves the supervised speed to them. -/
theorem State.revolutionRecord_toothed (toothed : 0 < r.slaveEdges) :
    (s.revolutionRecord r first order).tsv.supervision = s.tsv.supervision := by
  have checked := State.checkWheel_tsv (s := s.revolutionNoted r.localCount first) r.slaveEdges rfl
  rw [State.revolutionRecord_checks teeth later_]
  unfold State.wheelChecked
  rw [if_neg (Nat.ne_of_gt toothed)]
  exact (congrArg Tsv.supervision checked).trans rfl

end Record

end Sys2Proof.Machine
end

section
/-! PROOFS. The line stamps of a period's edges, which no command but a reset changes (R73). -/

namespace Sys2Proof.Machine

/-- Every line stamp stays. -/
def PulseInputs.keepsStamps (p q : PulseInputs) : Prop :=
  ∀ (input : Fin 8) (x : LineTime), p.lineStamps[input] = some x → q.lineStamps[input] = some x

section Stamps

variable (s : State)

theorem State.keepsStamps_of_pulses {t : State} (same : t.pulses = s.pulses) : s.pulses.keepsStamps t.pulses := by
  rw [same]
  exact fun _ _ h => h

/-- A source that receives its edge gives its input a line stamp only where there was none. -/
theorem State.keepsStamps_stampsWith (source : PulseSource) {p : PulseInputs} (stamps : p.lineStamps = s.stampsWith source) :
    s.pulses.keepsStamps p := by
  intro input x stamped
  rw [stamps, State.stampsWith]
  by_cases here : source.input = input
  · subst here
    have stamp : s.lineStamp source = x := by rw [State.lineStamp, stamped]
    rw [stamp]
    exact Vector.getElem_set_self _
  · exact (Vector.getElem_set_ne _ _ fun same => here (Fin.ext same)).trans stamped

theorem State.slaveEdgeAt_pulses (n : CaptureNo) (order : List Dependant) : (s.slaveEdgeAt n order).pulses = s.pulses := by
  rw [State.slaveEdgeAt_eq]
  split <;> simp

theorem State.masterEdgeAt_pulses (n : CaptureNo) (order : List Dependant) : (s.masterEdgeAt n order).pulses = s.pulses := by
  unfold State.masterEdgeAt
  dsimp only
  split
  · rfl
  · split <;> simp

theorem exec_slaveEdge_stamps (n : CaptureNo) (edge : PulseEdge) :
    ∃ t, exec (.slaveEdge n edge) s = .next t ∧ s.pulses.keepsStamps t.pulses := by
  refine ⟨_, rfl, ?_⟩
  split
  · exact s.keepsStamps_of_pulses rfl
  · split
    · rename_i waits
      obtain ⟨-, ⟨source, slave, -⟩, -⟩ := (State.slaveEdgeWaits_iff _ n).mp waits
      rw [State.slaveEdgeAt_pulses, State.takeSlave_eq (s := s) slave]
      exact s.keepsStamps_stampsWith source rfl
    · exact fun _ _ h => h

theorem exec_masterEdge_stamps (n : CaptureNo) (edge : PulseEdge) :
    ∃ t, exec (.masterEdge n edge) s = .next t ∧ s.pulses.keepsStamps t.pulses := by
  refine ⟨_, rfl, ?_⟩
  split
  · exact s.keepsStamps_of_pulses rfl
  · split
    · rw [State.masterEdgeAt_pulses, State.takeMaster_eq (s := s)]
      exact s.keepsStamps_stampsWith _ rfl
    · exact fun _ _ h => h

/-- A request keeps the line stamps when its section does. -/
theorem State.request_stamps {code : Nat} {cls : RequestClass} {lengths : List Nat} {p : List Byte} {act : State → Answer}
    (keeps : ∀ u : State, u.pulses.keepsStamps (act u).1.pulses) :
    s.pulses.keepsStamps (s.request code cls lengths p act).pulses := by
  have served (u : State) : u.pulses.keepsStamps (State.serve cls (lengths.contains p.length) act u).1.pulses := by
    unfold State.serve
    split
    · exact fun _ _ h => h
    · split
      · exact fun _ _ h => h
      · split
        · exact fun _ _ h => h
        · exact keeps u
  unfold State.request State.arrive
  split
  · exact fun _ _ h => h
  · split
    · exact fun _ _ h => h
    · exact served (s.putSvp (s.svp.complete s.count (requestBytes code p)))

theorem State.startStation_stamps (u : State) : u.pulses.keepsStamps u.startStation.1.pulses := by
  unfold State.startStation
  split
  · exact fun _ _ h => h
  · show u.pulses.keepsStamps u.enterRun.pulses
    rw [State.enterRun_pulses]
    exact fun _ _ h => h

/-- What changes other parts keeps the line stamps. -/
theorem State.stamps_of_only {x : Outcome} {parts : List Part} (only : ∃ t, x = .next t ∧ s.onlyChanges t parts)
    (other : Part.pulses ∉ parts) : ∃ t, x = .next t ∧ s.pulses.keepsStamps t.pulses := by
  obtain ⟨t, ran, -, same⟩ := only
  exact ⟨t, ran, s.keepsStamps_of_pulses (same .pulses other)⟩

/-- Every command but a reset keeps the line stamps. -/
theorem exec_stamps (c : Instr) (noReset : c.isReset = false) : ∃ t, exec c s = .next t ∧ s.pulses.keepsStamps t.pulses :=
  match c with
  | .powerOn .. | .resetPin .. | .serviceBreak .. => nomatch noReset
  | .slaveEdge unit edge => exec_slaveEdge_stamps s unit edge
  | .masterEdge unit edge => exec_masterEdge_stamps s unit edge
  | .startStation _ => ⟨_, rfl, s.request_stamps State.startStation_stamps⟩
  | .bootCheckEnd passed lineHigh => s.stamps_of_only (execBootCheckEnd_only s passed lineHigh) (by decide)
  | .characterError stopBit => s.stamps_of_only (execCharacterError_only s stopBit) (by decide)
  | .longFrame length => s.stamps_of_only (execLongFrame_only s length) (by decide)
  | .gap => s.stamps_of_only (execGap_only s) (by decide)
  | .quietMoment => s.stamps_of_only (execQuietMoment_only s) (by decide)
  | .frameReceived check order => s.stamps_of_only (execFrameReceived_only s check order) (by decide)
  | .noticeStart => s.stamps_of_only (execNoticeStart_only s) (by decide)
  | .collision => s.stamps_of_only (execCollision_only s) (by decide)
  | .noticeSentWhole => s.stamps_of_only (execNoticeSentWhole_only s) (by decide)
  | .peerSilence station => s.stamps_of_only (execPeerSilence_only s station) (by decide)
  | .silenceTimerStop station => s.stamps_of_only (execSilenceTimerStop_only s station) (by decide)
  | .beacon => s.stamps_of_only (execBeacon_only s) (by decide)
  | .joinTimerExpiry => s.stamps_of_only (execJoinTimerExpiry_only s) (by decide)
  | .channelStart => s.stamps_of_only (execChannelStart_only s) (by decide)
  | .mainOutput channel bits => s.stamps_of_only (execMainOutput_only s channel bits) (by decide)
  | .guardOutput channel bits => s.stamps_of_only (execGuardOutput_only s channel bits) (by decide)
  | .setBoundary group => s.stamps_of_only (execSetBoundary_only s group) (by decide)
  | .pollTimerExpiry unit => s.stamps_of_only (execPollTimerExpiry_only s unit) (by decide)
  | .referenceAgeing which => s.stamps_of_only (execReferenceAgeing_only s which) (by decide)
  | .stall => s.stamps_of_only (execStall_only s) (by decide)
  | .intervalBoundary => s.stamps_of_only (execIntervalBoundary_only s) (by decide)
  | .ownStartReached slot => s.stamps_of_only (execOwnStartReached_only s slot) (by decide)
  | .entryExpiry => s.stamps_of_only (execEntryExpiry_only s) (by decide)
  | .settleTimerExpiry slot => s.stamps_of_only (execSettleTimerExpiry_only s slot) (by decide)
  | .edgeDue unit => s.stamps_of_only (execEdgeDue_only s unit) (by decide)
  | .readStatus payload => s.stamps_of_only (execReadStatus_only s payload) (by decide)
  | .readPeer payload => s.stamps_of_only (execReadPeer_only s payload) (by decide)
  | .readTime payload => s.stamps_of_only (execReadTime_only s payload) (by decide)
  | .readSamples payload => s.stamps_of_only (execReadSamples_only s payload) (by decide)
  | .readChannel payload => s.stamps_of_only (execReadChannel_only s payload) (by decide)
  | .readCapture payload => s.stamps_of_only (execReadCapture_only s payload) (by decide)
  | .readTurbine payload => s.stamps_of_only (execReadTurbine_only s payload) (by decide)
  | .readHeat payload => s.stamps_of_only (execReadHeat_only s payload) (by decide)
  | .readScaling payload => s.stamps_of_only (execReadScaling_only s payload) (by decide)
  | .readWindows payload => s.stamps_of_only (execReadWindows_only s payload) (by decide)
  | .readUnit payload => s.stamps_of_only (execReadUnit_only s payload) (by decide)
  | .readWatch payload => s.stamps_of_only (execReadWatch_only s payload) (by decide)
  | .startPump payload => s.stamps_of_only (execStartPump_only s payload) (by decide)
  | .stopPump payload => s.stamps_of_only (execStopPump_only s payload) (by decide)
  | .trip payload order => s.stamps_of_only (execTrip_only s payload order) (by decide)
  | .resetTrip payload => s.stamps_of_only (execResetTrip_only s payload) (by decide)
  | .ackScaling payload => s.stamps_of_only (execAckScaling_only s payload) (by decide)
  | .captureBaseline payload => s.stamps_of_only (execCaptureBaseline_only s payload) (by decide)
  | .clearHeat payload => s.stamps_of_only (execClearHeat_only s payload) (by decide)
  | .clearAttention payload => s.stamps_of_only (execClearAttention_only s payload) (by decide)
  | .setStation payload => s.stamps_of_only (execSetStation_only s payload) (by decide)
  | .setChannel payload => s.stamps_of_only (execSetChannel_only s payload) (by decide)
  | .setGroup payload => s.stamps_of_only (execSetGroup_only s payload) (by decide)
  | .setCapture payload => s.stamps_of_only (execSetCapture_only s payload) (by decide)
  | .setTurbine payload => s.stamps_of_only (execSetTurbine_only s payload) (by decide)
  | .setHeat payload => s.stamps_of_only (execSetHeat_only s payload) (by decide)
  | .setScaling payload => s.stamps_of_only (execSetScaling_only s payload) (by decide)
  | .setWindow payload => s.stamps_of_only (execSetWindow_only s payload) (by decide)
  | .setWindowClear => s.stamps_of_only (execSetWindowClear_only s) (by decide)
  | .setUnit payload => s.stamps_of_only (execSetUnit_only s payload) (by decide)
  | .setEdge payload => s.stamps_of_only (execSetEdge_only s payload) (by decide)
  | .setWatchList payload => s.stamps_of_only (execSetWatchList_only s payload) (by decide)
  | .unknownRequest code payload => s.stamps_of_only (execUnknownRequest_only s code payload) (by decide)
  | .requestTooLong length => s.stamps_of_only (execRequestTooLong_only s length) (by decide)
  | .serviceCharacterError stopBit => s.stamps_of_only (execServiceCharacterError_only s stopBit) (by decide)
  | .serviceGap => s.stamps_of_only (execServiceGap_only s) (by decide)
  | .startBitWhileReplying => s.stamps_of_only (execStartBitWhileReplying_only s) (by decide)
  | .replyComplete => s.stamps_of_only (execReplyComplete_only s) (by decide)
  | .syncTaken byte startEdge => s.stamps_of_only (execSyncTaken_only s byte startEdge) (by decide)
  | .requestSyncTaken => s.stamps_of_only (execRequestSyncTaken_only s) (by decide)
  | .requestBadCheck code payload check => s.stamps_of_only (execRequestBadCheck_only s code payload check) (by decide)

end Stamps

end Sys2Proof.Machine
end

section
/-! PROOFS. A master edge (R73, R78 to R84, R91, R92, R95 to R97). -/

namespace Sys2Proof.Machine

section Capture

variable (u : Capture)

theorem CaptureConfig.polls_iff (c : CaptureConfig) : c.polls = true ↔ c.mode = .general ∧ c.poll = true := by
  rw [CaptureConfig.polls, Bool.and_eq_true, decide_eq_true_eq]

/-- The record of a master edge, field by field (R79, R80). -/
theorem Capture.recordAt_eq (lineStamp : LineTime) (stamp : Count) : u.countMaster.recordAt lineStamp stamp =
    { lineTime := lineStamp, localCount := stamp, slaveEdges := u.betweenCount, masterCount := u.masterCount + 1
      lead := if u.config.slave.isSome then (u.fifo.reverse[u.config.lead]?).map (stamp - ·) else none } := rfl

/-- A unit that keeps a record, field by field (R78, R82, R84). -/
theorem Capture.keep_eq (r : CaptureRecord) : u.countMaster.keep r = { u with
    masterCount := u.masterCount + 1, recordCount := u.recordCount + 1, betweenCount := 0
    history := (u.history ++ [r]).drop (u.history.length + 1 - 4)
    firstMaster := false, taken := u.taken || decide (u.config.mode = .general ∧ u.config.poll = true) } := by
  have taken : (if u.config.polls then true else u.taken) = (u.taken || decide (u.config.mode = .general ∧ u.config.poll = true)) := by
    by_cases polls : u.config.polls = true
    · rw [if_pos polls, decide_eq_true (u.config.polls_iff.mp polls), Bool.or_true]
    · rw [if_neg polls, decide_eq_false (mt u.config.polls_iff.mpr polls), Bool.or_false]
  rw [← taken]
  rfl

theorem Capture.produces_iff : u.countMaster.produces = true ↔ ¬((u.config.mode = .general ∧ u.config.poll = true) ∧ u.taken = true) := by
  rw [Capture.produces, Bool.not_eq_true', Bool.eq_false_iff, ← CaptureConfig.polls_iff, Ne, Bool.and_eq_true]
  rfl

end Capture

section Edge

variable (s : State) (n : CaptureNo) (order : List Dependant)

/-- A master edge without a record only counts (R78, R84). -/
theorem State.masterEdgeAt_of_taken (taken : ¬s.captures[n].countMaster.produces = true) :
    s.masterEdgeAt n order = s.putCapture n s.captures[n].countMaster := by
  unfold State.masterEdgeAt
  exact if_pos (by rw [Bool.not_eq_true', Bool.eq_false_iff]; exact taken)

/-- The state in which a unit has kept the record of its master edge. -/
def State.masterKept (r : CaptureRecord) : State := s.putCapture n (s.captures[n].countMaster.keep r)

theorem State.masterEdgeAt_of_record (produces : s.captures[n].countMaster.produces = true) {r : CaptureRecord}
    (is : s.captures[n].countMaster.recordAt (s.lineStamp s.captures[n].config.master) s.tmu.localCount = r) :
    s.masterEdgeAt n order = match s.captures[n].config.mode with
      | .speed => (s.masterKept n r).revolutionRecord r s.captures[n].firstMaster order
      | .totaliser => (s.masterKept n r).flowPulse r.lineTime
      | .general | .off => s.masterKept n r := by
  subst is
  unfold State.masterEdgeAt
  dsimp only
  rw [show s.pulses.lineStampOf s.captures[n].countMaster.config.master.input s.now = s.lineStamp s.captures[n].config.master
    from State.lineStampOf_eq _]
  exact if_neg (by rw [produces]; nofun)

theorem State.masterEdgeAt_captures : ∃ x, (s.masterEdgeAt n order).captures = s.captures.set n x
    ∧ (s.captures[n].countMaster.produces = true → x = s.captures[n].countMaster.keep
        (s.captures[n].countMaster.recordAt (s.lineStamp s.captures[n].config.master) s.tmu.localCount)) := by
  by_cases produces : s.captures[n].countMaster.produces = true
  · refine ⟨_, ?_, fun _ => rfl⟩
    rw [s.masterEdgeAt_of_record n order produces rfl]
    split
    · exact (State.revolutionRecord_frame _ _ _ _).2.2.2.2.2.2.2.2.2.2.2.1
    · simp [State.masterKept, State.putCapture]
    · rfl
    · rfl
  · exact ⟨_, by rw [s.masterEdgeAt_of_taken n order produces]; rfl, fun h => absurd h produces⟩

end Edge

end Sys2Proof.Machine
end

section
/-! PROOFS. A master edge as a whole, and the poll timer (R73, R78 to R84, R91, R92, R95 to R97). -/

namespace Sys2Proof.Machine

/-- The edge keeps the line stamp that it was received with. -/
theorem State.lineStamp_received (s : State) (source : PulseSource) {p : PulseInputs} (stamps : p.lineStamps = s.stampsWith source) :
    (s.putPulses p).lineStamp source = s.lineStamp source := by
  have got : p.lineStamps[source.input] = some (s.lineStamp source) := by
    rw [stamps]
    exact Vector.getElem_set_self _
  show (match p.lineStamps[source.input] with | some stamp => stamp | none => s.tmu.lineTime) = _
  rw [got]

theorem State.onlyChanges_revolutionRecord (s : State) (r : CaptureRecord) (first : Bool) (order : List Dependant) :
    s.onlyChanges (s.revolutionRecord r first order) [.attention, .lif, .tsv, .spl, .units, .outputs, .freeNext] := by
  simp [State.onlyChanges, Part.all, Part.same]

/-- A poll unit's timer, once its period has passed (R84). -/
theorem State.pollIsDue_of_passed {s : State} {n : CaptureNo} {start : Count} (runs : s.captures[n].running = true)
    (polls : s.captures[n].config.mode = .general ∧ s.captures[n].config.poll = true) (timer : s.captures[n].pollTimer = some start)
    (passed : 8000 * s.captures[n].config.pollMs ≤ (s.tmu.localCount - start).toNat) : s.pollIsDue n = true := by
  have passed : s.captures[n].config.pollPeriods ≤ (s.tmu.localCount - start).toNat := by
    rw [CaptureConfig.pollPeriods, Nat.mul_comm]
    exact passed
  have expired := (s.expired_iff start s.captures[n].config.pollPeriods).mpr passed
  rw [State.pollIsDue, runs, (CaptureConfig.polls_iff _).mpr polls, timer]
  exact expired

/-- Settles O29: the edge taken, the record kept and handed over, the line stamps, and the poll timer. -/
theorem masterEdgeIsTaken : Obligations.MasterEdgeIsTaken := by
  intro s n sample order u stamp polls record comes pulses
  let v := s.putPulses pulses
  have taken (runs : u.running = true) (edge : comes) (fresh : n ∉ s.pulses.masters) :
      exec (.masterEdge n ⟨sample, order⟩) s = .next (v.masterEdgeAt n order) := by
    have admits := edge.1
    rw [State.exec_masterEdge, if_neg (State.admitted admits), if_pos ((State.told_masterWaits_iff admits n).mpr ⟨runs, edge, fresh⟩),
      State.takeMaster_eq]
  refine ⟨fun other => congrArg Host.Outcome.next (if_pos (PulseInputs.not_admits other)), fun admits idle => ?_,
    fun runs edge fresh isPoll isTaken => ?_, fun runs edge fresh notTaken => ?_, fun c t input x noReset ran stamped => ?_,
    fun start runs isPoll timer passed => ?_⟩
  · have waits : ¬(s.tellSample sample).masterEdgeWaits n = true := by
      rw [State.told_masterWaits_iff admits]
      rintro ⟨runs, edge, fresh⟩
      rcases idle with stopped | none_ | taken
      · exact Bool.false_ne_true (stopped.symm.trans runs)
      · exact none_ edge
      · exact fresh taken
    exact ⟨_, congrArg Host.Outcome.next ((if_neg (State.admitted admits)).trans (if_neg waits)), State.onlyChanges_putPulses _, rfl⟩
  · have silent : ¬u.countMaster.produces = true := fun h => (u.produces_iff.mp h) ⟨isPoll, isTaken⟩
    refine ⟨v.putCapture n u.countMaster, ?_, ?_, rfl, fun m other => (s.putCapture_get n m _).trans (if_neg other),
      (s.putCapture_get n n _).trans (if_pos rfl)⟩
    · rw [taken runs edge fresh]
      exact congrArg Host.Outcome.next (State.masterEdgeAt_of_taken v n order silent)
    · exact State.onlyChanges_trans (State.onlyChanges_mono (State.onlyChanges_putPulses _) (by decide))
        (State.onlyChanges_mono (State.onlyChanges_putCapture _ _ _) (by decide))
  · have produces := u.produces_iff.mpr notTaken
    have isRecord : u.countMaster.recordAt (v.lineStamp u.config.master) v.tmu.localCount = record := by
      rw [State.lineStamp_received s u.config.master rfl]
      rfl
    have result := State.masterEdgeAt_of_record v n order produces isRecord
    obtain ⟨x, captures, isX⟩ := State.masterEdgeAt_captures v n order
    have isKept : x = u.countMaster.keep record := by
      rw [isX produces]
      exact congrArg u.countMaster.keep isRecord
    have kept : s.onlyChanges (v.masterKept n record) [.pulses, .captures] :=
      State.onlyChanges_trans (State.onlyChanges_mono (State.onlyChanges_putPulses _) (by decide))
        (State.onlyChanges_mono (State.onlyChanges_putCapture _ _ _) (by decide))
    refine ⟨_, taken runs edge fresh, v.masterEdgeAt_pulses n order, fun m other => ?_, ?_, fun general => ?_, fun speed => ?_⟩
    · rw [captures]
      exact (s.putCapture_get n m _).trans (if_neg other)
    · rw [captures, ← Capture.keep_eq, ← isKept]
      exact (s.putCapture_get n n _).trans (if_pos rfl)
    · rw [show v.captures[n].config.mode = .general from general] at result
      rw [result]
      exact kept
    · rw [show v.captures[n].config.mode = .speed from speed] at result
      intro teeth c wheel missed reached
      have revolution := State.revolutionRecord_revolution (s := v.masterKept n record) (r := record) (first := u.firstMaster) (order := order)
      have checked (some_ : 0 < teeth) (later_ : u.firstMaster = false) :=
        State.revolutionRecord_enters (s := v.masterKept n record) (r := record) (first := u.firstMaster) (order := order) some_ later_
          (missed := missed) rfl
      have raises (some_ : 0 < teeth) (later_ : u.firstMaster = false) :=
        State.revolutionRecord_raises (s := v.masterKept n record) (r := record) (first := u.firstMaster) (order := order) some_ later_
          (missed := missed) rfl
      have teethless (some_ : 0 < teeth) (later_ : u.firstMaster = false) :=
        State.revolutionRecord_teethless (s := v.masterKept n record) (r := record) (first := u.firstMaster) (order := order) some_ later_
      have toothed (some_ : 0 < teeth) (later_ : u.firstMaster = false) :=
        State.revolutionRecord_toothed (s := v.masterKept n record) (r := record) (first := u.firstMaster) (order := order) some_ later_
      have unchecked (none_ : teeth = 0 ∨ u.firstMaster = true) :=
        State.revolutionRecord_wheel (s := v.masterKept n record) (r := record) (first := u.firstMaster) (order := order) none_
      have takes (none_ : teeth = 0) (later_ : u.firstMaster = false) (q : Count) (reference : s.tsv.revolutionReference = some q) :=
        State.revolutionRecord_takes (s := v.masterKept n record) (r := record) (first := u.firstMaster) (order := order) none_ later_ reference
      have unmeasured (none_ : teeth = 0) (h : u.firstMaster = true ∨ s.tsv.revolutionReference = none) :=
        State.revolutionRecord_of_unmeasured (s := v.masterKept n record) (r := record) (first := u.firstMaster) (order := order) none_ h
      have only := (v.masterKept n record).onlyChanges_revolutionRecord record u.firstMaster order
      have isT : v.masterEdgeAt n order = (v.masterKept n record).revolutionRecord record u.firstMaster order := result
      rw [isT]
      generalize (v.masterKept n record).revolutionRecord record u.firstMaster order = t at *
      obtain ⟨reference, timer, stalled, speedIs⟩ : t.tsv.revolutionReference = some stamp ∧ t.tsv.stallTimer = some stamp
          ∧ t.tsv.stalled = false ∧ t.tsv.revolutionSpeed = s.tsv.measuredSpeed stamp u.firstMaster := by
        simp only [Tsv.revolution, Prod.mk.injEq] at revolution
        exact revolution
      refine ⟨State.onlyChanges_trans (State.onlyChanges_mono kept (by decide)) (State.onlyChanges_mono only (by decide)), reference, timer,
        stalled, fun q later_ isQ => ?_, fun h => ⟨?_, fun none_ => ?_⟩, fun some_ later_ => ?_, fun none_ => ?_⟩
      · have measured := Tsv.measuredSpeed_of_measured (t := s.tsv) (stamp := stamp) later_ isQ
        have isSpeed := speedIs.trans measured
        refine ⟨isSpeed, fun none_ => ?_⟩
        have taken := takes none_ later_ q isQ
        rw [show (v.masterKept n record).tsv.measuredSpeed record.localCount u.firstMaster = _ from measured] at taken
        exact taken
      · rw [speedIs, Tsv.measuredSpeed_of_unmeasured h]
      · rw [unmeasured none_ h]
        exact ⟨rfl, rfl⟩
      · have wheelIs := checked some_ later_
        simp only [Tsv.wheel, Prod.mk.injEq] at wheelIs
        refine ⟨wheelIs.1, wheelIs.2, fun isReached armed => raises some_ later_ ?_, fun none_ => teethless some_ later_ none_, fun some' => ?_⟩
        · exact Bool.and_eq_true_iff.mpr ⟨isReached, armed⟩
        · have same := toothed some_ later_ some'
          simp only [Tsv.supervision, Prod.mk.injEq] at same
          obtain ⟨overWindow, latch, toothSpeed, supervised⟩ := same
          exact ⟨toothSpeed, overWindow, latch, supervised⟩
      · have same := unchecked none_
        simp only [Tsv.wheel, Prod.mk.injEq] at same
        exact same
  · obtain ⟨w, ran', keeps⟩ := exec_stamps s c noReset
    obtain rfl : w = t := Host.Outcome.next.inj (ran'.symm.trans ran)
    exact keeps input x stamped
  · refine ⟨_, congrArg Host.Outcome.next (if_pos (State.pollIsDue_of_passed runs isPoll timer passed)), State.onlyChanges_putCapture _ _ _,
      fun m other => (s.putCapture_get n m _).trans (if_neg other), ?_⟩
    refine ((s.putCapture_get n n _).trans (if_pos rfl)).trans ?_
    rw [show s.captures[n].pollTimer = some start from timer, show s.captures[n].config.pollPeriods = 8000 * u.config.pollMs from Nat.mul_comm _ _]
    rfl

end Sys2Proof.Machine
end

section
/-! PROOFS. A flow pulse at the heat meter (R109 to R111, R113 to R119). -/

namespace Sys2Proof.Machine

/-! The energy of a pulse (R114 to R116). -/

section Energy

theorem clampDelta_eq (d : Int) : clampDelta d = (max (-30000) (min 30000 d), decide (30000 < d.natAbs)) := by
  have limit : (Params.deltaClamp : Int) = 30000 := rfl
  unfold clampDelta
  rw [limit]
  split
  · rename_i above
    rw [decide_eq_true (by omega)]
    exact congrArg (·, true) (by omega)
  · split
    · rename_i below
      rw [decide_eq_true (by omega)]
      exact congrArg (·, true) (by omega)
    · rw [decide_eq_false (by omega)]
      exact congrArg (·, false) (by omega)

/-- A counter of kJ with its residue, in units of 10^−5 J (R115). -/
def energyTotal (counter : BitVec 40) (residue : Nat) : Nat := counter.toNat * 10 ^ 8 + residue

/-- A carry loses no energy but the counter's wrap, which it tells (R115, R116). -/
theorem carryInto_total (residue : Nat) (counter : BitVec 40) (p : Nat) :
    energyTotal (carryInto residue counter p).counter (carryInto residue counter p).residue % (2 ^ 40 * 10 ^ 8) =
        (energyTotal counter residue + p) % (2 ^ 40 * 10 ^ 8)
      ∧ (carryInto residue counter p).wrapped = decide (2 ^ 40 * 10 ^ 8 ≤ energyTotal counter residue + p) := by
  have unit : Params.unitsPerKilojoule = 10 ^ 8 := rfl
  have counted : (carryInto residue counter p).counter.toNat = (counter.toNat + (residue + p) / 10 ^ 8) % 2 ^ 40 := by
    show (counter + BitVec.ofNat 40 ((residue + p) / 10 ^ 8)).toNat = _
    rw [BitVec.toNat_add, BitVec.toNat_ofNat, Nat.add_mod_mod]
  have rest : (carryInto residue counter p).residue = (residue + p) % 10 ^ 8 := rfl
  have wraps : (carryInto residue counter p).wrapped = decide (2 ^ 40 ≤ counter.toNat + (residue + p) / 10 ^ 8) := rfl
  have sum : energyTotal counter residue + p = (counter.toNat + (residue + p) / 10 ^ 8) * 10 ^ 8 + (residue + p) % 10 ^ 8 := by
    have split_ := Nat.div_add_mod (residue + p) (10 ^ 8)
    rw [energyTotal]
    omega
  have below : (residue + p) % 10 ^ 8 < 10 ^ 8 := Nat.mod_lt _ (by decide)
  refine ⟨?_, ?_⟩
  · rw [energyTotal, counted, rest, sum]
    omega
  · rw [wraps, sum]
    refine decide_eq_decide.mpr ?_
    omega

end Energy

/-! The meter after a pulse. -/

section Metered

variable (h : Hmt) (t : LineTime) {ts tr : Int}

/-- The ΔT of a pulse after its clamp (R114). -/
def clampedDelta (ts tr : Int) : Int := max (-30000) (min 30000 (ts - tr))

/-- The energy of a metered pulse (R114). -/
def Hmt.pulseEnergy (h : Hmt) (ts tr : Int) : Nat := h.config.volume * (clampedDelta ts tr).natAbs * (kFactor h.config.kTable tr).toNat

/-- What a metered pulse of any class makes of the meter (R111, R114, R118). -/
def Hmt.meteredBase (h : Hmt) (ts tr : Int) : Hmt :=
  { h.addVolume with clampFlag := h.clampFlag || decide (30000 < (ts - tr).natAbs), unmeteredMark := false }

/-- The record of a metered pulse, without its energy. -/
def Hmt.pulseRecord (h : Hmt) (t : LineTime) (ts tr : Int) : PulseRecord :=
  { lineTime := t, cls := pulseClass (clampedDelta ts tr), reason := none, supply := some ts, ret := some tr
    delta := some (clampedDelta ts tr), clamped := decide (30000 < (ts - tr).natAbs), k := some (kFactor h.config.kTable tr)
    energy := none, carry := none }

theorem Hmt.metered_forward (warm : tr < ts) : h.metered t ts tr =
    { h.meteredBase ts tr with
      forwardResidue := (carryInto h.forwardResidue h.forwardKj (h.pulseEnergy ts tr)).residue
      forwardKj := (carryInto h.forwardResidue h.forwardKj (h.pulseEnergy ts tr)).counter
      forwardWrap := h.forwardWrap || (carryInto h.forwardResidue h.forwardKj (h.pulseEnergy ts tr)).wrapped
      forwardPulses := h.forwardPulses + 1
      lastPulse := some { h.pulseRecord t ts tr with
        energy := some (h.pulseEnergy ts tr)
        carry := some (carryInto h.forwardResidue h.forwardKj (h.pulseEnergy ts tr)).carry } } := by
  have cls : pulseClass (clampedDelta ts tr) = .forward := if_pos (by unfold clampedDelta; omega)
  unfold Hmt.metered
  rw [clampDelta_eq]
  dsimp only
  rw [show pulseClass (max (-30000) (min 30000 (ts - tr))) = .forward from cls]
  unfold Hmt.pulseRecord
  rw [cls]
  rfl

theorem Hmt.metered_reverse (cold : ts < tr) : h.metered t ts tr =
    { h.meteredBase ts tr with
      reverseResidue := (carryInto h.reverseResidue h.reverseKj (h.pulseEnergy ts tr)).residue
      reverseKj := (carryInto h.reverseResidue h.reverseKj (h.pulseEnergy ts tr)).counter
      reverseWrap := h.reverseWrap || (carryInto h.reverseResidue h.reverseKj (h.pulseEnergy ts tr)).wrapped
      reversePulses := h.reversePulses + 1
      lastPulse := some { h.pulseRecord t ts tr with
        energy := some (h.pulseEnergy ts tr)
        carry := some (carryInto h.reverseResidue h.reverseKj (h.pulseEnergy ts tr)).carry } } := by
  have cls : pulseClass (clampedDelta ts tr) = .reverse :=
    (if_neg (by unfold clampedDelta; omega)).trans (if_pos (by unfold clampedDelta; omega))
  unfold Hmt.metered
  rw [clampDelta_eq]
  dsimp only
  rw [show pulseClass (max (-30000) (min 30000 (ts - tr))) = .reverse from cls]
  unfold Hmt.pulseRecord
  rw [cls]
  rfl

theorem Hmt.metered_zero (even : ts = tr) : h.metered t ts tr =
    { h.meteredBase ts tr with zeroPulses := h.zeroPulses + 1, lastPulse := some (h.pulseRecord t ts tr) } := by
  have cls : pulseClass (clampedDelta ts tr) = .zero :=
    (if_neg (by unfold clampedDelta; omega)).trans (if_neg (by unfold clampedDelta; omega))
  unfold Hmt.metered
  rw [clampDelta_eq]
  dsimp only
  rw [show pulseClass (max (-30000) (min 30000 (ts - tr))) = .zero from cls]
  unfold Hmt.pulseRecord
  rw [cls]
  rfl

/-- What every metered pulse makes of the meter (R111, R114, R117, R118). -/
theorem Hmt.metered_always : (h.metered t ts tr).config = h.config ∧ (h.metered t ts tr).lastClear = h.lastClear
    ∧ (h.metered t ts tr).totalVolume = h.addVolume.totalVolume ∧ (h.metered t ts tr).volumeWrap = h.addVolume.volumeWrap
    ∧ (h.metered t ts tr).unmeteredMark = false ∧ (h.metered t ts tr).unmeteredPulses = h.unmeteredPulses
    ∧ (h.metered t ts tr).unmeteredVolume = h.unmeteredVolume
    ∧ (h.metered t ts tr).clampFlag = (h.clampFlag || decide (30000 < (ts - tr).natAbs))
    ∧ ∃ r, (h.metered t ts tr).lastPulse = some r ∧ r.lineTime = t ∧ r.supply = some ts ∧ r.ret = some tr
        ∧ r.delta = some (clampedDelta ts tr) := by
  rcases lt_trichotomy tr ts with warm | even | cold
  · rw [h.metered_forward t warm]
    exact ⟨rfl, rfl, rfl, rfl, rfl, rfl, rfl, rfl, _, rfl, rfl, rfl, rfl, rfl⟩
  · rw [h.metered_zero t even.symm]
    exact ⟨rfl, rfl, rfl, rfl, rfl, rfl, rfl, rfl, _, rfl, rfl, rfl, rfl, rfl⟩
  · rw [h.metered_reverse t cold]
    exact ⟨rfl, rfl, rfl, rfl, rfl, rfl, rfl, rfl, _, rfl, rfl, rfl, rfl, rfl⟩

end Metered

end Sys2Proof.Machine
end

section
/-! PROOFS. A flow pulse as a whole (R83, R109 to R111, R117, R127). -/

namespace Sys2Proof.Machine

section Pulse

variable (s : State) (t : LineTime) {ts tr : Int}

/-- The readings of a metered pulse, or the first reason of R110's table, by the channels' own entries. -/
theorem State.meterReadings_eq : s.meterReadings =
    if s.hmt.config.supply = none then .error .supplyAbsent
    else if s.hmt.config.ret = none then .error .returnAbsent
    else match s.meterReading s.hmt.config.supply, s.meterReading s.hmt.config.ret with
      | none, _ => .error .supplyAbsent
      | some _, none => .error .returnAbsent
      | some ts, some tr =>
        if s.meterSaturated s.hmt.config.supply then .error .supplySaturated
        else if s.meterSaturated s.hmt.config.ret then .error .returnSaturated
        else .ok (ts, tr) := by
  unfold State.meterReadings
  dsimp only
  cases hasSupply : s.hmt.config.supply with
  | none => rfl
  | some c =>
    cases hasReturn : s.hmt.config.ret with
    | none => cases s.meterReading (some c) <;> rfl
    | some d => cases s.meterReading (some c) <;> cases s.meterReading (some d) <;> rfl

theorem State.flowPulse_of_error {why : UnmeteredReason} (fails : s.meterReadings = .error why) : s.flowPulse t =
    if s.hmt.unmeteredMark = true then s.putHmt (s.hmt.unmetered t why)
    else (s.putHmt (s.hmt.unmetered t why)).raise .unmetered := by
  unfold State.flowPulse
  rw [fails]
  dsimp only
  cases s.hmt.unmeteredMark <;> rfl

theorem State.flowPulse_of_forward (measured : s.meterReadings = .ok (ts, tr)) (warm : tr < ts) :
    s.flowPulse t = (s.putHmt (s.hmt.metered t ts tr)).forwardEnergy (s.hmt.pulseEnergy ts tr) := by
  have cls : pulseClass (clampedDelta ts tr) = .forward := if_pos (by unfold clampedDelta; omega)
  have last : (s.hmt.metered t ts tr).lastPulse.bind (fun r => if r.cls = .forward then r.energy else none) =
      some (s.hmt.pulseEnergy ts tr) := by
    rw [s.hmt.metered_forward t warm]
    exact if_pos cls
  unfold State.flowPulse
  rw [measured]
  dsimp only
  rw [last]

theorem State.flowPulse_of_other (measured : s.meterReadings = .ok (ts, tr)) (cold : ts ≤ tr) :
    s.flowPulse t = s.putHmt (s.hmt.metered t ts tr) := by
  have last : (s.hmt.metered t ts tr).lastPulse.bind (fun r => if r.cls = .forward then r.energy else none) = none := by
    rcases cold.lt_or_eq with cold | even
    · have cls : pulseClass (clampedDelta ts tr) ≠ .forward := by
        unfold pulseClass clampedDelta
        rw [if_neg (by omega)]
        split <;> nofun
      rw [s.hmt.metered_reverse t cold]
      exact if_neg cls
    · have cls : pulseClass (clampedDelta ts tr) ≠ .forward := by
        unfold pulseClass clampedDelta
        rw [if_neg (by omega)]
        split <;> nofun
      rw [s.hmt.metered_zero t even]
      exact if_neg cls
  unfold State.flowPulse
  rw [measured]
  dsimp only
  rw [last]

theorem State.forwardEnergy_of_open (p : Nat) {i : Interval} (watches : s.watchInterval? = some i) : s.forwardEnergy p =
    s.putScw { s.scw with interval := some { i with energy := min (2 ^ 64 - 1) (i.energy + p), pulses := i.pulses + 1 } } := by
  unfold State.forwardEnergy
  rw [watches]

theorem State.forwardEnergy_of_inactive (p : Nat) (inactive : s.scw.active = false) : s.forwardEnergy p = s := by
  have closed : s.watchInterval? = none := if_neg (by rw [inactive]; nofun)
  unfold State.forwardEnergy
  rw [closed]

theorem State.forwardEnergy_hmt (p : Nat) : (s.forwardEnergy p).hmt = s.hmt := by
  unfold State.forwardEnergy
  split <;> rfl

/-- A metered pulse leaves its meter record, and only a forward one reaches the watch. -/
theorem State.flowPulse_hmt (measured : s.meterReadings = .ok (ts, tr)) :
    (s.flowPulse t).hmt = s.hmt.metered t ts tr ∧ (s.flowPulse t).attention = s.attention := by
  rcases lt_or_ge tr ts with warm | cold
  · rw [s.flowPulse_of_forward t measured warm]
    exact ⟨State.forwardEnergy_hmt _ _, by simp⟩
  · rw [s.flowPulse_of_other t measured cold]
    exact ⟨rfl, rfl⟩

theorem State.onlyChanges_flowPulse : s.onlyChanges (s.flowPulse t) [.attention, .hmt, .scw] := by
  simp [State.onlyChanges, Part.all, Part.same]

/-- Every pulse adds V to the total volume, whatever its class (R118). -/
theorem State.flowPulse_volume : (s.flowPulse t).hmt.config = s.hmt.config ∧ (s.flowPulse t).hmt.lastClear = s.hmt.lastClear
    ∧ (s.flowPulse t).hmt.totalVolume = s.hmt.addVolume.totalVolume
    ∧ (s.flowPulse t).hmt.volumeWrap = s.hmt.addVolume.volumeWrap := by
  cases readings : s.meterReadings with
  | error why =>
    rw [s.flowPulse_of_error t readings]
    split <;> exact ⟨rfl, rfl, rfl, rfl⟩
  | ok pair =>
    obtain ⟨config, clear, volume, wrap, -⟩ := s.hmt.metered_always t (ts := pair.1) (tr := pair.2)
    rw [(s.flowPulse_hmt t readings).1]
    exact ⟨config, clear, volume, wrap⟩

/-- An unmetered pulse counts as such, keeps the energies, and is reported once a run (R110, R111, R119). -/
theorem State.flowPulse_unmetered {why : UnmeteredReason} (fails : s.meterReadings = .error why) :
    (s.flowPulse t).hmt = s.hmt.unmetered t why ∧ (s.flowPulse t).scw = s.scw
    ∧ (s.hmt.unmeteredMark = false → (s.flowPulse t).isPending .unmetered = true)
    ∧ (s.hmt.unmeteredMark = true → (s.flowPulse t).attention = s.attention) := by
  rw [s.flowPulse_of_error t fails]
  cases marked : s.hmt.unmeteredMark with
  | true => exact ⟨rfl, rfl, nofun, fun _ => rfl⟩
  | false => exact ⟨rfl, rfl, fun _ => State.isPending_raise _ _, nofun⟩

end Pulse

/-- A master edge of a TOTALISER unit hands its pulse to the heat meter with the edge's line stamp (R83). -/
theorem exec_masterEdge_of_totaliser (s : State) (n : CaptureNo) (sample : BitVec 8) (order : List Dependant)
    (runs : s.captures[n].running = true) (mode : s.captures[n].config.mode = .totaliser)
    (comes : s.edgeComes s.captures[n].config.master sample) (fresh : n ∉ s.pulses.masters) :
    ∃ w, exec (.masterEdge n ⟨sample, order⟩) s = .next (w.flowPulse (s.lineStamp s.captures[n].config.master))
      ∧ s.onlyChanges w [.pulses, .captures] ∧ w.meterReadings = s.meterReadings ∧ w.hmt = s.hmt ∧ w.scw = s.scw
      ∧ w.attention = s.attention := by
  let v := s.putPulses { s.pulses with
    now := some sample, lineStamps := s.stampsWith s.captures[n].config.master, masters := s.pulses.masters ++ [n] }
  let r := s.captures[n].countMaster.recordAt (s.lineStamp s.captures[n].config.master) s.tmu.localCount
  have produces : s.captures[n].countMaster.produces = true :=
    s.captures[n].produces_iff.mpr fun polls => nomatch mode.symm.trans polls.1.1
  have isRecord : v.captures[n].countMaster.recordAt (v.lineStamp v.captures[n].config.master) v.tmu.localCount = r := by
    show s.captures[n].countMaster.recordAt (v.lineStamp s.captures[n].config.master) s.tmu.localCount = r
    rw [State.lineStamp_received s s.captures[n].config.master rfl]
  have result := State.masterEdgeAt_of_record v n order produces isRecord
  rw [show v.captures[n].config.mode = .totaliser from mode] at result
  refine ⟨v.masterKept n r, ?_, ?_, rfl, rfl, rfl, rfl⟩
  · rw [State.exec_masterEdge, if_neg (State.admitted comes.1),
      if_pos ((State.told_masterWaits_iff comes.1 n).mpr ⟨runs, comes, fresh⟩), State.takeMaster_eq]
    exact congrArg Host.Outcome.next result
  · exact State.onlyChanges_trans (State.onlyChanges_mono (State.onlyChanges_putPulses _) (by decide))
      (State.onlyChanges_mono (State.onlyChanges_putCapture _ _ _) (by decide))

/-- Settles O33: the readings of the pulse, and the meter after it by the readings' outcome and the sign of ΔT. -/
theorem flowPulseIsMetered : Obligations.FlowPulseIsMetered := by
  refine ⟨fun s => s.meterReadings_eq, fun s n sample order runs mode comes fresh => ?_⟩
  obtain ⟨w, ran, only, readings, hmt, scw, attention⟩ := exec_masterEdge_of_totaliser s n sample order runs mode comes fresh
  obtain ⟨config, clear, volume, wrap⟩ := w.flowPulse_volume (s.lineStamp s.captures[n].config.master)
  refine ⟨_, ran, State.onlyChanges_trans (State.onlyChanges_mono only (by decide))
    (State.onlyChanges_mono (w.onlyChanges_flowPulse _) (by decide)), ?_⟩
  rw [hmt] at config clear volume wrap
  refine ⟨config, clear, volume, wrap, fun why fails => ?_, fun ts tr measured => ?_⟩
  · obtain ⟨meter, watch, raises, unraised⟩ := w.flowPulse_unmetered (s.lineStamp s.captures[n].config.master) (readings.trans fails)
    rw [hmt] at meter raises unraised
    rw [meter]
    exact ⟨watch.trans scw, rfl, rfl, rfl, rfl, rfl, rfl, rfl, rfl, ⟨_, rfl, rfl, rfl, rfl⟩, raises,
      fun marked => (unraised marked).trans attention⟩
  · have measured := readings.trans measured
    obtain ⟨meter, quiet⟩ := w.flowPulse_hmt (s.lineStamp s.captures[n].config.master) measured
    rw [hmt] at meter
    obtain ⟨-, -, -, -, mark, pulses, unmetered, clamp, record⟩ :=
      s.hmt.metered_always (s.lineStamp s.captures[n].config.master) (ts := ts) (tr := tr)
    rw [meter]
    refine ⟨quiet.trans attention, mark, pulses, unmetered, clamp, record, fun warm => ?_, fun cold => ?_, fun even => ?_⟩
    · obtain ⟨sum, wraps⟩ := carryInto_total s.hmt.forwardResidue s.hmt.forwardKj (s.hmt.pulseEnergy ts tr)
      rw [s.hmt.metered_forward _ warm, w.flowPulse_of_forward _ measured warm]
      refine ⟨rfl, Nat.mod_lt _ (by decide), sum, congrArg (s.hmt.forwardWrap || ·) wraps, rfl, rfl, fun i active isOpen => ?_, fun inactive => ?_⟩
      · have watches := State.watchInterval?_of_open (w.putHmt (w.hmt.metered (s.lineStamp s.captures[n].config.master) ts tr))
          (scw ▸ active) (scw ▸ isOpen)
        rw [State.forwardEnergy_of_open _ _ watches, hmt, ← scw]
        rfl
      · rw [State.forwardEnergy_of_inactive _ _ (scw ▸ inactive)]
        exact scw
    · obtain ⟨sum, wraps⟩ := carryInto_total s.hmt.reverseResidue s.hmt.reverseKj (s.hmt.pulseEnergy ts tr)
      rw [s.hmt.metered_reverse _ cold, w.flowPulse_of_other _ measured cold.le]
      exact ⟨rfl, Nat.mod_lt _ (by decide), scw, sum, congrArg (s.hmt.reverseWrap || ·) wraps, rfl, rfl⟩
    · rw [s.hmt.metered_zero _ even, w.flowPulse_of_other _ measured even.le]
      exact ⟨rfl, scw, rfl, rfl, rfl, rfl⟩

end Sys2Proof.Machine
end

section
/-! PROOFS. What the planner's treatment of one slot leaves of the other slot, of its notice and of the claim table
(8.2, 8.5, 8.7). -/

namespace Sys2Proof.Machine

/-! Entries that enter the transmit queue (R26, R27). -/

section Queued

variable {q : List QueueEntry} {n m : Notice}

theorem mem_placeLast_iff {d e : QueueEntry} : e ∈ placeLast d q ↔ e = d ∨ e ∈ q := by
  unfold placeLast
  split
  · rw [List.mem_append, List.mem_cons, List.mem_filter, List.mem_filter]
    cases e.notice.classZero <;> simp [or_comm]
  · rw [List.mem_append, List.mem_singleton, or_comm]

/-- Queuing a notice neither adds nor removes a notice of another group. -/
theorem queued_iff_of_group (other : m.group ≠ n.group) :
    (∃ e ∈ queueIn n q, e.notice = m) ↔ ∃ e ∈ q, e.notice = m := by
  refine ⟨?_, fun mem => mem_queueIn_of_group mem other⟩
  rintro ⟨e, mem, rfl⟩
  unfold queueIn at mem
  split at mem
  · rcases mem_placeLast_iff.mp mem with rfl | mem
    · exact absurd rfl other
    · exact ⟨e, mem, rfl⟩
  · split at mem
    · exact ⟨e, (List.mem_filter.mp mem).1, rfl⟩
    · obtain ⟨d, old, rfl⟩ := List.mem_map.mp mem
      by_cases same : d.notice.group = n.group
      · rw [if_pos same] at other
        exact absurd rfl other
      · exact ⟨d, old, by rw [if_neg same]⟩

end Queued

/-- A slot, its entries and the notices of its group are the same in two states of one station, and no cause has been
cleared between them. -/
structure State.leavesSlot (s t : State) (k : SlotNo) : Prop where
  same : s.sameSlot t k
  notices : ∀ m : Notice, m.group = .claim k → ((∃ e ∈ t.lif.queue, e.notice = m) ↔ ∃ e ∈ s.lif.queue, e.notice = m)
  pending : s.keepsPending t

section Leaves

variable {s t u : State} {k j : SlotNo}

theorem State.leavesSlot.refl (s : State) (k : SlotNo) : s.leavesSlot s k := ⟨.refl s k, fun _ _ => .rfl, fun _ => id⟩

theorem State.leavesSlot.trans (h : s.leavesSlot t k) (g : t.leavesSlot u k) : s.leavesSlot u k :=
  ⟨h.same.trans g.same, fun m group => (g.notices m group).trans (h.notices m group), State.keepsPending_trans h.pending g.pending⟩

theorem State.leavesSlot_of_lif (same : s.sameSlot t k) (lif : t.lif = s.lif) (pending : s.keepsPending t) : s.leavesSlot t k :=
  ⟨same, fun _ _ => by rw [lif], pending⟩

theorem State.leavesSlot_putSlot (s : State) (other : k ≠ j) (x : Slot) : s.leavesSlot (s.putSlot j x) k :=
  State.leavesSlot_of_lif (.putSlot s other x) rfl fun _ => id

theorem State.leavesSlot_queueNotice (s : State) (other : k ≠ j) {n : Notice} (group : n.group = .claim j) :
    s.leavesSlot (s.queueNotice n) k := by
  refine ⟨.of_spl rfl rfl, fun m slot => queued_iff_of_group ?_, fun _ => id⟩
  rw [slot, group]
  exact fun same => other (NoticeGroup.claim.inj same)

theorem State.leavesSlot_raise (s : State) (cause : Cause) (k : SlotNo) : s.leavesSlot (s.raise cause) k :=
  State.leavesSlot_of_lif (.of_spl rfl rfl) rfl (s.keepsPending_raiseIn cause _ _)

theorem State.leavesSlot_raiseClaimFailed (s : State) (j : SlotNo) (why : ClaimFailure) (k : SlotNo) :
    s.leavesSlot (s.raiseClaimFailed j why) k :=
  State.leavesSlot_of_lif (.of_spl rfl rfl) rfl (s.keepsPending_raiseIn _ _ _)

/-- The removal of a slot's own entry with its RELEASE leaves the other slot. -/
theorem State.leavesSlot_release (s : State) (other : k ≠ j) (unit : UnitNo) (reason : ReleaseReason) :
    s.leavesSlot ((s.removeOwn j).queueRelease j unit reason) k := by
  have entries : (s.removeOwn j).ownEntries k = s.ownEntries k := by
    show (s.spl.claims.filter (!s.isOwnEntry j ·)).filter (s.isOwnEntry k) = _
    rw [List.filter_filter, State.ownEntries]
    refine List.filter_congr fun c _ => ?_
    by_cases own : s.isOwnEntry k c = true
    · have foreign : s.isOwnEntry j c = false := by
        rw [State.isOwnEntry, Bool.and_eq_true, decide_eq_true_eq, decide_eq_true_eq] at own
        rw [State.isOwnEntry, own.2, Bool.and_eq_false_iff, decide_eq_false_iff_not]
        refine .inr (decide_eq_false fun same => other (Fin.ext ?_))
        exact congrArg (fun tag : Fin 4 => tag.val) same
      rw [own, foreign]
      rfl
    · rw [Bool.eq_false_iff.mpr own]
      rfl
  have removed : s.leavesSlot (s.removeOwn j) k := State.leavesSlot_of_lif ⟨rfl, rfl, entries⟩ rfl fun _ => id
  have drawn : (s.removeOwn j).leavesSlot { s.removeOwn j with freeNext := (s.removeOwn j).freeNext + 1 } k :=
    State.leavesSlot_of_lif (.of_spl rfl rfl) rfl fun _ => id
  exact removed.trans (drawn.trans (State.leavesSlot_queueNotice _ other rfl))

theorem State.withdrawOnly_leaves (s : State) (other : k ≠ j) : s.leavesSlot (s.withdrawOnly j) k := by
  have released := s.leavesSlot_release other s.spl.slots[j].unit .withdrawn
  rw [State.withdrawOnly]
  split
  · exact released.trans ((State.leavesSlot_putSlot _ other _).trans (State.leavesSlot_raiseClaimFailed _ _ _ _))
  · exact released.trans (State.leavesSlot_putSlot _ other _)

theorem State.planSlot_leaves (s : State) (other : k ≠ j) : s.leavesSlot (s.planSlot j) k := by
  refine ⟨s.planSlot_other j other, fun m group => ?_, Plans.keepsPending (s.planSlot_plans j)⟩
  cases waits : (s.slotState j).isWaiting with
  | false => rw [s.planSlot_of_settled j waits]
  | true =>
    rw [s.planSlot_of_waiting j waits]
    split
    · exact .rfl
    · refine queued_iff_of_group ?_
      rw [group]
      exact fun same => other (NoticeGroup.claim.inj same)
    · exact .rfl

theorem State.withdraw_leaves (s : State) (other : k ≠ j) : s.leavesSlot (s.withdraw j) k :=
  (s.withdrawOnly_leaves other).trans (State.planSlot_leaves _ other)

/-- The new plans leave a slot that does not wait, with its notices. -/
theorem State.replan_leaves (s : State) (settled : (s.slotState k).isWaiting = false) : s.leavesSlot s.replan k := by
  rw [State.replan]
  match k with
  | 0 =>
    rw [s.planSlot_of_settled 0 settled]
    exact s.planSlot_leaves (by decide)
  | 1 =>
    have first := s.planSlot_leaves (k := 1) (j := 0) (by decide)
    rw [State.planSlot_of_settled _ 1 (by rw [first.same.state]; exact settled)]
    exact first

theorem State.replanIf_leaves (s : State) (settled : (s.slotState k).isWaiting = false) (removed : Bool) :
    s.leavesSlot (s.replanIf removed) k := by
  unfold State.replanIf
  split
  · exact s.replan_leaves settled
  · exact .refl s k

/-- The judgement of one slot's claim leaves the other slot (R162). -/
theorem State.judge_leaves (s : State) (heard : Claim) (other : k ≠ j) : s.leavesSlot (s.judge heard j).1 k := by
  unfold State.judge
  split
  · exact .refl s k
  · split
    · exact .refl s k
    · split
      · split
        · exact s.withdraw_leaves other
        · exact .refl s k
      · split
        · split
          · exact s.leavesSlot_raise _ _
          · exact s.leavesSlot_queueNotice other rfl
        · exact .refl s k

end Leaves

/-! Entries that enter and leave the claim table by a plan (R147, R156). -/

section Table

variable {s t u : State} {c d : Claim} {cs : List Claim} {k : SlotNo}

theorem mem_insertClaim : d ∈ insertClaim c cs ↔ d = c ∨ d ∈ cs := (insertClaim_perm c cs).mem_iff.trans List.mem_cons

/-- A plan removes no entry. -/
theorem State.mem_planSlot (mem : c ∈ s.spl.claims) (k : SlotNo) : c ∈ (s.planSlot k).spl.claims := by
  cases waits : (s.slotState k).isWaiting with
  | false =>
    rw [s.planSlot_of_settled k waits]
    exact mem
  | true =>
    rw [s.planSlot_of_waiting k waits]
    split
    · exact mem
    · exact mem_insertClaim.mpr (.inr mem)
    · exact mem

theorem State.mem_replan (mem : c ∈ s.spl.claims) : c ∈ s.replan.spl.claims := State.mem_planSlot (State.mem_planSlot mem 0) 1

/-- An entry that a plan brings is the planned slot's own, which was waiting and is announced. -/
theorem State.planSlot_enters (s : State) (k : SlotNo) (mem : c ∈ (s.planSlot k).spl.claims) : c ∈ s.spl.claims
    ∨ s.isOwnEntry k c = true ∧ (s.slotState k).isWaiting = true ∧ (s.planSlot k).slotState k = .announced ∧ c.firm = false := by
  cases waits : (s.slotState k).isWaiting with
  | false =>
    rw [s.planSlot_of_settled k waits] at mem
    exact .inl mem
  | true =>
    rw [s.planSlot_of_waiting k waits] at mem ⊢
    split at mem
    · exact .inl mem
    · rename_i start _ _
      rcases mem_insertClaim.mp mem with rfl | mem
      · refine .inr ⟨?_, rfl, ?_, rfl⟩
        · simp [State.isOwnEntry, State.putSlot, State.putSpl]
        · exact congrArg Slot.state ((State.putSlot_get (s.putSlot k (s.openSlot k)) k k _).trans (if_pos rfl))
      · exact .inl mem
    · exact .inl mem

/-- An entry that the new plans bring is the own one of a slot that was waiting and is announced. -/
theorem State.replan_enters (s : State) (mem : c ∈ s.replan.spl.claims) : c ∈ s.spl.claims
    ∨ ∃ k, s.isOwnEntry k c = true ∧ (s.slotState k).isWaiting = true ∧ s.replan.slotState k = .announced ∧ c.firm = false := by
  have first := s.planSlot_other (k := 0) (j := 1) (by decide)
  have second := (s.planSlot 0).planSlot_other (k := 1) (j := 0) (by decide)
  rcases (s.planSlot 0).planSlot_enters 1 mem with mem | ⟨own, waits, announced, tentative⟩
  · rcases s.planSlot_enters 0 mem with mem | ⟨own, waits, announced, tentative⟩
    · exact .inl mem
    · exact .inr ⟨0, own, waits, second.state.trans announced, tentative⟩
  · rw [State.isOwnEntry_congr first.stationNo] at own
    rw [first.state] at waits
    exact .inr ⟨1, own, waits, announced, tentative⟩

/-- The entries of other stations are the same in two states of one station. -/
structure State.sameForeign (s t : State) : Prop where
  stationNo : t.stationNo = s.stationNo
  entries : ∀ c : Claim, c.station ≠ s.stationNo → (c ∈ t.spl.claims ↔ c ∈ s.spl.claims)

theorem State.sameForeign.refl (s : State) : s.sameForeign s := ⟨rfl, fun _ _ => .rfl⟩

theorem State.sameForeign.trans (h : s.sameForeign t) (g : t.sameForeign u) : s.sameForeign u :=
  ⟨g.stationNo.trans h.stationNo, fun c foreign => (g.entries c (h.stationNo ▸ foreign)).trans (h.entries c foreign)⟩

theorem State.isOwnEntry_foreign (foreign : c.station ≠ s.stationNo) (k : SlotNo) : s.isOwnEntry k c = false := by
  rw [State.isOwnEntry, decide_eq_false foreign, Bool.false_and]

theorem State.planSlot_foreign (s : State) (k : SlotNo) : s.sameForeign (s.planSlot k) := by
  refine ⟨by simp, fun c foreign => ⟨fun mem => ?_, fun mem => State.mem_planSlot mem k⟩⟩
  rcases s.planSlot_enters k mem with mem | ⟨own, -⟩
  · exact mem
  · rw [State.isOwnEntry_foreign foreign] at own
    cases own

theorem State.replan_foreign (s : State) : s.sameForeign s.replan := (s.planSlot_foreign 0).trans (State.planSlot_foreign _ 1)

theorem State.replanIf_foreign (s : State) (removed : Bool) : s.sameForeign (s.replanIf removed) := by
  unfold State.replanIf
  split
  · exact s.replan_foreign
  · exact .refl s

/-- A withdrawal removes the slot's own entries and no other, before its new plan (R161). -/
theorem State.withdrawOnly_claims (s : State) (k : SlotNo) :
    (s.withdrawOnly k).spl.claims = s.spl.claims.filter (!s.isOwnEntry k ·) := by
  rw [State.withdrawOnly]
  split <;> rfl

theorem State.withdraw_foreign (s : State) (k : SlotNo) : s.sameForeign (s.withdraw k) := by
  refine State.sameForeign.trans ⟨by simp, fun c foreign => ?_⟩ (State.planSlot_foreign _ k)
  rw [s.withdrawOnly_claims k, List.mem_filter, State.isOwnEntry_foreign foreign]
  exact and_iff_left rfl

theorem State.judge_foreign (s : State) (heard : Claim) (k : SlotNo) : s.sameForeign (s.judge heard k).1 := by
  unfold State.judge
  split
  · exact .refl s
  · split
    · exact .refl s
    · split
      · split
        · exact s.withdraw_foreign k
        · exact .refl s
      · split
        · split
          · exact ⟨rfl, fun _ _ => .rfl⟩
          · exact ⟨rfl, fun _ _ => .rfl⟩
        · exact .refl s

end Table

end Sys2Proof.Machine
end

section
/-! PROOFS. Claims and RELEASEs heard (R149, R150, R162). -/

namespace Sys2Proof.Machine

/-! The table after a claim heard (R149). -/

section Written

variable {cs : List Claim} {c : Claim}

theorem mem_writeHeard_self (c : Claim) (cs : List Claim) : c ∈ (writeHeard c cs).1 := by
  unfold writeHeard
  dsimp only
  split
  · rename_i old found
    split
    · exact List.mem_map.mpr ⟨old, List.mem_of_find?_eq_some found, if_pos (List.find?_some found)⟩
    · exact mem_insertClaim.mpr (.inl rfl)
  · split
    · exact mem_insertClaim.mpr (.inl rfl)
    · exact mem_insertClaim.mpr (.inl rfl)

/-- One entry of a sound table has a station and slot. -/
theorem claimsSound.unique {me : StationNo} (sound : claimsSound me cs) {d : Claim} (memC : c ∈ cs) (memD : d ∈ cs)
    (station : c.station = d.station) (slot : c.slot = d.slot) : c = d :=
  List.inj_on_of_nodup_map sound.distinct memC memD (by rw [station, slot])

end Written

/-! A claim heard, judged against one slot's own claim (R162). -/

section Judged

variable {s : State} {heard own : Claim} {k : SlotNo}

theorem State.judge_apart (entry : s.ownEntry? k = some own) (apart : heard.overlaps own = false) :
    s.judge heard k = (s, false) := by
  rw [State.judge, entry]
  exact if_pos (by rw [apart]; rfl)

theorem State.judge_unsettled (entry : s.ownEntry? k = some own) (overlaps : heard.overlaps own = true)
    (unsettled : (s.slotState k).unsettled = true) : s.judge heard k =
      if heard.station < s.stationNo ∨ heard.firm = true then (s.withdraw k, true) else (s, false) := by
  rw [State.judge, entry]
  refine (if_neg (by rw [overlaps]; nofun)).trans ((if_pos unsettled).trans ?_)
  exact ite_congr (by rw [Bool.or_eq_true, decide_eq_true_eq]) (fun _ => rfl) fun _ => rfl

theorem State.judge_confirmed (entry : s.ownEntry? k = some own) (overlaps : heard.overlaps own = true)
    (confirmed : (s.slotState k).confirmed = true) : s.judge heard k =
      if heard.firm = true then (s.raise (.startOverlap k), false)
      else (s.queueNotice (.claim k own.unit own.start own.length true), false) := by
  have settled : (s.slotState k).unsettled = false := by
    cases state : s.slotState k with
    | firm | started => rfl
    | _ => rw [state] at confirmed; cases confirmed
  rw [State.judge, entry]
  exact (if_neg (by rw [overlaps]; nofun)).trans ((if_neg (by rw [settled]; nofun)).trans (if_pos confirmed))

theorem State.claimHeard_of_reached (reached : heard.expiredAt s.now = true) : s.claimHeard heard =
    (s.putClaims ((writeHeard heard s.spl.claims).1.erase heard)).replan :=
  if_pos reached

theorem State.claimHeard_of_ahead (ahead : heard.expiredAt s.now = false) : ∃ removed, s.claimHeard heard =
    (((s.putClaims (writeHeard heard s.spl.claims).1).judge heard 0).1.judge heard 1).1.replanIf removed :=
  ⟨_, if_neg (ne_true_of_eq_false ahead)⟩

/-- The slot's own entry stays as another station's claim is written. -/
theorem State.writeHeard_sameSlot (foreign : heard.station ≠ s.stationNo) (entries : s.ownEntries k = [own]) :
    s.sameSlot (s.putClaims (writeHeard heard s.spl.claims).1) k := by
  refine ⟨rfl, rfl, ?_⟩
  have ofStation (cs : List Claim) : cs.filter (s.isOwnEntry k) = (cs.filter (·.station = s.stationNo)).filter (·.slot = SlotNo.inTag k) := by
    rw [List.filter_filter]
    exact List.filter_congr fun c _ => Bool.and_comm _ _
  have perm := (writeHeard_own foreign s.spl.claims).filter (·.slot = SlotNo.inTag k)
  rw [← ofStation, ← ofStation, show s.spl.claims.filter (s.isOwnEntry k) = [own] from entries] at perm
  exact (List.perm_singleton.mp perm).trans entries.symm

/-- A claim heard is judged against a slot's claim in a state that has that slot as before, and what follows leaves the slot. -/
theorem State.claimHeard_from (foreign : heard.station ≠ s.stationNo) (ahead : heard.expiredAt s.now = false)
    (entries : s.ownEntries k = [own]) : ∃ v w removed, s.sameSlot v k ∧ (v.judge heard k).1.leavesSlot w k
      ∧ s.claimHeard heard = w.replanIf removed := by
  obtain ⟨removed, heardIs⟩ := State.claimHeard_of_ahead ahead
  have written := State.writeHeard_sameSlot (s := s) (k := k) foreign entries
  match k with
  | 0 => exact ⟨_, _, removed, written, State.judge_leaves _ heard (j := 1) (by decide), heardIs⟩
  | 1 => exact ⟨_, _, removed, written.trans (State.judge_leaves _ heard (j := 0) (by decide)).same, .refl _ 1, heardIs⟩

theorem State.claimHeard_foreign (ahead : heard.expiredAt s.now = false) :
    (s.putClaims (writeHeard heard s.spl.claims).1).sameForeign (s.claimHeard heard) := by
  obtain ⟨removed, heardIs⟩ := State.claimHeard_of_ahead ahead
  rw [heardIs]
  exact ((State.judge_foreign _ heard 0).trans (State.judge_foreign _ heard 1)).trans (State.replanIf_foreign _ removed)

end Judged

/-! What a claim heard makes of an own claim (R162). -/

section Contest

variable {s : State} {heard own : Claim} {k : SlotNo}

/-- The one own entry of a slot. -/
theorem State.ownEntries_of_pumps (pumps : PumpsAgree s) (entry : s.ownEntry? k = some own) :
    s.ownEntries k = [own] ∧ (s.slotState k).isWaiting = false := by
  have mem : own ∈ s.ownEntries k := List.mem_filter.mpr ⟨List.mem_of_find?_eq_some entry, List.find?_some entry⟩
  cases holds : (s.slotState k).holdsEntry with
  | false =>
    rw [State.ownEntries, pumps.none k holds] at mem
    cases mem
  | true =>
    obtain ⟨c, one, -⟩ := pumps.entry k holds
    rw [State.ownEntries, one, List.mem_singleton] at mem
    subst mem
    refine ⟨one, ?_⟩
    cases state : s.slotState k with
    | waiting => rw [state] at holds; cases holds
    | _ => rfl

theorem State.ownEntry?_of_entries (entries : s.ownEntries k = [own]) : s.ownEntry? k = some own := by
  rw [State.ownEntry?, ← List.head?_filter, show s.spl.claims.filter (s.isOwnEntry k) = [own] from entries]
  rfl

/-- A slot that is left keeps its own entry in the table. -/
theorem State.sameSlot.mem {t : State} (same : s.sameSlot t k) (entries : s.ownEntries k = [own]) : own ∈ t.spl.claims := by
  have mem : own ∈ t.ownEntries k := by
    rw [same.entries, entries]
    exact List.mem_singleton_self own
  exact (List.mem_filter.mp mem).1

theorem State.claimHeard_slot (pumps : PumpsAgree s) (foreign : heard.station ≠ s.stationNo) (ahead : heard.expiredAt s.now = false)
    (entry : s.ownEntry? k = some own) :
    (heard.overlaps own = false → s.sameSlot (s.claimHeard heard) k)
    ∧ (heard.overlaps own = true → (s.slotState k).unsettled = true →
        (heard.station < s.stationNo ∨ heard.firm = true → (s.claimHeard heard).slotState k = .free
          ∨ (s.claimHeard heard).spl.slots[k].withdrawals = s.spl.slots[k].withdrawals + 1)
        ∧ (¬(heard.station < s.stationNo ∨ heard.firm = true) → s.sameSlot (s.claimHeard heard) k))
    ∧ (heard.overlaps own = true → (s.slotState k).confirmed = true → s.sameSlot (s.claimHeard heard) k
        ∧ (heard.firm = true → (s.claimHeard heard).isPending (.startOverlap k) = true)
        ∧ (heard.firm = false → ∃ e ∈ (s.claimHeard heard).lif.queue, e.notice = .claim k own.unit own.start own.length true)) := by
  obtain ⟨entries, settled⟩ := State.ownEntries_of_pumps pumps entry
  obtain ⟨v, w, removed, before, after, isHeard⟩ := State.claimHeard_from foreign ahead entries
  have entry : v.ownEntry? k = some own := State.ownEntry?_of_entries (before.entries.trans entries)
  have stands (same : v.sameSlot (v.judge heard k).1 k) : (v.judge heard k).1.leavesSlot (w.replanIf removed) k :=
    after.trans (w.replanIf_leaves (by rw [after.same.state, same.state, before.state]; exact settled) removed)
  rw [isHeard]
  refine ⟨fun apart => ?_, fun overlaps unsettled => ?_, fun overlaps confirmed => ?_⟩
  · have judged := State.judge_apart entry apart
    have rest := stands (by rw [judged]; exact .refl v k)
    rw [judged] at rest
    exact before.trans rest.same
  · have judged := State.judge_unsettled entry overlaps (by rw [before.state]; exact unsettled)
    rw [before.stationNo] at judged
    refine ⟨fun beaten => ?_, fun unbeaten => ?_⟩
    · rw [if_pos beaten] at judged
      rw [judged] at after
      have counts : v.spl.slots[k].withdrawals = s.spl.slots[k].withdrawals := congrArg Slot.withdrawals before.slot
      by_cases ninth : 9 ≤ v.spl.slots[k].withdrawals + 1
      · obtain ⟨free, -⟩ := v.withdraw_ninth k ninth
        have free : w.slotState k = .free := after.same.state.trans free
        have rest := w.replanIf_leaves (k := k) (by rw [free]; rfl) removed
        exact .inl (rest.same.state.trans free)
      · obtain ⟨planned, counted⟩ := v.withdraw_counted k (not_le.mp ninth)
        have counted : w.spl.slots[k].withdrawals = s.spl.slots[k].withdrawals + 1 := by
          rw [after.same.slot, counted, counts]
        have planned : (w.slotState k).planned := by
          rw [after.same.state]
          exact planned
        refine .inr ?_
        unfold State.replanIf
        split
        · exact (w.replan_planned k planned).2.trans counted
        · exact counted
    · rw [if_neg unbeaten] at judged
      have rest := stands (by rw [judged]; exact .refl v k)
      rw [judged] at rest
      exact before.trans rest.same
  · have judged := State.judge_confirmed entry overlaps (by rw [before.state]; exact confirmed)
    cases firm : heard.firm with
    | true =>
      rw [firm, if_pos rfl] at judged
      have noted := v.leavesSlot_raise (.startOverlap k) k
      have rest := stands (by rw [judged]; exact noted.same)
      rw [judged] at rest
      exact ⟨before.trans (noted.same.trans rest.same), fun _ => rest.pending _ (State.isPending_raise _ _), nofun⟩
    | false =>
      rw [firm, if_neg nofun] at judged
      have queued : v.sameSlot (v.queueNotice (.claim k own.unit own.start own.length true)) k := .of_spl rfl rfl
      have rest := stands (by rw [judged]; exact queued)
      rw [judged] at rest
      exact ⟨before.trans (queued.trans rest.same), nofun, fun _ => (rest.notices _ rfl).mpr (mem_queueIn_self _ rfl)⟩

end Contest

/-! The claims as their notices carry them. -/

theorem claimOf_eq (n : StationNo) (p : List Byte) : claimOf n p =
    { station := n, slot := ⟨fieldNat p 0 1 % 4, by omega⟩, unit := ⟨fieldNat p 0 1 / 4 % 4, by omega⟩
      start := BitVec.ofNat 32 (fieldNat p 1 4), length := fieldNat p 5 2, firm := (fieldNat p 0 1).testBit 7 } := by
  have slot : (indexMod 4 (bits (fieldNat p 0 1) 0 2) : Fin 4) = ⟨fieldNat p 0 1 % 4, by omega⟩ := by
    refine Fin.ext ?_
    show fieldNat p 0 1 / 1 % 4 % 4 = _
    rw [Nat.div_one, Nat.mod_mod]
  have unit : (indexMod 4 (bits (fieldNat p 0 1) 2 2) : Fin 4) = ⟨fieldNat p 0 1 / 4 % 4, by omega⟩ :=
    Fin.ext (Nat.mod_mod _ _)
  unfold claimOf
  rw [← slot, ← unit, ← bit_eq_testBit]

theorem releaseSlotOf_val (p : List Byte) : (releaseSlotOf p).val = fieldNat p 0 1 % 4 := by
  show fieldNat p 0 1 / 1 % 4 % 4 = _
  rw [Nat.div_one, Nat.mod_mod]

/-- The sender's row of a station that was not silent is written with no more. -/
theorem State.writeRow_of_audible {s : State} {n : StationNo} (audible : s.peers[n].silent = false) (row : PeerRow) :
    s.writeRow n row = s.putPeer n row := if_neg (by rw [audible]; nofun)

/-- A RELEASE heard removes the entry that it names, and only that one; without one it leaves the planner (R150). -/
theorem State.releaseHeard_claims (s : State) {n : StationNo} (slot : Fin 4) (foreign : n ≠ s.stationNo) :
    (∀ c ∈ s.spl.claims, ¬(c.station = n ∧ c.slot = slot) → c ∈ (s.releaseHeard n slot).spl.claims)
    ∧ (∀ c ∈ (s.releaseHeard n slot).spl.claims, ¬(c.station = n ∧ c.slot = slot))
    ∧ ((∀ c ∈ s.spl.claims, ¬(c.station = n ∧ c.slot = slot)) → (s.releaseHeard n slot).spl = s.spl) := by
  have names (c : Claim) : (decide (c.station = n) && decide (c.slot = slot)) = true ↔ c.station = n ∧ c.slot = slot := by
    rw [Bool.and_eq_true, decide_eq_true_eq, decide_eq_true_eq]
  by_cases found : s.spl.claims.any (fun c => decide (c.station = n) && decide (c.slot = slot)) = true
  · let kept := s.spl.claims.filter fun c => !(decide (c.station = n) && decide (c.slot = slot))
    have result : s.releaseHeard n slot = (s.putClaims kept).replan := if_pos found
    have stays {c : Claim} : c ∈ kept ↔ c ∈ s.spl.claims ∧ ¬(c.station = n ∧ c.slot = slot) := by
      rw [List.mem_filter, Bool.not_eq_true', ← Bool.not_eq_true, names]
    rw [result]
    refine ⟨fun c mem other => State.mem_replan (stays.mpr ⟨mem, other⟩), fun c mem named => ?_, fun none => ?_⟩
    · have old := ((s.putClaims kept).replan_foreign.entries c (by rw [named.1]; exact foreign)).mp mem
      exact (stays.mp old).2 named
    · obtain ⟨c, mem, named⟩ := List.any_eq_true.mp found
      exact absurd ((names c).mp named) (none c mem)
  · have result : s.releaseHeard n slot = s := if_neg found
    rw [result]
    refine ⟨fun c mem _ => mem, fun c mem named => found (List.any_eq_true.mpr ⟨c, mem, (names c).mpr named⟩), fun _ => rfl⟩

/-- Settles O42: the table as the notice leaves it, and each own claim by its judgement. -/
theorem heardClaimsAreJudged : Obligations.HeardClaimsAreJudged := by
  intro s n p order pumps table
  refine ⟨fun hears audible => ?_, fun hears audible => ?_⟩
  · let u := (s.asHeard 3 n p).putPeer n ((s.asHeard 3 n p).heardRow n)
    have ran : exec (.frameReceived (frameCheck 3 n p) order) s = .next (u.releaseHeard n (releaseSlotOf p)) := by
      rw [hears.run order]
      exact congrArg (fun x : State => Host.Outcome.next (x.releaseHeard n (releaseSlotOf p)))
        (State.writeRow_of_audible (s := s.asHeard 3 n p) audible _)
    have claims := u.releaseHeard_claims (releaseSlotOf p) hears.other
    simp only [Fin.ext_iff (b := releaseSlotOf p), releaseSlotOf_val] at claims
    exact ⟨_, ran, claims⟩
  · let u := (s.asHeard 2 n p).putPeer n ((s.asHeard 2 n p).heardRow n)
    have ran : exec (.frameReceived (frameCheck 2 n p) order) s = .next (u.claimHeard (claimOf n p)) := by
      rw [hears.run order]
      exact congrArg (fun x : State => Host.Outcome.next (x.claimHeard (claimOf n p)))
        (State.writeRow_of_audible (s := s.asHeard 2 n p) audible _)
    refine ⟨_, ran, ?_⟩
    intro tag heard
    have isHeard : claimOf n p = heard := claimOf_eq n p
    rw [isHeard]
    clear_value heard
    have sender : heard.station = n := by rw [← isHeard]; rfl
    have foreign : heard.station ≠ u.stationNo := by rw [sender]; exact hears.other
    have sound := claimsSound_writeHeard (claimTableSound_iff.mp table) (c := heard) foreign
    refine ⟨fun expired => ?_, fun ahead => ?_⟩
    · have reached : heard.expiredAt u.now = true := by
        rw [Claim.expiredAt, Machine.reached, show u.now = s.tmu.lineTime from rfl, expired]
        rfl
      rw [State.claimHeard_of_reached reached]
      intro mem
      have old := ((State.replan_foreign (u.putClaims ((writeHeard heard u.spl.claims).1.erase heard))).entries heard foreign).mp mem
      exact (List.Nodup.not_mem_erase (List.Nodup.of_map _ sound.distinct)) old
    · have ahead : heard.expiredAt u.now = false := by
        rw [Claim.expiredAt, Machine.reached, show u.now = s.tmu.lineTime from rfl, ahead]
        rfl
      have table := State.claimHeard_foreign ahead
      refine ⟨(table.entries heard foreign).mpr (mem_writeHeard_self heard _), fun c mem station slot => ?_, fun k own entry => ?_⟩
      · have old := (table.entries c (by rw [station]; exact hears.other)).mp mem
        exact sound.unique old (mem_writeHeard_self heard _) (station.trans sender.symm) slot
      · have pumps : PumpsAgree u := ⟨pumps.entry, pumps.none, pumps.apart, pumps.idle, pumps.units⟩
        have entry : u.ownEntry? k = some own := entry
        have entries := (State.ownEntries_of_pumps pumps entry).1
        obtain ⟨apart, unsettled, confirmed⟩ := State.claimHeard_slot pumps foreign ahead entry
        rw [Claim.overlaps_comm own heard]
        rw [sender] at unsettled
        refine ⟨fun none => ?_, fun overlaps isUnsettled => ⟨(unsettled overlaps isUnsettled).1, fun lower tentative => ?_⟩,
          fun overlaps isConfirmed => ?_⟩
        · have same := apart none
          exact ⟨same.slot, same.mem entries⟩
        · have same := (unsettled overlaps isUnsettled).2 (by
            rintro (less | firm)
            · exact absurd less (not_lt.mpr (le_of_lt lower))
            · rw [tentative] at firm
              cases firm)
          exact ⟨same.slot, same.mem entries⟩
        · obtain ⟨same, raises, queued⟩ := confirmed overlaps isConfirmed
          exact ⟨same.slot, same.mem entries, raises, queued⟩

end Sys2Proof.Machine
end

section
/-! PROOFS. What the new plans make of a slot that waits without an entry (R155 to R157, R161). -/

namespace Sys2Proof.Machine

/-! Where the search of a plan may end (R155, R156). -/

section Search

variable (s : State)

/-- What the search finds is one of its candidates. -/
theorem State.findStart_found {length count : Nat} {base start : LineTime} (found : s.findStart length count base = some start) :
    ∃ n, n < count ∧ start = candidate base n := by
  induction count generalizing base with
  | zero => cases found
  | succ count ih =>
    rw [State.findStart] at found
    split at found
    · exact ⟨0, Nat.succ_pos count, by rw [candidate, Nat.mul_zero, BitVec.add_zero, Option.some.inj found]⟩
    · obtain ⟨n, less, is⟩ := ih found
      exact ⟨n + 1, Nat.succ_lt_succ less, is.trans (candidate_succ base n)⟩

/-- The settle interval and a slot's earliest time are within the ranges that requests keep (R153, R204). -/
def State.nearSlot (k : SlotNo) : Prop := s.config.settleMs ≤ 500
  ∧ ∀ e, s.spl.slots[k].earliest = some e → later e s.tmu.lineTime = true → (e - s.tmu.lineTime).toNat ≤ 600000000

/-- A time at most ten minutes ahead, rounded up to a granule and granules later, is still ahead. -/
theorem later_candidate_of_near {now from_ : LineTime} (low : 0 < (from_ - now).toNat) (high : (from_ - now).toNat ≤ 600000000)
    {n : Nat} (few : n ≤ 65536) : later (candidate (BitVec.ofNat 32 ((from_.toNat + 1023) / 1024 * 1024)) n) now = true := by
  have total : (candidate (BitVec.ofNat 32 ((from_.toNat + 1023) / 1024 * 1024)) n - now).toNat =
      (from_ - now).toNat + ((from_.toNat + 1023) / 1024 * 1024 - from_.toNat) + 1024 * n := by
    rw [candidate, BitVec.toNat_sub, BitVec.toNat_add, BitVec.toNat_ofNat, BitVec.toNat_ofNat]
    rw [BitVec.toNat_sub] at low high ⊢
    omega
  rw [later, total, Bool.and_eq_true, decide_eq_true_eq, decide_eq_true_eq]
  omega

/-- A plan never finds a start that has been reached. -/
theorem State.later_of_planned {k : SlotNo} {start : LineTime} (near : s.nearSlot k) (found : s.planned? k = some start) :
    later start s.tmu.lineTime = true := by
  obtain ⟨settle, ahead⟩ := near
  obtain ⟨n, less, rfl⟩ := s.findStart_found found
  have opened : (s.openSlot k).earliest = s.spl.slots[k].earliest.filter fun t => later t s.tmu.lineTime := s.openEarliest_eq _
  have lead : (s.tmu.lineTime + BitVec.ofNat 32 (1024 * ((s.config.settleMs * 1000 + 10000 + 1023) / 1024)) - s.tmu.lineTime).toNat =
      1024 * ((s.config.settleMs * 1000 + 10000 + 1023) / 1024) := by
    rw [BitVec.toNat_sub, BitVec.toNat_add, BitVec.toNat_ofNat]
    omega
  show later (candidate (s.searchStart (s.openSlot k).earliest) n) s.tmu.lineTime = true
  rw [State.searchStart_eq, opened]
  unfold State.searchFrom
  have few : n ≤ 65536 := Nat.le_of_lt_succ less
  dsimp only
  cases earliest : s.spl.slots[k].earliest with
  | none =>
    rw [Option.filter_none]
    exact later_candidate_of_near (by rw [lead]; omega) (by rw [lead]; omega) few
  | some e =>
    rw [Option.filter_some]
    by_cases isAhead : later e s.tmu.lineTime = true
    · rw [if_pos isAhead]
      dsimp only
      split
      · refine later_candidate_of_near ?_ (ahead e earliest isAhead) few
        rw [later, Bool.and_eq_true, decide_eq_true_eq] at isAhead
        exact isAhead.1
      · exact later_candidate_of_near (by rw [lead]; omega) (by rw [lead]; omega) few
    · rw [if_neg isAhead]
      exact later_candidate_of_near (by rw [lead]; omega) (by rw [lead]; omega) few

end Search

/-- What new plans have made of a slot that waited without an entry: it waits still, with no entry and the notices of before,
or is announced with the one entry of the plan and its CLAIM (R156). -/
structure State.planOutcome (u t : State) (k : SlotNo) : Prop where
  stationNo : t.stationNo = u.stationNo
  tmu : t.tmu = u.tmu
  config : t.config = u.config
  unit : t.spl.slots[k].unit = u.spl.slots[k].unit
  withdrawals : t.spl.slots[k].withdrawals = u.spl.slots[k].withdrawals
  outcome :
    ((t.slotState k).isWaiting = true ∧ t.ownEntries k = []
      ∧ (∀ m : Notice, m.group = .claim k → ((∃ e ∈ t.lif.queue, e.notice = m) ↔ ∃ e ∈ u.lif.queue, e.notice = m))
      ∧ ∀ e, t.spl.slots[k].earliest = some e → u.spl.slots[k].earliest = some e)
    ∨ (t.slotState k = .announced ∧ ∃ new, t.ownEntries k = [new] ∧ new.unit = u.spl.slots[k].unit ∧ new.firm = false
      ∧ (u.nearSlot k → later new.start u.tmu.lineTime = true)
      ∧ ∃ e ∈ t.lif.queue, e.notice = .claim k new.unit new.start new.length false)

section Outcome

variable {u t v : State} {k : SlotNo}

theorem State.planOutcome.refl (waits : (u.slotState k).isWaiting = true) (none_ : u.ownEntries k = []) : u.planOutcome u k :=
  ⟨rfl, rfl, rfl, rfl, rfl, .inl ⟨waits, none_, fun _ _ => .rfl, fun _ => id⟩⟩

/-- What leaves the slot keeps the outcome of its plans. -/
theorem State.planOutcome.leaves (h : u.planOutcome t k) (after : t.leavesSlot v k) (tmu : v.tmu = t.tmu)
    (config : v.config = t.config) : u.planOutcome v k := by
  obtain ⟨same, notices, -⟩ := after
  refine ⟨same.stationNo.trans h.stationNo, tmu.trans h.tmu, config.trans h.config, ?_, ?_, ?_⟩
  · rw [same.slot]
    exact h.unit
  · rw [same.slot]
    exact h.withdrawals
  · rw [same.state, same.entries, same.slot]
    refine h.outcome.imp ?_ ?_
    · rintro ⟨waits, none_, queued, earliest⟩
      exact ⟨waits, none_, fun m group => (notices m group).trans (queued m group), earliest⟩
    · rintro ⟨announced, new, one, unit, tentative, ahead, queued⟩
      exact ⟨announced, new, one, unit, tentative, ahead, (notices _ rfl).mpr queued⟩

/-- One entry that enters a table without entries of its slot is the slot's only one. -/
theorem ownEntries_insert_self {test : Claim → Bool} {c : Claim} {cs : List Claim} (fits : test c = true) (none_ : cs.filter test = []) :
    (insertClaim c cs).filter test = [c] := by
  have perm := (insertClaim_perm c cs).filter test
  rw [List.filter_cons_of_pos fits, none_] at perm
  exact List.perm_singleton.mp perm

theorem State.planSlot_clock (t : State) (k : SlotNo) : (t.planSlot k).tmu = t.tmu ∧ (t.planSlot k).config = t.config
    ∧ (t.planSlot k).stationNo = t.stationNo := by
  simp

/-- A further plan of a slot keeps to the outcomes of a plan. -/
theorem State.planOutcome.plan (h : u.planOutcome t k) : u.planOutcome (t.planSlot k) k := by
  obtain ⟨tmu, config, stationNo⟩ := t.planSlot_clock k
  rcases h.outcome with ⟨waits, none_, queued, earliest⟩ | ⟨announced, -⟩
  · have near (near : u.nearSlot k) : t.nearSlot k := by
      refine ⟨by rw [h.config]; exact near.1, fun e is ahead => ?_⟩
      rw [h.tmu] at ahead ⊢
      exact near.2 e (earliest e is) ahead
    have opens (e : LineTime) (is : (t.openSlot k).earliest = some e) : u.spl.slots[k].earliest = some e :=
      earliest e (Option.eq_some_of_filter_eq_some is)
    have plan := t.planSlot_of_waiting k waits
    cases wait : t.planWait? k with
    | some why =>
      rw [wait] at plan
      have plan : t.planSlot k = t.putSlot k { t.openSlot k with state := .waiting why } := plan
      have slot : (t.planSlot k).spl.slots[k] = { t.openSlot k with state := .waiting why } := by
        rw [plan]
        exact (t.putSlot_get k k _).trans (if_pos rfl)
      refine ⟨stationNo.trans h.stationNo, tmu.trans h.tmu, config.trans h.config, ?_, ?_, .inl ⟨?_, ?_, ?_, ?_⟩⟩
      · exact (congrArg Slot.unit slot).trans h.unit
      · exact (congrArg Slot.withdrawals slot).trans h.withdrawals
      · exact congrArg (fun x : Slot => x.state.isWaiting) slot
      · rw [plan]
        exact none_
      · rw [plan]
        exact queued
      · intro e is
        exact opens e ((congrArg Slot.earliest slot).symm.trans is)
    | none =>
      cases found : t.planned? k with
      | none =>
        rw [wait, found] at plan
        rw [plan]
        exact h
      | some start =>
        rw [wait, found] at plan
        have plan : t.planSlot k = (t.putSlot k (t.openSlot k)).announce k t.spl.slots[k].unit start (t.planLength k) := plan
        have slot : (t.planSlot k).spl.slots[k] = { t.openSlot k with state := .announced } := by
          have slots := t.putSlot_announce_slots k (t.openSlot k) t.spl.slots[k].unit start (t.planLength k)
          rw [plan]
          exact (congrArg (fun v : Vector Slot 2 => v[k]) slots).trans
            ((t.putSlot_get k k { t.openSlot k with state := .announced }).trans (if_pos rfl))
        let new := t.announcedEntry k t.spl.slots[k].unit start (t.planLength k)
        have own : t.isOwnEntry k new = true := by
          rw [State.isOwnEntry, Bool.and_eq_true]
          exact ⟨decide_eq_true rfl, decide_eq_true rfl⟩
        refine ⟨stationNo.trans h.stationNo, tmu.trans h.tmu, config.trans h.config, ?_, ?_,
          .inr ⟨congrArg Slot.state slot, new, ?_, h.unit, rfl, fun isNear => ?_, ?_⟩⟩
        · exact (congrArg Slot.unit slot).trans h.unit
        · exact (congrArg Slot.withdrawals slot).trans h.withdrawals
        · rw [plan]
          exact ownEntries_insert_self (test := t.isOwnEntry k) (c := new) own none_
        · rw [← h.tmu]
          exact t.later_of_planned (near isNear) found
        · rw [plan]
          exact mem_queueIn_self _ rfl
  · rw [t.planSlot_of_settled k (by rw [announced]; rfl)]
    exact h

theorem State.planOutcome.replan (h : u.planOutcome t k) : u.planOutcome t.replan k := by
  match k with
  | 0 =>
    obtain ⟨tmu, config, -⟩ := (t.planSlot 0).planSlot_clock 1
    exact h.plan.leaves (State.planSlot_leaves _ (by decide)) tmu config
  | 1 =>
    obtain ⟨tmu, config, -⟩ := t.planSlot_clock 0
    exact (h.leaves (State.planSlot_leaves _ (by decide)) tmu config).plan

end Outcome

end Sys2Proof.Machine
end

section
/-! PROOFS. A claim that is withdrawn, and entries that expire (R151, R160, R161). -/

namespace Sys2Proof.Machine

/-! A RELEASE in the transmit queue (R27, R28). -/

section Release

variable {q : List QueueEntry} {n : Notice}

/-- A RELEASE over its slot's queued CLAIM takes the CLAIM out and is not queued. -/
theorem queueIn_of_claim (release : n.isRelease = true) (some_ : ∃ e ∈ q, e.notice.group = n.group)
    (claims : ∀ e ∈ q, e.notice.group = n.group → e.notice.isClaim = true) : ∀ e ∈ queueIn n q, e.notice.group ≠ n.group := by
  intro e mem
  cases found : sameGroup? n q with
  | none =>
    obtain ⟨d, old, group⟩ := some_
    exact absurd group (by simpa using List.find?_eq_none.mp found d old)
  | some d =>
    obtain ⟨old, group⟩ := sameGroup?_some found
    rw [queueIn, found] at mem
    dsimp only at mem
    rw [release, claims d old group] at mem
    exact of_decide_eq_true (List.mem_filter.mp mem).2

/-- A notice over no CLAIM of its group stands in the queue. -/
theorem queueIn_of_no_claim (none_ : ∀ e ∈ q, e.notice.group = n.group → e.notice.isClaim = false) :
    ∃ e ∈ queueIn n q, e.notice = n := by
  cases found : sameGroup? n q with
  | none =>
    rw [queueIn, found]
    exact ⟨_, mem_placeLast_self _ q, rfl⟩
  | some d =>
    obtain ⟨old, group⟩ := sameGroup?_some found
    rw [queueIn, found]
    dsimp only
    rw [none_ d old group, Bool.and_false]
    exact ⟨_, List.mem_map_of_mem old, by rw [if_pos group]⟩

end Release

section Withdrawn

variable (s : State) (k : SlotNo)

/-- A withdrawn claim's slot before its new plan (R161). -/
theorem State.withdrawOnly_slot : (s.withdrawOnly k).spl.slots[k] = if 9 ≤ s.spl.slots[k].withdrawals + 1 then {}
    else { s.spl.slots[k] with state := .waiting .noWindow, withdrawals := s.spl.slots[k].withdrawals + 1 } := by
  let r := (s.removeOwn k).queueRelease k s.spl.slots[k].unit .withdrawn
  have got (x : Slot) : (r.putSlot k x).spl.slots[k] = x := (r.putSlot_get k k x).trans (if_pos rfl)
  by_cases ninth : 9 ≤ s.spl.slots[k].withdrawals + 1
  · have only : s.withdrawOnly k = (r.putSlot k {}).raiseClaimFailed k .contended := if_pos ninth
    rw [only, if_pos ninth]
    exact got {}
  · have only : s.withdrawOnly k =
        r.putSlot k { s.spl.slots[k] with state := .waiting .noWindow, withdrawals := s.spl.slots[k].withdrawals + 1 } := if_neg ninth
    rw [only, if_neg ninth]
    exact got _

theorem State.withdrawOnly_queue : (s.withdrawOnly k).lif.queue =
    queueIn (.release k s.spl.slots[k].unit (Config.releaseTagFirm s.freeNext) .withdrawn) s.lif.queue := by
  rw [State.withdrawOnly]
  split <;> rfl

theorem State.withdrawOnly_entries : (s.withdrawOnly k).ownEntries k = [] := by
  rw [State.ownEntries, s.withdrawOnly_claims k, State.isOwnEntry_congr (t := s.withdrawOnly k) (s := s) (by simp)]
  rw [List.filter_filter, List.filter_eq_nil_iff]
  intro c _
  cases s.isOwnEntry k c <;> simp

theorem State.withdrawOnly_raises (ninth : 9 ≤ s.spl.slots[k].withdrawals + 1) :
    (s.withdrawOnly k).isPending (.claimFailed k) = true := by
  have only : s.withdrawOnly k = (((s.removeOwn k).queueRelease k s.spl.slots[k].unit .withdrawn).freeSlot k).raiseClaimFailed k
      .contended := if_pos ninth
  rw [only]
  exact State.isPending_raiseClaimFailed _ _ _

end Withdrawn

/-- What a withdrawal leaves of an own claim and of its slot (R161). -/
structure State.claimWithdrawn (s t : State) (k : SlotNo) (own : Claim) : Prop where
  ninth : 9 ≤ s.spl.slots[k].withdrawals + 1 → t.slotState k = .free ∧ t.isPending (.claimFailed k) = true
  counted : s.spl.slots[k].withdrawals + 1 < 9 → t.spl.slots[k].withdrawals = s.spl.slots[k].withdrawals + 1
    ∧ t.spl.slots[k].unit = s.spl.slots[k].unit ∧ (t.slotState k).planned
  unplanned : t.slotState k ≠ .announced → t.spl.claims.filter (s.isOwnEntry k) = []
    ∧ ((∃ e ∈ s.lif.queue, e.notice.group = .claim k ∧ e.notice.isClaim = true) → ∀ e ∈ t.lif.queue, e.notice.group ≠ .claim k)
    ∧ ((∀ e ∈ s.lif.queue, e.notice.group = .claim k → e.notice.isClaim = false) →
        ∃ e ∈ t.lif.queue, ∃ firm, e.notice = .release k s.spl.slots[k].unit firm .withdrawn)
  planned : t.slotState k = .announced → ∃ new, t.spl.claims.filter (s.isOwnEntry k) = [new] ∧ new.unit = s.spl.slots[k].unit
    ∧ new.firm = false ∧ ∃ e ∈ t.lif.queue, e.notice = .claim k new.unit new.start new.length false
  gone : s.nearSlot k → own ∉ t.spl.claims

section Claims

variable {s v t : State} {k : SlotNo} {own : Claim}

/-- The notices of a slot's group are those of a withdrawal that the rest has left alone. -/
theorem State.withdrawn_notices (queue : QueueOrdered s) (before : s.leavesSlot v k)
    (after : ∀ m : Notice, m.group = .claim k →
      ((∃ e ∈ t.lif.queue, e.notice = m) ↔ ∃ e ∈ (v.withdrawOnly k).lif.queue, e.notice = m)) :
    ((∃ e ∈ s.lif.queue, e.notice.group = .claim k ∧ e.notice.isClaim = true) → ∀ e ∈ t.lif.queue, e.notice.group ≠ .claim k)
    ∧ ((∀ e ∈ s.lif.queue, e.notice.group = .claim k → e.notice.isClaim = false) →
        ∃ e ∈ t.lif.queue, ∃ firm, e.notice = .release k s.spl.slots[k].unit firm .withdrawn) := by
  have old {d : QueueEntry} (mem : d ∈ v.lif.queue) (group : d.notice.group = .claim k) : ∃ e ∈ s.lif.queue, e.notice = d.notice :=
    (before.notices _ group).mp ⟨d, mem, rfl⟩
  refine ⟨fun ⟨e, mem, group, isClaim⟩ d last slot => ?_, fun none_ => ?_⟩
  · obtain ⟨x, stays, same⟩ := (after _ slot).mp ⟨d, last, rfl⟩
    rw [State.withdrawOnly_queue] at stays
    have removed := queueIn_of_claim (n := .release k v.spl.slots[k].unit (Config.releaseTagFirm v.freeNext) .withdrawn) rfl
      (by
        obtain ⟨y, queued, is⟩ := (before.notices _ group).mpr ⟨e, mem, rfl⟩
        exact ⟨y, queued, by rw [is]; exact group⟩)
      (fun y queued sameGroup => by
        obtain ⟨z, memZ, is⟩ := old queued sameGroup
        have one : z = e := List.inj_on_of_nodup_map queue.distinct memZ mem (by rw [is, group]; exact sameGroup)
        rw [← is, one]
        exact isClaim)
    exact removed x stays (by rw [same]; exact slot)
  · obtain ⟨x, stays, is⟩ := queueIn_of_no_claim (q := v.lif.queue)
      (n := .release k v.spl.slots[k].unit (Config.releaseTagFirm v.freeNext) .withdrawn) (fun y queued sameGroup => by
        obtain ⟨z, memZ, same⟩ := old queued sameGroup
        rw [← same]
        exact none_ z memZ (by rw [same]; exact sameGroup))
    rw [← State.withdrawOnly_queue] at stays
    obtain ⟨d, last, same⟩ := (after _ rfl).mpr ⟨x, stays, is⟩
    have unit : v.spl.slots[k].unit = s.spl.slots[k].unit := congrArg Slot.unit before.same.slot
    exact ⟨d, last, _, by rw [same, unit]⟩

/-- A withdrawal in a state that has the slot as before, and the plans after it, in one. -/
theorem State.claimWithdrawn_of (queue : QueueOrdered s) (entry : s.ownEntry? k = some own)
    (reached : later own.start s.tmu.lineTime = false) (before : s.leavesSlot v k) (tmu : v.tmu = s.tmu) (config : v.config = s.config)
    (ninth : 9 ≤ s.spl.slots[k].withdrawals + 1 → (v.withdrawOnly k).leavesSlot t k)
    (counted : s.spl.slots[k].withdrawals + 1 < 9 → (v.withdrawOnly k).planOutcome t k) : s.claimWithdrawn t k own := by
  have counts : v.spl.slots[k].withdrawals = s.spl.slots[k].withdrawals := congrArg Slot.withdrawals before.same.slot
  have unit : v.spl.slots[k].unit = s.spl.slots[k].unit := congrArg Slot.unit before.same.slot
  have only : (v.withdrawOnly k).stationNo = v.stationNo := by simp
  have slot := v.withdrawOnly_slot k
  have isOwn : s.isOwnEntry k own = true := List.find?_some entry
  rw [counts] at slot
  by_cases isNinth : 9 ≤ s.spl.slots[k].withdrawals + 1
  · have left := ninth isNinth
    rw [if_pos isNinth] at slot
    have free : t.slotState k = .free := by rw [left.same.state, State.slotState, slot]
    have station : t.stationNo = s.stationNo := left.same.stationNo.trans (only.trans before.same.stationNo)
    have none_ : t.spl.claims.filter (s.isOwnEntry k) = [] := by
      rw [← State.isOwnEntry_congr station]
      exact left.same.entries.trans (v.withdrawOnly_entries k)
    refine ⟨fun _ => ⟨free, left.pending _ (v.withdrawOnly_raises k (by rw [counts]; exact isNinth))⟩, fun few => absurd isNinth (not_le.mpr few),
      fun _ => ⟨none_, State.withdrawn_notices queue before left.notices⟩, fun announced => (nomatch free.symm.trans announced),
      fun _ mem => ?_⟩
    exact List.filter_eq_nil_iff.mp none_ own mem isOwn
  · have few := not_le.mp isNinth
    have outcome := counted few
    rw [if_neg isNinth] at slot
    have station : t.stationNo = s.stationNo := outcome.stationNo.trans (only.trans before.same.stationNo)
    have withdrawals : t.spl.slots[k].withdrawals = s.spl.slots[k].withdrawals + 1 := by
      rw [outcome.withdrawals]
      exact congrArg Slot.withdrawals slot
    have unitIs : (v.withdrawOnly k).spl.slots[k].unit = s.spl.slots[k].unit := (congrArg Slot.unit slot).trans unit
    have entries : t.spl.claims.filter (s.isOwnEntry k) = t.ownEntries k := by
      rw [State.ownEntries, State.isOwnEntry_congr station]
    have clock : (v.withdrawOnly k).tmu.lineTime = s.tmu.lineTime := by
      have same : (v.withdrawOnly k).tmu = v.tmu := by simp
      rw [same, tmu]
    rcases outcome.outcome with ⟨waits, none_, notices, -⟩ | ⟨announced, new, one, newUnit, tentative, ahead, queued⟩
    · rw [← entries] at none_
      refine ⟨fun nine => absurd nine isNinth, fun _ => ⟨withdrawals, outcome.unit.trans unitIs, .inr (SlotState.waiting_of_isWaiting waits)⟩,
        fun _ => ⟨none_, State.withdrawn_notices queue before notices⟩, fun announced => ?_, fun _ mem => ?_⟩
      · rw [announced] at waits
        cases waits
      · exact List.filter_eq_nil_iff.mp none_ own mem isOwn
    · rw [← entries] at one
      refine ⟨fun nine => absurd nine isNinth, fun _ => ⟨withdrawals, outcome.unit.trans unitIs, .inl announced⟩,
        fun other => absurd announced other, fun _ => ⟨new, one, newUnit.trans unitIs, tentative, queued⟩, fun near mem => ?_⟩
      have isNew : own = new := List.mem_singleton.mp (one ▸ List.mem_filter.mpr ⟨mem, isOwn⟩)
      have nearThen : (v.withdrawOnly k).nearSlot k := by
        have same : (v.withdrawOnly k).config = v.config := by simp
        refine ⟨by rw [same, config]; exact near.1, fun e is later_ => ?_⟩
        rw [clock] at later_ ⊢
        refine near.2 e ?_ later_
        exact (congrArg Slot.earliest before.same.slot).symm.trans ((congrArg Slot.earliest slot).symm.trans is)
      have later_ := ahead nearThen
      rw [clock, ← isNew, reached] at later_
      cases later_

end Claims

/-! Entries that expire (R151). -/

section Expiry

variable (s : State) {k : SlotNo}

/-- The expiry leaves a slot whose entry does not expire. -/
theorem State.expireOnly_leaves (stays : ∀ c ∈ s.spl.claims, s.isOwnEntry k c = true → c.expiredAt s.now = false) :
    s.leavesSlot s.expireOnly.1 k := by
  obtain ⟨-, -, -, claims⟩ := s.expireOnly_spl
  have station : s.expireOnly.1.stationNo = s.stationNo := by simp
  have kept : (s.spl.claims.filter (·.expiredAt s.now)).any (s.isOwnEntry k) = false := by
    rw [List.any_eq_false]
    intro c mem own
    obtain ⟨mem, expired⟩ := List.mem_filter.mp mem
    rw [stays c mem own] at expired
    cases expired
  refine State.leavesSlot_of_lif ⟨station, ?_, ?_⟩ (by simp) (State.keepsPending_of_attention (by simp))
  · rw [s.expireOnly_slot k, kept]
    rfl
  · rw [State.ownEntries, State.isOwnEntry_congr station, claims, List.filter_filter, State.ownEntries]
    refine List.filter_congr fun c mem => ?_
    by_cases own : s.isOwnEntry k c = true
    · rw [own, stays c mem own]
      rfl
    · rw [Bool.eq_false_iff.mpr own, Bool.false_and]

/-- The expiry frees a slot whose entry expires. -/
theorem State.expireOnly_frees {c : Claim} (mem : c ∈ s.spl.claims) (own : s.isOwnEntry k c = true) (expired : c.expiredAt s.now = true) :
    s.expireOnly.1.slotState k = .free := by
  have gone : (s.spl.claims.filter (·.expiredAt s.now)).any (s.isOwnEntry k) = true :=
    List.any_eq_true.mpr ⟨c, List.mem_filter.mpr ⟨mem, expired⟩, own⟩
  rw [State.slotState, s.expireOnly_slot k, if_pos gone]

/-- The expiry leaves a slot as it is or makes it FREE. -/
theorem State.expireOnly_state (k : SlotNo) : s.expireOnly.1.slotState k = .free ∨ s.expireOnly.1.slotState k = s.slotState k := by
  rw [State.slotState, s.expireOnly_slot k]
  split
  · exact .inl rfl
  · exact .inr rfl

theorem State.mem_expireOnly {c : Claim} : c ∈ s.expireOnly.1.spl.claims ↔ c ∈ s.spl.claims ∧ later c.endTime s.tmu.lineTime = true := by
  obtain ⟨-, -, -, claims⟩ := s.expireOnly_spl
  rw [claims, List.mem_filter, Claim.expiredAt, reached, Bool.not_not]
  rfl

end Expiry

end Sys2Proof.Machine
end

section
/-! PROOFS. Own starts that are reached, the expiry of entries, and a time step at the planner (R151, R157, R160, R161,
R169). -/

namespace Sys2Proof.Machine

section Due

variable {s v t : State} {k j : SlotNo} {own c : Claim}

/-- A slot's claim is withdrawn by the step (R160, R169). -/
theorem State.ownStartDue_iff : s.ownStartDue k = true ↔
    (s.slotState k).unsettled = true ∧ ∃ c, s.ownEntry? k = some c ∧ later c.start s.tmu.lineTime = false := by
  rw [State.ownStartDue, Bool.and_eq_true, Option.any_eq_true]
  refine and_congr_right fun _ => exists_congr fun c => and_congr_right fun _ => ?_
  exact reached_iff

theorem State.sameSlot.ownEntry? (same : s.sameSlot t k) : t.ownEntry? k = s.ownEntry? k := by
  have entries := same.entries
  rw [State.ownEntries, State.ownEntries] at entries
  rw [State.ownEntry?, State.ownEntry?, ← List.head?_filter, ← List.head?_filter, entries]

theorem State.sameSlot.ownStartDue (same : s.sameSlot t k) (tmu : t.tmu = s.tmu) : t.ownStartDue k = s.ownStartDue k := by
  rw [State.ownStartDue, State.ownStartDue, same.state, same.ownEntry?, State.now, State.now, tmu]

theorem State.stepWithdraw_leaves (s : State) (other : k ≠ j) : s.leavesSlot (s.stepWithdraw j) k := by
  unfold State.stepWithdraw
  split
  · exact s.withdrawOnly_leaves other
  · exact .refl s k

/-- The first reaction to a step removes a due slot's own entries, and no others. -/
theorem State.mem_stepWithdraw :
    c ∈ (s.stepWithdraw k).spl.claims ↔ c ∈ s.spl.claims ∧ ¬(s.ownStartDue k = true ∧ s.isOwnEntry k c = true) := by
  rw [State.stepWithdraw]
  split
  · rename_i due
    rw [s.withdrawOnly_claims k, List.mem_filter, due, Bool.not_eq_true', ← Bool.not_eq_true]
    exact and_congr_right fun _ => not_congr (and_iff_right rfl).symm
  · rename_i notDue
    exact (and_iff_left fun both => notDue both.1).symm

/-- The state of a step once the due claims are withdrawn (R169). -/
def State.dueWithdrawn (s : State) : State := (s.stepWithdraw 0).stepWithdraw 1

theorem State.dueWithdrawn_clock (s : State) : s.dueWithdrawn.tmu = s.tmu ∧ s.dueWithdrawn.config = s.config
    ∧ s.dueWithdrawn.stationNo = s.stationNo := by
  simp [State.dueWithdrawn]

/-- A slot is treated in a state that has it as before, and left by what follows. -/
theorem State.dueWithdrawn_from (s : State) (k : SlotNo) : ∃ v : State, s.leavesSlot v k ∧ v.tmu = s.tmu ∧ v.config = s.config
    ∧ (v.stepWithdraw k).leavesSlot s.dueWithdrawn k := by
  match k with
  | 0 => exact ⟨s, .refl s 0, rfl, rfl, State.stepWithdraw_leaves _ (by decide)⟩
  | 1 => exact ⟨s.stepWithdraw 0, s.stepWithdraw_leaves (by decide), by simp, by simp, .refl _ 1⟩

/-- The entries that remain once the due claims are withdrawn. -/
theorem State.mem_dueWithdrawn : c ∈ s.dueWithdrawn.spl.claims ↔
    c ∈ s.spl.claims ∧ ∀ k, s.ownStartDue k = true → s.isOwnEntry k c = false := by
  have first := s.stepWithdraw_leaves (k := 1) (j := 0) (by decide)
  have tmu : (s.stepWithdraw 0).tmu = s.tmu := by simp
  rw [State.dueWithdrawn, State.mem_stepWithdraw, State.mem_stepWithdraw, first.same.ownStartDue tmu,
    State.isOwnEntry_congr first.same.stationNo, and_assoc]
  refine and_congr_right fun _ => ⟨fun ⟨zero, one⟩ k due => ?_, fun all => ⟨fun both => ?_, fun both => ?_⟩⟩
  · match k with
    | 0 => exact Bool.eq_false_iff.mpr fun own => zero ⟨due, own⟩
    | 1 => exact Bool.eq_false_iff.mpr fun own => one ⟨due, own⟩
  · exact Bool.false_ne_true ((all 0 both.1).symm.trans both.2)
  · exact Bool.false_ne_true ((all 1 both.1).symm.trans both.2)

/-- A slot whose claim is not due is left. -/
theorem State.dueWithdrawn_leaves (notDue : s.ownStartDue k = false) : s.leavesSlot s.dueWithdrawn k := by
  obtain ⟨v, before, tmu, -, after⟩ := s.dueWithdrawn_from k
  have same : v.stepWithdraw k = v := if_neg (by rw [before.same.ownStartDue tmu, notDue]; nofun)
  rw [same] at after
  exact before.trans after

/-- The planner's whole answer to a step in RUN (R169). -/
theorem State.plannerStep_eq (run : s.svp.station = .run) : s.plannerStep = s.dueWithdrawn.expireOnly.1.replan :=
  if_pos (decide_eq_true run)

end Due

/-! The slots after a step. -/

section Step

variable {s : State} {k : SlotNo} {own c : Claim} (pumps : PumpsAgree s)

/-- The entry of a slot is its only one. -/
theorem State.ownEntry?_of_own (pumps : PumpsAgree s) (mem : c ∈ s.spl.claims) (isOwn : s.isOwnEntry k c = true) :
    s.ownEntry? k = some c := by
  have isSome : (s.ownEntry? k).isSome = true := List.find?_isSome.mpr ⟨c, mem, isOwn⟩
  obtain ⟨d, entry⟩ := Option.isSome_iff_exists.mp isSome
  have one := (State.ownEntries_of_pumps pumps entry).1
  have memOwn : c ∈ s.ownEntries k := List.mem_filter.mpr ⟨mem, isOwn⟩
  rw [one, List.mem_singleton] at memOwn
  rw [entry, memOwn]

/-- A claim that is due is withdrawn by the step (R169). -/
theorem State.plannerStep_withdraws (queue : QueueOrdered s) (unsettled : (s.slotState k).unsettled = true)
    (entry : s.ownEntry? k = some own) (reached : later own.start s.tmu.lineTime = false) :
    s.claimWithdrawn s.dueWithdrawn.expireOnly.1.replan k own := by
  obtain ⟨v, before, tmu, config, after⟩ := s.dueWithdrawn_from k
  have due : v.ownStartDue k = true :=
    (before.same.ownStartDue tmu).trans (State.ownStartDue_iff.mpr ⟨unsettled, own, entry, reached⟩)
  rw [show v.stepWithdraw k = v.withdrawOnly k from if_pos due] at after
  have counts : v.spl.slots[k].withdrawals = s.spl.slots[k].withdrawals := congrArg Slot.withdrawals before.same.slot
  have slot := v.withdrawOnly_slot k
  rw [counts] at slot
  have none_ : s.dueWithdrawn.ownEntries k = [] := after.same.entries.trans (v.withdrawOnly_entries k)
  have expiry : s.dueWithdrawn.leavesSlot s.dueWithdrawn.expireOnly.1 k :=
    State.expireOnly_leaves _ fun c mem isOwn => absurd isOwn (List.filter_eq_nil_iff.mp none_ c mem)
  refine State.claimWithdrawn_of queue entry reached before tmu config (fun ninth => ?_) fun few => ?_
  · rw [if_pos ninth] at slot
    have left := after.trans expiry
    refine left.trans (State.replan_leaves _ ?_)
    rw [left.same.state, State.slotState, slot]
    rfl
  · rw [if_neg (not_le.mpr few)] at slot
    have waits : ((v.withdrawOnly k).slotState k).isWaiting = true := congrArg (fun x : Slot => x.state.isWaiting) slot
    obtain ⟨tmuThen, configThen, -⟩ := s.dueWithdrawn_clock
    have clock : s.dueWithdrawn.tmu = (v.withdrawOnly k).tmu ∧ s.dueWithdrawn.config = (v.withdrawOnly k).config := by
      have sameTmu : (v.withdrawOnly k).tmu = v.tmu := by simp
      have sameConfig : (v.withdrawOnly k).config = v.config := by simp
      rw [sameTmu, sameConfig, tmu, config]
      exact ⟨tmuThen, configThen⟩
    exact (((State.planOutcome.refl waits (v.withdrawOnly_entries k)).leaves after clock.1 clock.2).leaves expiry
      (by simp) (by simp)).replan

include pumps in
/-- An own entry that expires frees its slot (R151). -/
theorem State.expiry_frees {u : State} (same : s.leavesSlot u k) (tmu : u.tmu = s.tmu) (entry : s.ownEntry? k = some own)
    (ended : later own.endTime s.tmu.lineTime = false) : u.expireOnly.1.replan.slotState k = .free := by
  have mem : own ∈ u.spl.claims := same.same.mem (State.ownEntries_of_pumps pumps entry).1
  have isOwn : u.isOwnEntry k own = true := by
    rw [State.isOwnEntry_congr same.same.stationNo]
    exact List.find?_some entry
  have free := u.expireOnly_frees mem isOwn (reached_iff.mpr (by rw [State.now, tmu]; exact ended))
  rw [(State.replan_leaves _ (by rw [free]; rfl)).same.state, free]

include pumps in
/-- A slot whose entry is neither due nor ended is left by the step. -/
theorem State.plannerStep_stays (notDue : s.ownStartDue k = false) (entry : s.ownEntry? k = some own)
    (ahead : later own.endTime s.tmu.lineTime = true) : s.leavesSlot s.dueWithdrawn.expireOnly.1.replan k := by
  obtain ⟨one, settled⟩ := State.ownEntries_of_pumps pumps entry
  have same := State.dueWithdrawn_leaves notDue
  obtain ⟨tmu, -, -⟩ := s.dueWithdrawn_clock
  have expiry : s.dueWithdrawn.leavesSlot s.dueWithdrawn.expireOnly.1 k := by
    refine State.expireOnly_leaves _ fun c mem isOwn => ?_
    have memOwn : c ∈ s.dueWithdrawn.ownEntries k := List.mem_filter.mpr ⟨mem, isOwn⟩
    rw [same.same.entries, one, List.mem_singleton] at memOwn
    rw [memOwn, Claim.expiredAt, Machine.reached, State.now, tmu, ahead]
    rfl
  have left := same.trans expiry
  exact left.trans (State.replan_leaves _ (by rw [left.same.state]; exact settled))

/-- A FREE slot stays so. -/
theorem State.plannerStep_free (free : s.slotState k = .free) : s.dueWithdrawn.expireOnly.1.replan.slotState k = .free := by
  have notDue : s.ownStartDue k = false := by rw [State.ownStartDue, free]; rfl
  have same := State.dueWithdrawn_leaves notDue
  have expired : s.dueWithdrawn.expireOnly.1.slotState k = .free := by
    rcases s.dueWithdrawn.expireOnly_state k with freed | kept
    · exact freed
    · rw [kept, same.same.state, free]
  rw [(State.replan_leaves _ (by rw [expired]; rfl)).same.state, expired]

include pumps in
/-- A slot that waits is planned again. -/
theorem State.plannerStep_plans_again {why : WaitReason} (waiting : s.slotState k = .waiting why) :
    (s.dueWithdrawn.expireOnly.1.replan.slotState k).planned := by
  have notDue : s.ownStartDue k = false := by rw [State.ownStartDue, waiting]; rfl
  have same := State.dueWithdrawn_leaves notDue
  have none_ : s.dueWithdrawn.ownEntries k = [] := same.same.entries.trans (pumps.none k (by rw [waiting]; rfl))
  have expiry : s.dueWithdrawn.leavesSlot s.dueWithdrawn.expireOnly.1 k :=
    State.expireOnly_leaves _ fun c mem isOwn => absurd isOwn (List.filter_eq_nil_iff.mp none_ c mem)
  exact (State.replan_slot _ k (by rw [(same.trans expiry).same.state, waiting]; rfl)).1

end Step

/-- Settles O39: the withdrawal at a start reached, the expiry, and the step that does both. -/
theorem claimsAreWithdrawnAndExpire : Obligations.ClaimsAreWithdrawnAndExpire := by
  intro s pumps queue due near withdrawn
  have isWithdrawn {t : State} {k : SlotNo} {own : Claim} (h : s.claimWithdrawn t k own) : withdrawn t k own :=
    ⟨h.ninth, h.counted, h.unplanned, h.planned, fun near => h.gone ⟨near.1, near.2 k⟩⟩
  refine ⟨fun k own run unsettled entry => ⟨fun reached => ?_, fun ahead => ?_⟩, fun enabled ended => ?_, fun ahead => ?_,
    fun e run => ?_⟩
  · have isDue := State.ownStartDue_iff.mpr ⟨unsettled, own, entry, reached⟩
    have ran : exec (.ownStartReached k) s = .next (s.withdraw k).replan :=
      congrArg Host.Outcome.next (if_pos (Bool.and_eq_true_iff.mpr ⟨decide_eq_true run, isDue⟩))
    refine ⟨_, ran, ?_, fun c mem other => ?_, isWithdrawn ?_⟩
    · simp [State.onlyChanges, Part.all, Part.same]
    · have foreign : s.isOwnEntry k c = false := by
        refine Bool.eq_false_iff.mpr fun isOwn => other ?_
        exact Option.some.inj ((State.ownEntry?_of_own pumps mem isOwn).symm.trans entry)
      refine State.mem_replan (State.mem_planSlot ?_ k)
      rw [s.withdrawOnly_claims k]
      exact List.mem_filter.mpr ⟨mem, by rw [foreign]; rfl⟩
    · have slot := s.withdrawOnly_slot k
      refine State.claimWithdrawn_of queue entry reached (.refl s k) rfl rfl (fun ninth => ?_) fun few => ?_
      · rw [if_pos ninth] at slot
        have free : ((s.withdrawOnly k).slotState k).isWaiting = false := congrArg (fun x : Slot => x.state.isWaiting) slot
        rw [State.withdraw, State.planSlot_of_settled _ k free]
        exact State.replan_leaves _ free
      · rw [if_neg (not_le.mpr few)] at slot
        have waits : ((s.withdrawOnly k).slotState k).isWaiting = true := congrArg (fun x : Slot => x.state.isWaiting) slot
        exact (State.planOutcome.refl waits (s.withdrawOnly_entries k)).plan.replan
  · refine congrArg Host.Outcome.next (if_neg fun both => ?_)
    obtain ⟨-, c, found, reached⟩ := State.ownStartDue_iff.mp (Bool.and_eq_true_iff.mp both).2
    rw [Option.some.inj (found.symm.trans entry), ahead] at reached
    cases reached
  · have isDue : s.expiryDue = true := by
      obtain ⟨c, mem, reached⟩ := ended
      exact Bool.and_eq_true_iff.mpr ⟨enabled, List.any_eq_true.mpr ⟨c, mem, reached_iff.mpr reached⟩⟩
    have removed : s.expireOnly.2 = true := by
      obtain ⟨c, mem, reached⟩ := ended
      have gone : c ∈ s.spl.claims.filter (·.expiredAt s.now) := List.mem_filter.mpr ⟨mem, reached_iff.mpr reached⟩
      show (!(s.spl.claims.filter (·.expiredAt s.now)).isEmpty) = true
      cases all : s.spl.claims.filter (·.expiredAt s.now) with
      | nil => rw [all] at gone; cases gone
      | cons => rfl
    have ran : exec .entryExpiry s = .next s.expireOnly.1.replan :=
      congrArg Host.Outcome.next ((if_pos isDue).trans (if_pos removed))
    have station : s.expireOnly.1.stationNo = s.stationNo := by simp
    refine ⟨_, ran, ?_, fun c mem ahead => State.mem_replan (s.mem_expireOnly.mpr ⟨mem, ahead⟩), fun c mem => ?_,
      fun k own entry reached => State.expiry_frees pumps (.refl s k) rfl entry reached⟩
    · simp [State.onlyChanges, Part.all, Part.same]
    · rcases s.expireOnly.1.replan_enters mem with old | ⟨k, own, waits, announced, -⟩
      · exact .inl (s.mem_expireOnly.mp old)
      · rw [State.isOwnEntry_congr station] at own
        refine .inr ⟨k, own, SlotState.waiting_of_isWaiting ?_, announced⟩
        rcases s.expireOnly_state k with free | same
        · rw [free] at waits
          cases waits
        · rw [← same]
          exact waits
  · refine congrArg Host.Outcome.next (if_neg fun isDue => ?_)
    obtain ⟨c, mem, expired⟩ := List.any_eq_true.mp (Bool.and_eq_true_iff.mp isDue).2
    exact Bool.false_ne_true ((reached_iff.mp expired).symm.trans (ahead c mem))
  · intro t stays
    have isT : t = s.dueWithdrawn.expireOnly.1.replan := State.plannerStep_eq run
    obtain ⟨tmu, -, station⟩ := s.dueWithdrawn_clock
    have stationThen : s.dueWithdrawn.expireOnly.1.stationNo = s.stationNo := by
      rw [← station]
      simp
    have remains (c : Claim) : c ∈ s.dueWithdrawn.expireOnly.1.spl.claims ↔ c ∈ s.spl.claims ∧ stays c := by
      rw [State.mem_expireOnly, State.mem_dueWithdrawn, tmu, and_assoc]
      refine and_congr_right fun mem => ⟨fun ⟨apart, ahead⟩ => ⟨ahead, fun k isDue => ?_⟩, fun ⟨ahead, apart⟩ => ⟨fun k isDue => ?_, ahead⟩⟩
      · obtain ⟨unsettled, entry, reached⟩ := isDue
        have foreign := apart k (State.ownStartDue_iff.mpr ⟨unsettled, c, entry, reached⟩)
        exact Bool.false_ne_true (foreign.symm.trans (List.find?_some (p := s.isOwnEntry k) entry))
      · refine Bool.eq_false_iff.mpr fun isOwn => ?_
        have entry := State.ownEntry?_of_own pumps mem isOwn
        obtain ⟨unsettled, d, found, reached⟩ := State.ownStartDue_iff.mp isDue
        rw [Option.some.inj (found.symm.trans entry)] at reached
        exact apart k ⟨unsettled, entry, reached⟩
    have notDue {k : SlotNo} {own : Claim} (entry : s.ownEntry? k = some own) (isNot : ¬due k own) : s.ownStartDue k = false := by
      refine Bool.eq_false_iff.mpr fun isDue => isNot ?_
      obtain ⟨unsettled, d, found, reached⟩ := State.ownStartDue_iff.mp isDue
      rw [Option.some.inj (found.symm.trans entry)] at reached
      exact ⟨unsettled, entry, reached⟩
    rw [isT]
    refine ⟨?_, fun c mem kept => State.mem_replan ((remains c).mpr ⟨mem, kept⟩), fun c mem => ?_, fun k => ⟨fun own isDue => ?_,
      fun own entry isNot reached => ?_, fun own entry kept => ?_, fun free => State.plannerStep_free free,
      fun ⟨why, waiting⟩ => State.plannerStep_plans_again pumps waiting⟩⟩
    · rw [← isT]
      simp [t, State.deliverStep, State.onlyChanges, Part.all, Part.same]
    · rcases State.replan_enters _ mem with old | ⟨k, own, -, announced, tentative⟩
      · exact .inl ((remains c).mp old)
      · rw [State.isOwnEntry_congr stationThen] at own
        exact .inr ⟨k, own, announced, tentative⟩
    · obtain ⟨unsettled, entry, reached⟩ := isDue
      exact isWithdrawn (State.plannerStep_withdraws queue unsettled entry reached)
    · exact State.expiry_frees pumps (State.dueWithdrawn_leaves (notDue entry isNot)) tmu entry reached
    · exact (State.plannerStep_stays pumps (notDue entry (kept.2 k)) entry kept.1).same.slot

end Sys2Proof.Machine
end
